-- ==== Sys2Proof/Word.lean ====
section
/-! DEFINITION. The words of the WZP-24's interfaces and the index types of its tables.
A byte crosses the ports and the trunk; a half word is a counter that the manual gives the range 0..65535 and lets wrap. -/

namespace Sys2Proof

/-- One byte of a port or trunk frame. -/
abbrev Byte := BitVec 8

/-- A wrapping counter of range 0..65535 (R11, R46, R71). -/
abbrev Half := BitVec 16

/-- A chain position. Position p of the manual (1..24) is index p − 1. -/
abbrev Pos := Fin 24

/-- A link. Link k of the manual (1..23), joining positions k and k+1, is index k − 1. -/
abbrev LinkIx := Fin 23

/-- A plan slot, 0..15 (R19). -/
abbrev SlotIx := Fin 16

/-- A preemption vector, 0..7 (R140). -/
abbrev VecIx := Fin 8

/-- A preemption line. Line Pk of the manual is index k − 1 and serves vector k − 1 (R136). -/
abbrev LineIx := Fin 4

end Sys2Proof
end

