-- ==== Sys2Proof/Machine/Arith.lean ====
section
/-! DEFINITION. The manual's arithmetic conventions (00_scope.md, Conventions): rounding, modulo, limiting, counters. -/

namespace Sys2Proof.Machine

/-- "Round half up" of a/b: floor((2a + b) / (2b)). -/
def roundHalfUp (a b : Nat) : Nat := (2 * a + b) / (2 * b)

/-- ceil(a / b). -/
def ceilDiv (a b : Nat) : Nat := (a + b - 1) / b

/-- "A mod C" for an integer A: the remainder in 0..C−1, also when A is negative. -/
def modC (a : Int) (c : Nat) : Nat := (a % (c : Int)).toNat

/-- A value "limited to" lo..hi. -/
def limitTo (lo hi x : Nat) : Nat := if x < lo then lo else if hi < x then hi else x

/-- A saturating counter of range 0..top. -/
def satInc (top n : Nat) : Nat := if n < top then n + 1 else n

/-- The green length of a window (s, e): (e − s) mod C. -/
def greenLength (s e c : Nat) : Nat := modC ((e : Int) - (s : Int)) c

/-- Travel time in ds over a length in m at a speed in km/h: round half up of 36 × L / v (R55, R78). -/
def travelTime (length speed : Nat) : Nat := roundHalfUp (36 * length) speed

/-- A moved a quarter of the way toward a new value, rounded half up: (3 × old + new + 2) div 4 (R56, R62). -/
def smooth (old new : Nat) : Nat := (3 * old + new + 2) / 4

end Sys2Proof.Machine
end

