-- ==== Sys2Proof/Config.lean ====
section
/-! DEFINITION. The values the manual leaves open. Each is a constant without a body, so nothing can be proved of
its value and a statement holds whatever it is. The second can stand in the kind byte of a reply; the other two only in bytes put out. -/

namespace Sys2Proof

/-- The tag byte of an ALERT record's port frame: R174 says that the ALERT carries no request tag, R185 gives every
frame a tag byte, and no rule says what it holds. Applied to the alert sequence number. Free value, assumption 7. -/
opaque Config.alertTag : Byte → Byte

/-- The kind byte of the reply to a request whose kind is above 127: R181 adds 128 to the request's kind, and no rule
says what a sum above 255 gives. Applied to the request's kind. Free value, assumption 8. -/
opaque Config.replyKindAbove : Byte → Byte

/-- The length byte of a port frame whose kind, tag and body hold more than 250 bytes: R178 gives lengths 2..250 only,
and the reply of Q-PRE can be longer. Applied to the number of bytes. Free value, assumption 9. -/
opaque Config.lengthAbove : Nat → Byte

end Sys2Proof
end

