-- ==== Sys2Proof/Syntax.lean ====
section
/-! DEFINITION. The commands of the block: one constructor per row of spec/opcode_table.json, with the row's operands.

A request (the first 39 rows) is named by the port that carries it, its tag and its body bytes as R185 and R182 lay
them out. An event of a timer or of an input line, and a LINE-SET, carry the internal-oscillator time, in ms since the last restart, at
which they happen, because a rule measures from that time (R137, R139, R40, R42; assumption 5). -/

namespace Sys2Proof

/-- The two ports (chapter 11), numbered as R19 lists them. -/
inductive PortId where
  | centre
  | field
deriving DecidableEq, Repr

/-- The debounced input lines: P1 to P4, HOLD, DETACH and KEY (R137, R156). -/
inductive LineId where
  | preempt (k : LineIx)
  | hold
  | detach
  | key
deriving DecidableEq, Repr

/-- When the Band Computer takes the triggers of a rollover, relative to the Measurement Unit's two events of that
rollover: the rollover itself and the activation, if any. R76, R66 and R67 leave the order open and give each outcome. -/
inductive BandMoment where
  | afterBoth
  | beforeBoth
  | betweenRolloverAndActivation
  | betweenActivationAndRollover
deriving DecidableEq, Repr

/-- When the Preemption Unit takes the end of a decisecond, relative to the clock and to the blocks that take a rollover after
it: before the clock advances, after that and before the seeks take the rollover, after the seeks and before the Band Computer,
or after all. R46, R147 and R171 leave the order open. At a boundary that is no rollover the last three are one moment. -/
inductive HoldMoment where
  | beforeClock
  | beforeSeeks
  | beforeBand
  | afterAll
deriving DecidableEq, Repr

/-- The order in which the blocks take a decisecond boundary. The manual leaves it open (R46, R47, R76, R171): it comes
with the event, so every order is a command (assumption 12). -/
structure BoundaryOrder where
  hold : HoldMoment
  band : BandMoment
deriving DecidableEq, Repr

/-- A frame received on the trunk that is not the answer awaited (R122). -/
inductive TrunkReject where
  /-- its check is bad -/
  | badCheck
  /-- its check is good, and it carries this address, kind and body -/
  | wellChecked (addr kind : Byte) (body : List Byte)
deriving DecidableEq, Repr

/-- The body of a request whose rule measures from the time at which it is taken, with that time. -/
structure TimedBody where
  bytes : List Byte
  time : Nat
deriving DecidableEq, Repr

/-- The commands: the requests taken at the ports, and the events of the ports, the clock, the lines, the computation
and the trunk. -/
inductive Instr where
  | chainLink (p : PortId) (tag : Byte) (body : List Byte)
  | enrol (p : PortId) (tag : Byte) (body : List Byte)
  | exclude (p : PortId) (tag : Byte) (body : List Byte)
  | planOpen (p : PortId) (tag : Byte) (body : List Byte)
  | planEntry (p : PortId) (tag : Byte) (body : List Byte)
  | planClose (p : PortId) (tag : Byte) (body : List Byte)
  | planDrop (p : PortId) (tag : Byte) (body : List Byte)
  | planLock (p : PortId) (tag : Byte) (body : List Byte)
  | planUnlock (p : PortId) (tag : Byte) (body : List Byte)
  | planSelect (p : PortId) (tag : Byte) (body : List Byte)
  | start (p : PortId) (tag : Byte) (body : List Byte)
  | stop (p : PortId) (tag : Byte) (body : List Byte)
  | hold (p : PortId) (tag : Byte) (body : List Byte)
  | resume (p : PortId) (tag : Byte) (body : List Byte)
  | fallback (p : PortId) (tag : Byte) (body : List Byte)
  | policy (p : PortId) (tag : Byte) (body : List Byte)
  | timebase (p : PortId) (tag : Byte) (body : List Byte)
  | beaconSet (p : PortId) (tag : Byte) (body : List Byte)
  | compute (p : PortId) (tag : Byte) (body : List Byte)
  | vectorSet (p : PortId) (tag : Byte) (body : List Byte)
  /-- the measurement of the line restarts at the time the body comes with (R139) -/
  | lineSet (p : PortId) (tag : Byte) (body : TimedBody)
  | preCall (p : PortId) (tag : Byte) (body : List Byte)
  | preClear (p : PortId) (tag : Byte) (body : List Byte)
  | faultClear (p : PortId) (tag : Byte) (body : List Byte)
  | alertEnable (p : PortId) (tag : Byte) (body : List Byte)
  | alertClear (p : PortId) (tag : Byte) (body : List Byte)
  | restart (p : PortId) (tag : Byte) (body : List Byte)
  | erase (p : PortId) (tag : Byte) (body : List Byte)
  | qStatus (p : PortId) (tag : Byte) (body : List Byte)
  | qChain (p : PortId) (tag : Byte) (body : List Byte)
  | qJunction (p : PortId) (tag : Byte) (body : List Byte)
  | qPlan (p : PortId) (tag : Byte) (body : List Byte)
  | qPool (p : PortId) (tag : Byte) (body : List Byte)
  | qMeasure (p : PortId) (tag : Byte) (body : List Byte)
  | qBand (p : PortId) (tag : Byte) (body : List Byte)
  | qPre (p : PortId) (tag : Byte) (body : List Byte)
  | qFault (p : PortId) (tag : Byte) (body : List Byte)
  | qAlert (p : PortId) (tag : Byte) (body : List Byte)
  /-- a request whose kind byte is no request kind -/
  | unknownKind (p : PortId) (kind tag : Byte) (body : List Byte)
  /-- these bytes arrive at the port, in this order and without a pause above 100 ms -/
  | portFrame (p : PortId) (bytes : List Byte)
  | portPause (p : PortId)
  | replyEnd (p : PortId)
  | alertRecord
  | powerOn
  | decisecond (order : BoundaryOrder)
  | rollover (order : BoundaryOrder)
  | refPulse (time : Nat)
  | silenceLimit (time : Nat)
  /-- the input of the line changes to this level (high or low) at this time -/
  | lineInputChange (line : LineId) (high : Bool) (time : Nat)
  | preLineSettle (line : LineIx) (time : Nat)
  | holdLineActive (time : Nat)
  | holdLineInactive (time : Nat)
  | detachLineActive (time : Nat)
  | detachLineInactive (time : Nat)
  | keyLineActive (time : Nat)
  | keyLineInactive (time : Nat)
  | causeExpiry (v : VecIx)
  | computationCompletion
  /-- the arbiter grants the waiting beacon -/
  | beacon
  /-- the arbiter grants the next STEP of the round -/
  | stepFrame
  /-- the arbiter grants a PREEMPT order -/
  | preemptFrame
  /-- the arbiter grants a RELEASE order -/
  | releaseFrame
  /-- the arbiter reaches the PROBE of the round -/
  | probeFrame
  /-- a trunk frame of kind REPORT with a good check is received from this address -/
  | report (addr : Byte) (body : List Byte)
  /-- a trunk frame of kind ACK with a good check is received from this address -/
  | ack (addr : Byte) (body : List Byte)
  /-- a trunk frame of kind ANSWER with a good check is received from this address -/
  | answer (addr : Byte) (body : List Byte)
  | trunkBadFrame (frame : TrunkReject)
  | responseWindowExpiry
  | receiveBufferFull (p : PortId) (byte : Byte)
  /-- supply is lost; `torn` says whether the loss falls before the last store write is complete -/
  | powerLoss (torn : Bool)
deriving DecidableEq, Repr

end Sys2Proof
end

