-- ==== Sys2Proof/Machine/State.lean ====
section
/-! DEFINITION. The state of the block as plain data: the state each functional block owns (00_scope.md, functional
overview), the configuration store (R167), the levels at the input pins, the frames last put out, and the queue of waiting
commands. Where a field of the manual is present only in one case of another field (a drop address, an exclusion cause, the
remaining of a seek, the entries of a slot), the case carries it, so it cannot be present elsewhere.
After the types stands `State.reset`, the part right after ERASE (R169) with no supply interruption since. -/

namespace Sys2Proof.Machine

/-! ### Chain Table (R1 to R3) -/

/-- Who excluded a position (R1). -/
inductive ExclCause where
  | operator
  | lost
deriving DecidableEq, Repr

/-- The three enrolment fields of a position: enrolment, drop address, exclusion cause (R1, R5). -/
inductive Enrolment where
  | vacant
  | enrolled (drop : Nat)
  | excluded (drop : Nat) (cause : ExclCause)
deriving DecidableEq, Repr

/-! ### Directions, ports of a plan, and the timing plan (R19, R20) -/

inductive Dir where
  | inbound
  | outbound
deriving DecidableEq, Repr

inductive PlanMode where
  | inbound
  | outbound
  | tidal
deriving DecidableEq, Repr

/-- A green window (s, e) (00_scope.md, green arcs). -/
structure Window where
  s : Nat
  e : Nat
deriving DecidableEq, Repr

/-- A timing entry (R20). `position` is the manual's number, 1..24. -/
structure Entry where
  position : Nat
  inb : Window
  outb : Window
deriving DecidableEq, Repr

/-- The plan fields of a slot's header (R19). Speeds in km/h, durations in ds, limits in percent. -/
structure Header where
  c : Nat
  mode : PlanMode
  tidalStart : Option Dir
  speedIn : Nat
  speedOut : Nat
  speedMin : Nat
  speedMax : Nat
  headway : Nat
  slideStep : Nat
  origin : Nat
  adaptive : Bool
  lengthen : Nat
  shorten : Nat
  base : Nat
  count : Nat
deriving DecidableEq, Repr

/-- What a slot holds in each of its states (R19). A `loading` slot is the manual's OPEN: it carries the opening port,
and an entry whose written mark is no is `none`. -/
inductive SlotBody where
  | empty
  | loading (h : Header) (port : PortId) (entries : List (Option Entry))
  | ready (h : Header) (entries : List Entry)
deriving DecidableEq, Repr

structure Slot where
  locked : Bool
  gen : Byte
  body : SlotBody
deriving DecidableEq, Repr

/-- The Plan Store. The timing pool's 256 entries are held by their owners: entry base + i of a slot's run is the i-th
entry of that slot, and an entry no slot owns is free and holds nothing that can be read (R21, R184). -/
structure PlanStore where
  slots : Vector Slot 16
  active : SlotIx
  pendingSlot : Option SlotIx
deriving DecidableEq, Repr

/-! ### Cycle Clock and Timebase Unit (R38, R46, R49) -/

/-- The timebase state with the fields each state holds. `acquiring` holds the good-pulse count (0..7) and the time of the
previous pulse; `reference` the time of the previous pulse and the last interval, both in ms. The count is 0 in INTERNAL
and 8 in REFERENCE (R38). -/
inductive Timebase where
  | internal
  | acquiring (count : Nat) (prev : Option Nat)
  | reference (prev : Nat) (last : Nat)
deriving DecidableEq, Repr

inductive Preference where
  | preferReference
  | internalOnly
deriving DecidableEq, Repr

structure Clock where
  tb : Timebase
  pref : Preference
  /-- decisecond length from the next boundary, in tenths of a ms (R38, R39) -/
  dsLength : Nat
  /-- length with which the running decisecond began (R39) -/
  dsRunning : Nat
  cyclePos : Nat
  cycleNo : Half
  /-- the C in force (R46) -/
  c : Nat
  /-- the beacon interval I (R49) -/
  beaconInterval : Nat
deriving DecidableEq, Repr

/-! ### Measurement Unit (R53, R58, R59, R62, R63) -/

/-- The quality of a measure with the smoothed travel time and the age while FRESH. The age is 0 in NONE and POISONED and 3
in AGED (R53). -/
inductive Quality where
  | none
  | fresh (smoothed age : Nat)
  | aged
  | poisoned
deriving DecidableEq, Repr

structure Measure where
  quality : Quality
  lastRaw : Option Nat
  clamps : Nat
  sampled : Bool
deriving DecidableEq, Repr

/-- A link record: its length in m, 0 for unset, and its two measures (R3). -/
structure LinkRec where
  length : Nat
  inb : Measure
  outb : Measure
deriving DecidableEq, Repr

/-- A queue and the round it was reported in (R58). -/
structure QueueRec where
  value : Nat
  round : Half
deriving DecidableEq, Repr

/-- The queue records and the count record of a position (R58, R59). -/
structure PosMeas where
  queueIn : Option QueueRec
  queueOut : Option QueueRec
  reported : Bool
  countIn : Nat
  countOut : Nat
deriving DecidableEq, Repr

structure Meas where
  pos : Vector PosMeas 24
  volIn : Nat
  volOut : Nat
  /-- the direction in force (R63) -/
  dir : Dir
  tide : Nat
deriving DecidableEq, Repr

/-! ### Fault policy and Band Computer (R71, R77, R92) -/

inductive Policy where
  | strict
  | tolerant
deriving DecidableEq, Repr

/-- What a snapshot holds of an enrolled position: its number, peak and counter windows and peak-direction queue (R77). -/
structure SnapPos where
  pos : Pos
  peak : Window
  counter : Window
  queue : Nat
deriving DecidableEq, Repr

/-- What a snapshot holds of a span link (R77). -/
structure SnapLink where
  link : LinkIx
  length : Nat
  inb : Quality
  outb : Quality
deriving DecidableEq, Repr

/-- The snapshot of a computation (R77). -/
structure Snapshot where
  slot : SlotIx
  gen : Byte
  c : Nat
  mode : PlanMode
  speedIn : Nat
  speedOut : Nat
  speedMin : Nat
  speedMax : Nat
  headway : Nat
  slideStep : Nat
  origin : Nat
  dir : Dir
  policy : Policy
  memGen : Half
  positions : List SnapPos
  links : List SnapLink
  cycleNo : Half
deriving DecidableEq, Repr

/-- The travel values of a span link, in ds (R78). -/
structure TravelValue where
  link : LinkIx
  inb : Nat
  outb : Nat
deriving DecidableEq, Repr

/-- A computation in flight (R71, R77). -/
structure Computation where
  number : Half
  snap : Snapshot
  travel : List TravelValue
  poisoned : List (LinkIx × Dir)
  interrupted : Bool
deriving DecidableEq, Repr

/-- The band record's entry of one position (R92). -/
structure BandEntry where
  pos : Pos
  target : Nat
  slide : Int
  lead : Nat
  slack : Nat
deriving DecidableEq, Repr

structure BandRecord where
  number : Half
  slot : SlotIx
  gen : Byte
  c : Nat
  memGen : Half
  startCycle : Half
  dir : Dir
  w : Nat
  origin : Nat
  counterBand : Nat
  counterStart : Option Nat
  degraded : Bool
  entries : List BandEntry
deriving DecidableEq, Repr

inductive StaleCause where
  | plan
  | direction
  | membership
  | master
deriving DecidableEq, Repr

inductive Verdict where
  | accepted
  | stale (cause : StaleCause)
  | refused
deriving DecidableEq, Repr

structure Completion where
  verdict : Verdict
  number : Half
deriving DecidableEq, Repr

structure Band where
  inFlight : Option Computation
  recompute : Bool
  number : Half
  last : Option BandRecord
  outcome : Option Completion
  staleCount : Nat
deriving DecidableEq, Repr

/-! ### Transition Unit (R95) -/

inductive SeekDir where
  | lengthen
  | shorten
deriving DecidableEq, Repr

/-- Seek direction and remaining, present together (R95). -/
structure Travel where
  dir : SeekDir
  remaining : Nat
deriving DecidableEq, Repr

inductive ReturnState where
  | idle
  | seeking
deriving DecidableEq, Repr

/-- The seek state; SUSPENDED carries the return state (R95, R96). -/
inductive SeekState where
  | idle
  | seeking
  | inStep
  | suspended (ret : ReturnState)
deriving DecidableEq, Repr

/-- The junction mode (R95). `localHeld` is the manual's LOCAL. -/
inductive Mode where
  | coordinated
  | free
  | preempted
  | localHeld
deriving DecidableEq, Repr

structure PlanTag where
  slot : SlotIx
  gen : Byte
deriving DecidableEq, Repr

structure SentCorrection where
  value : Int
  cycle : Half
deriving DecidableEq, Repr

inductive Health where
  | online
  | suspect
  | lost
deriving DecidableEq, Repr

/-- The position record (R2) with the Transition Unit's four further fields (R95). -/
structure PosRec where
  enrolment : Enrolment
  available : Bool
  health : Health
  misses : Nat
  target : Option Nat
  running : Option Nat
  seek : SeekState
  travel : Option Travel
  mode : Mode
  tagSeen : Option PlanTag
  reload : Bool
  correction : Int
  spent : Bool
  sent : Option SentCorrection
  owner : Option VecIx
  claims : List VecIx
deriving DecidableEq, Repr

/-- The fields of a junction's REPORT (R120, R186). A transit sample of 0 means absent (R54). -/
structure Report where
  running : Option Nat
  accepted : Bool
  tag : Option PlanTag
  mode : Mode
  countIn : Nat
  countOut : Nat
  queueIn : Nat
  queueOut : Nat
  transitIn : Nat
  transitOut : Nat
  faultIn : Bool
  faultOut : Bool
deriving DecidableEq, Repr

/-! ### Preemption Unit (R136, R140, R142) -/

inductive VectorClass where
  | unused
  | rail
  | emergency
  | transit
deriving DecidableEq, Repr

inductive HoldPhase where
  | inboundGreen
  | outboundGreen
  | allRed
deriving DecidableEq, Repr

structure Seizure where
  pos : Pos
  phase : HoldPhase
deriving DecidableEq, Repr

/-- A preemption vector (R140). -/
structure VectorCfg where
  cls : VectorClass
  list : List Seizure
  maxHold : Nat
deriving DecidableEq, Repr

inductive Source where
  | line
  | call
deriving DecidableEq, Repr

/-- An active cause (R142). -/
structure Cause where
  remaining : Nat
  source : Source
deriving DecidableEq, Repr

inductive EndReason where
  | line
  | clear
  | expiry
  | master
deriving DecidableEq, Repr

inductive Polarity where
  | activeHigh
  | activeLow
deriving DecidableEq, Repr

/-- The input pin of a debounced line: its level, the time (ms) from which the measurement runs, and whether the line has
settled since the input last changed (R136, R137). -/
structure Input where
  high : Bool
  since : Nat
  settled : Bool
deriving DecidableEq, Repr

/-- The settings of a preemption line (R136). -/
structure LineCfg where
  polarity : Polarity
  debounce : Nat
deriving DecidableEq, Repr

structure PLine where
  cfg : LineCfg
  active : Bool
  armed : Bool
  input : Input
deriving DecidableEq, Repr

structure Pre where
  vectors : Vector VectorCfg 8
  causes : Vector (Option Cause) 8
  lastEnd : Vector (Option EndReason) 8
  lines : Vector PLine 4
deriving DecidableEq, Repr

/-! ### Trunk Controller (R118, R130) -/

/-- An order waiting to be delivered (R130). -/
inductive Order where
  | preempt (v : VecIx) (cls : VectorClass) (phase : HoldPhase)
  | release
deriving DecidableEq, Repr

structure OrderEntry where
  order : Order
  fails : Nat
  resting : Bool
  sent : Bool
deriving DecidableEq, Repr

inductive ExchangeKind where
  | step
  | preempt
  | release
  | probe
deriving DecidableEq, Repr

/-- The exchange holding the line. Its response window runs as long as it is in flight (R118, R122). A BEACON is sent whole
in the event that grants it and is never in flight. -/
structure Exchange where
  kind : ExchangeKind
  pos : Pos
  drop : Nat
  /-- the attempt in flight is the second -/
  second : Bool
  /-- the master has entered DETACHED since the attempt was sent, so that no second attempt follows it (R134) -/
  cut : Bool
deriving DecidableEq, Repr

/-- What the arbiter grants the line to (R124). -/
inductive Grant where
  | order (p : Pos)
  | beacon
  | step (p : Pos)
  | probe
deriving DecidableEq, Repr

/-- A trunk frame put out by the part: address, kind and body (R186). -/
structure TrunkFrame where
  addr : Byte
  kind : Byte
  body : List Byte
deriving DecidableEq, Repr

structure Trunk where
  /-- the order table, at most one entry per position -/
  orders : Vector (Option OrderEntry) 24
  /-- the waiting beacon with its rollover mark -/
  waitingBeacon : Option Bool
  roundOpen : Bool
  cursor : Option Pos
  probeDone : Bool
  probePtr : Pos
  exchange : Option Exchange
  badFrames : Nat
  noAnswers : Nat
  /-- the frame last sent on the trunk -/
  out : Option TrunkFrame
deriving DecidableEq, Repr

/-! ### State Controller (R155) -/

/-- The state DETACHED resumes to (R155). -/
inductive Resume where
  | idle
  | coordinating
  | hold
  | fallback
deriving DecidableEq, Repr

/-- The master state; DETACHED carries the resume state (R155). -/
inductive Master where
  | idle
  | coordinating
  | hold
  | fallback
  | detached (resume : Resume)
deriving DecidableEq, Repr

/-- The HOLD, DETACH or KEY line (R156). -/
structure CtlLine where
  active : Bool
  input : Input
deriving DecidableEq, Repr

structure Ctl where
  master : Master
  held : Bool
  policy : Policy
  holdLine : CtlLine
  detachLine : CtlLine
  keyLine : CtlLine
deriving DecidableEq, Repr

/-! ### Fault and Alert Unit (R170, R171, R173, R174) -/

inductive FaultKind where
  | junctionLost
  | poisonUsed
  | bandRefused
  | holdExpired
  | referenceLost
  | preemptUndelivered
  | fallbackEntered
deriving DecidableEq, Repr

inductive RefCause where
  | interval
  | silence
deriving DecidableEq, Repr

inductive FallbackCause where
  | request
  | lost (p : Pos)
  | membership
deriving DecidableEq, Repr

/-- A fault with the details its kind carries (R170). -/
inductive FaultInfo where
  | junctionLost (p : Pos)
  | poisonUsed (l : LinkIx) (d : Dir)
  | bandRefused (l : LinkIx) (d : Dir)
  | holdExpired (v : VecIx)
  | referenceLost (cause : RefCause)
  | preemptUndelivered (p : Pos) (v : Option VecIx)
  | fallbackEntered (cause : FallbackCause)
deriving DecidableEq, Repr

/-- The first-fault record (R171). -/
structure FaultRecord where
  info : FaultInfo
  cycleNo : Half
  cyclePos : Nat
deriving DecidableEq, Repr

inductive AlertClass where
  | state
  | junction
  | band
  | seek
  | preempt
  | tide
  | timebase
  | fault
  | plan
deriving DecidableEq, Repr

/-- An ALERT record sent (R174). -/
structure AlertOut where
  seq : Byte
  classes : List AlertClass
deriving DecidableEq, Repr

structure FaultUnit where
  first : Option FaultRecord
  next : List FaultKind
  pending : Vector Bool 9
  enabled : Vector Bool 9
  waiting : Bool
  seq : Byte
  /-- the ALERT record last sent -/
  out : Option AlertOut
deriving DecidableEq, Repr

/-! ### Centre Link and Field Port (R177) -/

inductive SenderClass where
  | supervisory
  | field
deriving DecidableEq, Repr

/-- The reply codes (R181). -/
inductive ReplyCode where
  | ok
  | badFormat
  | badValue
  | unknownKind
  | senderClass
  | state
  | busy
  | noRoom
  | mismatch
  | locked
deriving DecidableEq, Repr

/-- A reply: kind and tag of its frame, reply code, and the result bytes that follow the code (R181, R185). -/
structure Reply where
  kind : Byte
  tag : Byte
  code : ReplyCode
  result : List Byte
deriving DecidableEq, Repr

/-- The answer an owning block gives to a request: reply code and result bytes (R181). -/
structure Answer where
  code : ReplyCode
  result : List Byte
deriving DecidableEq, Repr

/-- A complete frame in the receive buffer: kind, tag and body (R178). -/
structure Frame where
  kind : Byte
  tag : Byte
  body : List Byte
deriving DecidableEq, Repr

/-- The request in progress, with the reply being sent (R177). -/
structure Request where
  kind : Byte
  tag : Byte
  cls : SenderClass
  reply : Reply
deriving DecidableEq, Repr

/-- A port. The receive buffer is the complete frames, oldest first, and the bytes of the frame being received; the port is
IN_FRAME exactly while there are such bytes, and HUNTING otherwise (R177, R178). -/
structure Port where
  frames : List Frame
  receiving : List Byte
  inProgress : Option Request
  errors : Nat
  /-- the reply last sent to its last byte -/
  out : Option Reply
deriving DecidableEq, Repr

/-! ### The configuration store (R167) -/

structure StoredPlan where
  h : Header
  entries : List Entry
deriving DecidableEq, Repr

structure StoredSlot where
  locked : Bool
  gen : Byte
  plan : Option StoredPlan
deriving DecidableEq, Repr

structure Store where
  chain : Vector Enrolment 24
  lengths : Vector Nat 23
  slots : Vector StoredSlot 16
  active : SlotIx
  pref : Preference
  beaconInterval : Nat
  vectors : Vector VectorCfg 8
  lines : Vector LineCfg 4
  policy : Policy
  enabled : Vector Bool 9
deriving DecidableEq, Repr

/-- A store write that a power loss can still find incomplete: the store's content before it, and the port whose request
made it, absent for an activation or a loss exclusion (R167). The model's own field. -/
structure Unfinished where
  before : Store
  port : Option PortId
deriving DecidableEq, Repr

/-! ### The whole part -/

/-- The state of the block. `pending` is the queue of waiting commands, first in first out; `powered`, `now` (the
internal-oscillator time, in ms since the last restart, of the latest timed event) and `unfinished` are the model's own fields. -/
structure State where
  pos : Vector PosRec 24
  links : Vector LinkRec 23
  memGen : Half
  plans : PlanStore
  clock : Clock
  meas : Meas
  band : Band
  trunk : Trunk
  pre : Pre
  ctl : Ctl
  faults : FaultUnit
  centre : Port
  field : Port
  store : Store
  unfinished : Option Unfinished
  powered : Bool
  now : Nat
  pending : List Instr
deriving DecidableEq, Repr

/-- No command of the block stops it with a fault: the manual gives every request a reply and every event an effect, so
this type has no constructor. (The manual's own faults, R170, are recorded in the state.) Safe: nothing is cut short. -/
inductive Fault where
deriving DecidableEq, Repr

/-- Why a command has no meaning. -/
inductive Refusal where
  /-- Raised by an arm of `exec` whose command has no meaning yet. Safe: the model stops. No arm raises it. -/
  | notModelled (mnemonic : String)
deriving DecidableEq, Repr

/-! ### The factory configuration (R18, R27, R37, R169) and the state after it -/

def factoryHeader : Header :=
  { c := 900, mode := .inbound, tidalStart := none, speedIn := 50, speedOut := 50, speedMin := 20, speedMax := 70,
    headway := 20, slideStep := 10, origin := 0, adaptive := true, lengthen := 20, shorten := 10, base := 0, count := 24 }

def factoryEntries : List Entry :=
  (List.range 24).map fun i => { position := i + 1, inb := ⟨0, 450⟩, outb := ⟨0, 450⟩ }

def factoryPlan : StoredPlan := { h := factoryHeader, entries := factoryEntries }

def emptyVector : VectorCfg := { cls := .unused, list := [], maxHold := 100 }

def factoryLine : LineCfg := { polarity := .activeHigh, debounce := 50 }

/-- The factory configuration (R169). -/
def Store.factory : Store :=
  { chain := Vector.replicate 24 .vacant
    lengths := Vector.replicate 23 0
    slots := (Vector.replicate 16 { locked := false, gen := 0, plan := none }).set 0
      { locked := true, gen := 0, plan := some factoryPlan }
    active := 0
    pref := .preferReference
    beaconInterval := 100
    vectors := Vector.replicate 8 emptyVector
    lines := Vector.replicate 4 factoryLine
    policy := .tolerant
    enabled := Vector.replicate 9 false }

/-- A position record after restart, with the enrolment the store holds (R17, R117, R135, R154). -/
def PosRec.restarted (e : Enrolment) : PosRec :=
  { enrolment := e, available := false, health := .online, misses := 0, target := none, running := none, seek := .idle,
    travel := none, mode := .free, tagSeen := none, reload := true, correction := 0, spent := false, sent := none,
    owner := none, claims := [] }

/-- A measure after restart (R70). -/
def Measure.restarted : Measure := { quality := .none, lastRaw := none, clamps := 0, sampled := false }

/-- A link record after restart, with the length the store holds (R17, R70). -/
def LinkRec.restarted (length : Nat) : LinkRec := { length, inb := .restarted, outb := .restarted }

def PosMeas.restarted : PosMeas :=
  { queueIn := none, queueOut := none, reported := false, countIn := 0, countOut := 0 }

/-- The Band Computer after restart (R94). -/
def Band.restarted : Band :=
  { inFlight := none, recompute := false, number := 0, last := none, outcome := none, staleCount := 0 }

/-- The Trunk Controller after restart (R135), with the beacon due at position 0 by restart (R52). -/
def Trunk.restarted (out : Option TrunkFrame) : Trunk :=
  { orders := Vector.replicate 24 none, waitingBeacon := some false, roundOpen := false, cursor := none, probeDone := true,
    probePtr := 23, exchange := none, badFrames := 0, noAnswers := 0, out }

/-- A port after restart (R177). The reply last sent stands as sent. -/
def Port.restarted (out : Option Reply) : Port :=
  { frames := [], receiving := [], inProgress := none, errors := 0, out }

/-- The input pins at reset: every input low. DESIGN CHOICE, assumption 3. -/
def Input.low : Input := { high := false, since := 0, settled := false }

def CtlLine.reset : CtlLine := { active := false, input := .low }

/-- The part after ERASE and its restart, inputs low, no command waiting (R169, R168, and the restart rule of each block).
The timebase has passed from INTERNAL to ACQUIRING and its alert is pending (R45). DESIGN CHOICE that the first store is
the factory one, assumption 2. -/
def State.reset : State :=
  { pos := Vector.replicate 24 (.restarted .vacant)
    links := Vector.replicate 23 (.restarted 0)
    memGen := 0
    plans :=
      { slots := (Vector.replicate 16 { locked := false, gen := 0, body := .empty }).set 0
          { locked := true, gen := 0, body := .ready factoryHeader factoryEntries }
        active := 0
        pendingSlot := none }
    clock :=
      { tb := .acquiring 0 none, pref := .preferReference, dsLength := 1000, dsRunning := 1000, cyclePos := 0, cycleNo := 0,
        c := 900, beaconInterval := 100 }
    meas := { pos := Vector.replicate 24 .restarted, volIn := 0, volOut := 0, dir := .inbound, tide := 0 }
    band := .restarted
    trunk := .restarted none
    pre :=
      { vectors := Vector.replicate 8 emptyVector
        causes := Vector.replicate 8 none
        lastEnd := Vector.replicate 8 none
        lines := Vector.replicate 4 { cfg := factoryLine, active := false, armed := true, input := .low } }
    ctl :=
      { master := .idle, held := false, policy := .tolerant, holdLine := .reset, detachLine := .reset, keyLine := .reset }
    faults :=
      { first := none, next := [],
        pending := (Vector.replicate 9 false).set 6 true,
        enabled := Vector.replicate 9 false, waiting := false, seq := 0, out := none }
    centre := .restarted none
    field := .restarted none
    store := .factory
    unfinished := none
    powered := true
    now := 0
    pending := [] }

end Sys2Proof.Machine
end

