-- ==== Sys2Proof/Machine/Bytes.lean ====
section
/-! DEFINITION. Bytes on the ports and the trunk: the encoding scheme of R182, the check of R178, the frame layouts of R185
and R186, and the numbers of the enumerated values. -/

namespace Sys2Proof.Machine

/-! ### Numbers

R182 gives the scheme of query replies, and R185 sends the request bodies it does not lay out to it. That the two-byte fields of the
laid-out request bodies (CHAIN-LINK, PLAN-OPEN, PLAN-ENTRY) and of the trunk frames (BEACON, STEP, REPORT), whose sizes alone R185 and
R186 give, stand most significant byte first too, and that the signed correction of a STEP is two's complement, is DEDUCED
(assumption 41). -/

/-- A number of range 0..255, in one byte. -/
def byte (n : Nat) : Byte := BitVec.ofNat 8 n

/-- A number of larger range, in two bytes, most significant first (R182; on the trunk, assumption 41). -/
def half (n : Nat) : List Byte := [byte (n / 256), byte n]

/-- A signed value in two bytes, two's complement, most significant first (R182; in a STEP, assumption 41). -/
def signed (i : Int) : List Byte := half (BitVec.ofInt 16 i).toNat

/-- The number two bytes of a body give, most significant first. DEDUCED for the bodies R185 and R186 lay out (assumption 41). -/
def ofHalf (hi lo : Byte) : Nat := hi.toNat * 256 + lo.toNat

/-- Yes and no, and the flags of the manual that are set or clear, enabled or disabled (assumption 11). -/
def flag (b : Bool) : Byte := if b then 1 else 0

/-- An optional field: presence byte, then the field when present. -/
def optional {α : Type} (f : α → List Byte) : Option α → List Byte
  | none => [0]
  | some a => 1 :: f a

/-- A list of varying length or a set: count byte, then the entries. -/
def counted {α : Type} (f : α → List Byte) (l : List α) : List Byte := byte l.length :: l.flatMap f

/-! ### The check (R178, R186): CRC-16, polynomial 1021 hexadecimal, initial value all ones, most significant bit first -/

def crcBit (c : BitVec 16) : BitVec 16 := if c.msb then (c <<< 1) ^^^ 0x1021#16 else c <<< 1

def crcByte (c : BitVec 16) (b : Byte) : BitVec 16 :=
  Nat.repeat crcBit 8 (c ^^^ (b.setWidth 16 <<< 8))

def crc16 (bytes : List Byte) : BitVec 16 := bytes.foldl crcByte 0xFFFF#16

/-- The check of these bytes, high byte first. -/
def checkBytes (bytes : List Byte) : List Byte := half (crc16 bytes).toNat

/-- The sync byte of both frame formats. -/
def syncByte : Byte := 0xC3

/-! ### Port frames (R178, R185) -/

/-- The length byte of a port frame of this body: the bytes from the kind to the end of the body (assumption 9). -/
def lengthByte (body : List Byte) : Byte :=
  if body.length ≤ 248 then byte (body.length + 2) else Config.lengthAbove (body.length + 2)

/-- The bytes the check of a port frame covers: the length byte through the last body byte. -/
def Frame.covered (f : Frame) : List Byte := lengthByte f.body :: f.kind :: f.tag :: f.body

/-- A port frame, byte by byte. -/
def Frame.bytes (f : Frame) : List Byte := syncByte :: (f.covered ++ checkBytes f.covered)

/-- How many bytes of the receive buffer a complete frame takes. -/
def Frame.size (f : Frame) : Nat := f.body.length + 6

/-! ### Trunk frames (R186) -/

/-- The bytes the check of a trunk frame covers: the address through the body. -/
def TrunkFrame.covered (f : TrunkFrame) : List Byte := f.addr :: f.kind :: byte f.body.length :: f.body

/-- A trunk frame, byte by byte. -/
def TrunkFrame.bytes (f : TrunkFrame) : List Byte := syncByte :: (f.covered ++ checkBytes f.covered)

/-- The kind numbers of the trunk frames, in the order of the table of R120. -/
def kindBeacon : Byte := 1
def kindStep : Byte := 2
def kindReport : Byte := 3
def kindPreempt : Byte := 4
def kindRelease : Byte := 5
def kindAck : Byte := 6
def kindProbe : Byte := 7
def kindAnswer : Byte := 8

/-- The kind number of the request frame of an exchange (R182). -/
def ExchangeKind.request : ExchangeKind → Byte
  | .step => kindStep
  | .preempt => kindPreempt
  | .release => kindRelease
  | .probe => kindProbe

/-- The kind awaited in answer to the request of an exchange (R122). -/
def ExchangeKind.awaited : ExchangeKind → Byte
  | .step => kindReport
  | .preempt | .release => kindAck
  | .probe => kindAnswer

/-! ### Enumerated values, numbered from 0 in the order of the table or list that defines them (R182, R186) -/

def PortId.code : PortId → Byte
  | .centre => 0
  | .field => 1

def Enrolment.code : Enrolment → Byte
  | .vacant => 0
  | .enrolled _ => 1
  | .excluded _ _ => 2

def ExclCause.code : ExclCause → Byte
  | .operator => 0
  | .lost => 1

def Health.code : Health → Byte
  | .online => 0
  | .suspect => 1
  | .lost => 2

def SeekState.code : SeekState → Byte
  | .idle => 0
  | .seeking => 1
  | .inStep => 2
  | .suspended _ => 3

def ReturnState.code : ReturnState → Byte
  | .idle => 0
  | .seeking => 1

def SeekDir.code : SeekDir → Byte
  | .lengthen => 0
  | .shorten => 1

def Mode.code : Mode → Byte
  | .coordinated => 0
  | .free => 1
  | .preempted => 2
  | .localHeld => 3

/-- The junction mode a mode byte names; above 3 it names none (R186). -/
def Mode.ofByte (b : Byte) : Option Mode :=
  match b.toNat with
  | 0 => some .coordinated
  | 1 => some .free
  | 2 => some .preempted
  | 3 => some .localHeld
  | _ => none

def SlotBody.code : SlotBody → Byte
  | .empty => 0
  | .loading _ _ _ => 1
  | .ready _ _ => 2

def PlanMode.code : PlanMode → Byte
  | .inbound => 0
  | .outbound => 1
  | .tidal => 2

def PlanMode.ofByte (b : Byte) : Option PlanMode :=
  match b.toNat with
  | 0 => some .inbound
  | 1 => some .outbound
  | 2 => some .tidal
  | _ => none

def Dir.code : Dir → Byte
  | .inbound => 0
  | .outbound => 1

/-- ADAPTIVE, FIXED (R19). -/
def adaptiveCode (b : Bool) : Byte := if b then 0 else 1

/-- INTERNAL, ACQUIRING, REFERENCE (R38). -/
def Timebase.code : Timebase → Byte
  | .internal => 0
  | .acquiring _ _ => 1
  | .reference _ _ => 2

/-- The source in use: REFERENCE, INTERNAL (R44, assumption 11). -/
def Timebase.sourceCode : Timebase → Byte
  | .reference _ _ => 0
  | _ => 1

def Preference.code : Preference → Byte
  | .preferReference => 0
  | .internalOnly => 1

def Quality.code : Quality → Byte
  | .none => 0
  | .fresh _ _ => 1
  | .aged => 2
  | .poisoned => 3

def StaleCause.code : StaleCause → Byte
  | .plan => 0
  | .direction => 1
  | .membership => 2
  | .master => 3

/-- ACCEPTED, STALE, REFUSED (R71). -/
def Verdict.code : Verdict → Byte
  | .accepted => 0
  | .stale _ => 1
  | .refused => 2

def VectorClass.code : VectorClass → Byte
  | .unused => 0
  | .rail => 1
  | .emergency => 2
  | .transit => 3

def VectorClass.ofByte (b : Byte) : Option VectorClass :=
  match b.toNat with
  | 0 => some .unused
  | 1 => some .rail
  | 2 => some .emergency
  | 3 => some .transit
  | _ => none

def HoldPhase.code : HoldPhase → Byte
  | .inboundGreen => 0
  | .outboundGreen => 1
  | .allRed => 2

def HoldPhase.ofByte (b : Byte) : Option HoldPhase :=
  match b.toNat with
  | 0 => some .inboundGreen
  | 1 => some .outboundGreen
  | 2 => some .allRed
  | _ => none

def Source.code : Source → Byte
  | .line => 0
  | .call => 1

def EndReason.code : EndReason → Byte
  | .line => 0
  | .clear => 1
  | .expiry => 2
  | .master => 3

def Polarity.code : Polarity → Byte
  | .activeHigh => 0
  | .activeLow => 1

def Polarity.ofByte (b : Byte) : Option Polarity :=
  match b.toNat with
  | 0 => some .activeHigh
  | 1 => some .activeLow
  | _ => none

/-- INACTIVE, ACTIVE (R136, R155). -/
def activeCode (b : Bool) : Byte := if b then 1 else 0

def Resume.code : Resume → Byte
  | .idle => 0
  | .coordinating => 1
  | .hold => 2
  | .fallback => 3

def Master.code : Master → Byte
  | .idle => 0
  | .coordinating => 1
  | .hold => 2
  | .fallback => 3
  | .detached _ => 4

def Policy.code : Policy → Byte
  | .strict => 0
  | .tolerant => 1

def FaultKind.code : FaultKind → Byte
  | .junctionLost => 0
  | .poisonUsed => 1
  | .bandRefused => 2
  | .holdExpired => 3
  | .referenceLost => 4
  | .preemptUndelivered => 5
  | .fallbackEntered => 6

/-- The fault kinds in the order of the table of R170. -/
def FaultKind.all : List FaultKind :=
  [.junctionLost, .poisonUsed, .bandRefused, .holdExpired, .referenceLost, .preemptUndelivered, .fallbackEntered]

/-- The alert classes numbered in the order of the table of R173. -/
def AlertClass.ix : AlertClass → Fin 9
  | .state => 0
  | .junction => 1
  | .band => 2
  | .seek => 3
  | .preempt => 4
  | .tide => 5
  | .timebase => 6
  | .fault => 7
  | .plan => 8

def AlertClass.all : List AlertClass :=
  [.state, .junction, .band, .seek, .preempt, .tide, .timebase, .fault, .plan]

def AlertClass.code (c : AlertClass) : Byte := byte c.ix.val

/-- The class a class byte names; above 8 it names none (R175). -/
def AlertClass.ofByte (b : Byte) : Option AlertClass := AlertClass.all[b.toNat]?

/-- The reply code values (R181). -/
def ReplyCode.code : ReplyCode → Byte
  | .ok => 0
  | .badFormat => 1
  | .badValue => 2
  | .unknownKind => 3
  | .senderClass => 4
  | .state => 5
  | .busy => 6
  | .noRoom => 7
  | .mismatch => 8
  | .locked => 9

/-! ### Reply and ALERT records (R181, R185) -/

/-- The kind of the reply to a request of this kind: the request's kind plus 128 (R181, assumption 8). -/
def replyKind (kind : Byte) : Byte :=
  if kind.toNat < 128 then byte (kind.toNat + 128) else Config.replyKindAbove kind

/-- The reply record's body: reply code, result. -/
def Reply.body (r : Reply) : List Byte := r.code.code :: r.result

/-- The port frame that carries a reply. -/
def Reply.frame (r : Reply) : List Byte := Frame.bytes { kind := r.kind, tag := r.tag, body := r.body }

/-- The ALERT record's body: sequence number, number of classes, one byte per class, in the order of assumption 44 (R185). -/
def AlertOut.body (a : AlertOut) : List Byte := a.seq :: counted (fun c => [c.code]) a.classes

/-- The port frame that carries an ALERT (assumption 7 for its tag). -/
def AlertOut.frame (a : AlertOut) : List Byte :=
  Frame.bytes { kind := 255, tag := Config.alertTag a.seq, body := a.body }

end Sys2Proof.Machine
end

