-- ==== Sys2Proof/Machine/Flags.lean ====
section
/-! DEFINITION. The Fault and Alert Unit's two intakes (chapter 10): an alert event of a class, and a fault. -/

namespace Sys2Proof.Machine

/-- The kind of a fault (R170). -/
def FaultInfo.kind : FaultInfo → FaultKind
  | .junctionLost _ => .junctionLost
  | .poisonUsed _ _ => .poisonUsed
  | .bandRefused _ _ => .bandRefused
  | .holdExpired _ => .holdExpired
  | .referenceLost _ => .referenceLost
  | .preemptUndelivered _ _ => .preemptUndelivered
  | .fallbackEntered _ => .fallbackEntered

/-- The signalled set: the classes both pending and enabled (R174). DESIGN CHOICE: R174 and R185 do not say in which order an ALERT
carries them; they stand in the order of the table of R173 (assumption 44). -/
def FaultUnit.signalled (f : FaultUnit) : List AlertClass :=
  AlertClass.all.filter fun c => f.pending.get c.ix && f.enabled.get c.ix

/-- An alert event: the class becomes pending, and a gain of the signalled set sets the ALERT-waiting mark (R173, R174). -/
def FaultUnit.alert (c : AlertClass) (f : FaultUnit) : FaultUnit :=
  { f with
    pending := f.pending.set c.ix.val true c.ix.isLt
    waiting := f.waiting || (!f.pending.get c.ix && f.enabled.get c.ix) }

/-- A fault taken: it fills the empty first-fault record with the clock's reading, or its kind joins the next-fault set; in
both cases FAULT is raised (R171). -/
def FaultUnit.take (i : FaultInfo) (cycleNo : Half) (cyclePos : Nat) (f : FaultUnit) : FaultUnit :=
  match f.first with
  | none => FaultUnit.alert .fault { f with first := some { info := i, cycleNo, cyclePos } }
  | some _ => FaultUnit.alert .fault { f with next := if i.kind ∈ f.next then f.next else f.next ++ [i.kind] }

/-- An alert event of class `c` is offered (R173). -/
def State.alert (c : AlertClass) (s : State) : State := { s with faults := s.faults.alert c }

/-- A fault is offered (R171). -/
def State.fault (i : FaultInfo) (s : State) : State :=
  { s with faults := s.faults.take i s.clock.cycleNo s.clock.cyclePos }

end Sys2Proof.Machine
end

