-- ==== Sys2Proof/Machine/Ops.lean ====
section
/-! DEFINITION. Access to the tables of the state, the lists read from them (enrolled list, span, plan coverage), and the
write-through to the configuration store. -/

namespace Sys2Proof.Machine

/-! ### Access -/

def allPos : List Pos := List.finRange 24
def allLinks : List LinkIx := List.finRange 23
def allSlots : List SlotIx := List.finRange 16
def allVectors : List VecIx := List.finRange 8
def allLines : List LineIx := List.finRange 4

/-- The position record of `p`. -/
def State.posRec (s : State) (p : Pos) : PosRec := s.pos.get p

def State.setPosRec (p : Pos) (r : PosRec) (s : State) : State := { s with pos := s.pos.set p.val r p.isLt }

/-- Every position record rewritten by `f`. -/
def State.mapPosRec (f : PosRec → PosRec) (s : State) : State := { s with pos := Vector.ofFn fun p => f (s.pos.get p) }

def State.linkRec (s : State) (l : LinkIx) : LinkRec := s.links.get l

def State.setLinkRec (l : LinkIx) (r : LinkRec) (s : State) : State := { s with links := s.links.set l.val r l.isLt }

def State.port (p : PortId) (s : State) : Port :=
  match p with
  | .centre => s.centre
  | .field => s.field

def State.setPort (p : PortId) (q : Port) (s : State) : State :=
  match p with
  | .centre => { s with centre := q }
  | .field => { s with field := q }

def State.setBand (b : Band) (s : State) : State := { s with band := b }
def State.setTrunk (t : Trunk) (s : State) : State := { s with trunk := t }
def State.setPre (x : Pre) (s : State) : State := { s with pre := x }
def State.setCtl (x : Ctl) (s : State) : State := { s with ctl := x }
def State.setClock (x : Clock) (s : State) : State := { s with clock := x }
def State.setPlans (x : PlanStore) (s : State) : State := { s with plans := x }
def State.setMeas (x : Meas) (s : State) : State := { s with meas := x }
def State.setFaults (x : FaultUnit) (s : State) : State := { s with faults := x }

/-- The chain position a position byte names: 1..24 (R6). -/
def posOf (n : Nat) : Option Pos := if h : 1 ≤ n ∧ n ≤ 24 then some ⟨n - 1, by omega⟩ else none

/-- The link a link byte names: 1..23 (R4). -/
def linkOf (n : Nat) : Option LinkIx := if h : 1 ≤ n ∧ n ≤ 23 then some ⟨n - 1, by omega⟩ else none

def slotOf (n : Nat) : Option SlotIx := if h : n < 16 then some ⟨n, h⟩ else none

def vectorOf (n : Nat) : Option VecIx := if h : n < 8 then some ⟨n, h⟩ else none

/-- The line a line byte names: 1..4 for P1..P4 (R139). -/
def lineOf (n : Nat) : Option LineIx := if h : 1 ≤ n ∧ n ≤ 4 then some ⟨n - 1, by omega⟩ else none

/-- The manual's number of a position. -/
def posNum (p : Pos) : Nat := p.val + 1

/-! ### Enrolment, enrolled list and span (R1, R13, R14) -/

def Enrolment.isEnrolled : Enrolment → Bool
  | .enrolled _ => true
  | _ => false

def Enrolment.isExcluded : Enrolment → Bool
  | .excluded _ _ => true
  | _ => false

/-- The drop address, present while ENROLLED or EXCLUDED (R5). -/
def Enrolment.drop : Enrolment → Option Nat
  | .vacant => none
  | .enrolled d => some d
  | .excluded d _ => some d

/-- The exclusion cause, present while EXCLUDED (R1). -/
def Enrolment.cause : Enrolment → Option ExclCause
  | .excluded _ c => some c
  | _ => none

def State.isEnrolled (s : State) (p : Pos) : Bool := (s.posRec p).enrolment.isEnrolled

/-- The enrolled list: the ENROLLED positions in ascending order (R13). -/
def State.enrolledList (s : State) : List Pos := allPos.filter s.isEnrolled

def State.enrolledCount (s : State) : Nat := s.enrolledList.length

/-- Whether a link lies in the span of a list of positions: links p_1 to p_n − 1 (R13). Link k joins positions k and k+1. -/
def inSpan (ps : List Pos) (l : LinkIx) : Bool :=
  match ps.head?, ps.getLast? with
  | some a, some b => decide (a.val ≤ l.val) && decide (l.val < b.val)
  | _, _ => false

def spanLinks (ps : List Pos) : List LinkIx := allLinks.filter (inSpan ps)

/-- Every link of the span of `ps` has a length (R14). -/
def State.spanComplete (s : State) (ps : List Pos) : Bool := (spanLinks ps).all fun l => (s.linkRec l).length != 0

/-! ### Plans (R19, R20, R28) -/

/-- The plan fields of a slot. An EMPTY slot has none; it is never active (R29), and reads as the factory header. -/
def SlotBody.header : SlotBody → Header
  | .empty => factoryHeader
  | .loading h _ _ => h
  | .ready h _ => h

/-- The timing entries of a READY slot. -/
def SlotBody.entries : SlotBody → List Entry
  | .ready _ es => es
  | _ => []

def SlotBody.isReady : SlotBody → Bool
  | .ready _ _ => true
  | _ => false

def PlanStore.slot (ps : PlanStore) (i : SlotIx) : Slot := ps.slots.get i

def PlanStore.setSlot (i : SlotIx) (x : Slot) (ps : PlanStore) : PlanStore :=
  { ps with slots := ps.slots.set i.val x i.isLt }

def PlanStore.header (ps : PlanStore) (i : SlotIx) : Header := (ps.slot i).body.header

/-- The timing entry a READY slot holds for a position (R20). -/
def PlanStore.entryOf (ps : PlanStore) (i : SlotIx) (p : Pos) : Option Entry :=
  (ps.slot i).body.entries.find? fun e => e.position == posNum p

/-- A plan covers a position when one of its entries names it (R20). -/
def PlanStore.covers (ps : PlanStore) (i : SlotIx) (p : Pos) : Bool := (ps.entryOf i p).isSome

/-- The header of the active plan. -/
def State.plan (s : State) : Header := s.plans.header s.plans.active

/-- The plan tag of the active plan (R28). -/
def State.planTag (s : State) : PlanTag := { slot := s.plans.active, gen := (s.plans.slot s.plans.active).gen }

/-- The direction in force a plan starts with (R33, R63). -/
def Header.startDir (h : Header) : Dir :=
  match h.mode with
  | .inbound => .inbound
  | .outbound => .outbound
  | .tidal => h.tidalStart.getD .inbound

/-! ### Master state (R8, R111, R155) -/

def Resume.runs : Resume → Bool
  | .coordinating | .hold => true
  | .idle | .fallback => false

/-- COORDINATING or HOLD, or DETACHED with either as resume state (R6, R8, R111, R113). -/
def Master.runs : Master → Bool
  | .coordinating | .hold => true
  | .idle | .fallback => false
  | .detached r => r.runs

def Master.isDetached : Master → Bool
  | .detached _ => true
  | _ => false

/-- A HOLD source is present: the HOLD line is ACTIVE or the held flag is set (R155). -/
def Ctl.holdSource (c : Ctl) : Bool := c.holdLine.active || c.held

/-! ### The configuration store (R167) -/

/-- A change written through to the store. Until it is complete, `unfinished` holds what a power loss restores (R16, R35,
R167). `port` is the port whose request makes the write. -/
def State.writeStore (port : Option PortId) (f : Store → Store) (s : State) : State :=
  { s with store := f s.store, unfinished := some { before := s.store, port } }

def Store.setEnrolment (p : Pos) (e : Enrolment) (st : Store) : Store :=
  { st with chain := st.chain.set p.val e p.isLt }

def Store.setSlot (i : SlotIx) (x : StoredSlot) (st : Store) : Store :=
  { st with slots := st.slots.set i.val x i.isLt }

/-! ### Running a command -/

/-- A command acts while the part has supply; without supply nothing happens until POWER_ON. -/
def powered (f : State → State) (s : State) : Host.Outcome State Fault Refusal :=
  .next (if s.powered then f s else s)

/-- The internal-oscillator time, counted from the last restart, moves to the time a timed event names; it never moves back
(assumption 5). -/
def State.at (t : Nat) (s : State) : State := { s with now := max s.now t }

end Sys2Proof.Machine
end

