-- ==== Sys2Proof/Machine/BandArith.lean ====
section
/-! DEFINITION. The arithmetic of a progression band computation, from its snapshot alone (R78 to R87, R92). -/

namespace Sys2Proof.Machine

/-! ### Travel values and the poisoned set (R78, R79) -/

/-- The travel value of a link of length `length` in a direction of planned speed `speed` (R78). -/
def Snapshot.travelValue (n : Snapshot) (length speed : Nat) (q : Quality) : Nat :=
  limitTo 1 9999
    (match q with
     | .fresh v _ => limitTo (travelTime length n.speedMax) (travelTime length n.speedMin) v
     | .none | .aged | .poisoned => travelTime length speed)

/-- The travel values of every span link (R78). -/
def Snapshot.travelValues (n : Snapshot) : List TravelValue :=
  n.links.map fun l =>
    { link := l.link
      inb := n.travelValue l.length n.speedIn l.inb
      outb := n.travelValue l.length n.speedOut l.outb }

def Quality.isPoisoned : Quality → Bool
  | .poisoned => true
  | _ => false

/-- The poisoned set, in ascending link order, inbound before outbound (R79). -/
def Snapshot.poisonedSet (n : Snapshot) : List (LinkIx × Dir) :=
  n.links.flatMap fun l =>
    (if l.inb.isPoisoned then [(l.link, .inbound)] else []) ++ (if l.outb.isPoisoned then [(l.link, .outbound)] else [])

/-! ### Segments and arrivals (R13, R81, R84) -/

def Dir.reverse : Dir → Dir
  | .inbound => .outbound
  | .outbound => .inbound

def TravelValue.along (d : Dir) (v : TravelValue) : Nat :=
  match d with
  | .inbound => v.inb
  | .outbound => v.outb

/-- The value, in direction `d`, of the segment between positions `a` and `b`: the sum over the links between them (R81). -/
def segmentValue (tv : List TravelValue) (d : Dir) (a b : Pos) : Nat :=
  ((tv.filter fun v => decide (min a.val b.val ≤ v.link.val) && decide (v.link.val < max a.val b.val)).map
    (·.along d)).sum

/-- The arrivals of positions listed in the order traffic of direction `d` meets them; the first arrival is `acc`. Arrivals
are not reduced modulo C (R81, R84). -/
def arrivals (tv : List TravelValue) (d : Dir) : Nat → List SnapPos → List Nat
  | _, [] => []
  | acc, [_] => [acc]
  | acc, x :: y :: rest => acc :: arrivals tv d (acc + segmentValue tv d x.pos y.pos) (y :: rest)

/-- The order peak traffic meets the enrolled positions (R81). -/
def Snapshot.peakOrder (n : Snapshot) : List SnapPos :=
  match n.dir with
  | .inbound => n.positions.reverse
  | .outbound => n.positions

/-! ### The peak direction (R82, R83) -/

/-- The peak green length of a position (R82). -/
def Snapshot.peakGreen (n : Snapshot) (x : SnapPos) : Nat := greenLength x.peak.s x.peak.e n.c

/-- The queue lead: the queue times the headway, at most half the peak green (R82). -/
def Snapshot.lead (n : Snapshot) (x : SnapPos) : Nat := min (x.queue * n.headway) (n.peakGreen x / 2)

/-- The usable peak green (R82). -/
def Snapshot.usable (n : Snapshot) (x : SnapPos) : Nat := n.peakGreen x - n.lead x

/-- The least member of a list; 0 of an empty list. -/
def leastOf : List Nat → Nat
  | [] => 0
  | x :: rest => rest.foldl min x

/-- The peak band W: the least usable peak green (R82). -/
def Snapshot.peakBand (n : Snapshot) : Nat := leastOf (n.positions.map n.usable)

/-- The slack of a position (R83). -/
def Snapshot.slack (n : Snapshot) (x : SnapPos) : Nat := n.usable x - n.peakBand

/-- The peak offset of a position with arrival `a` (R83). -/
def Snapshot.peakOffset (n : Snapshot) (x : SnapPos) (a : Nat) : Nat :=
  modC ((n.origin : Int) + a - n.lead x - x.peak.s) n.c

/-! ### The counter direction (R84 to R86) -/

/-- What the counter stages read of a position: its number, peak offset, queue lead and slack, and its counter window's start,
counter green length and counter arrival. -/
structure CounterRow where
  pos : Pos
  theta : Nat
  lead : Nat
  slack : Nat
  start : Nat
  green : Nat
  arrival : Nat
deriving DecidableEq, Repr

/-- The counter green length of a position (R84). -/
def Snapshot.counterGreen (n : Snapshot) (x : SnapPos) : Nat := greenLength x.counter.s x.counter.e n.c

/-- The positions in counter order with all that the counter stages read (R83, R84). -/
def Snapshot.counterRows (n : Snapshot) (tv : List TravelValue) : List CounterRow :=
  let peak := n.peakOrder
  let thetas := (peak.zip (arrivals tv n.dir 0 peak)).map fun xa => n.peakOffset xa.1 xa.2
  let counter := peak.reverse
  (counter.zip (thetas.reverse.zip (arrivals tv n.dir.reverse 0 counter))).map fun x =>
    { pos := x.1.pos, theta := x.2.1, lead := n.lead x.1, slack := n.slack x.1, start := x.1.counter.s,
      green := n.counterGreen x.1, arrival := x.2.2 }

/-- Departure `t` is admissible at a position under shift `d` (R84). -/
def CounterRow.admits (c : Nat) (r : CounterRow) (d : Int) (t : Nat) : Bool :=
  decide (modC (((t : Int) + r.arrival) - ((r.theta : Int) + d + r.start)) c < r.green)

/-- A position with its chosen shift. -/
structure Chosen where
  row : CounterRow
  shift : Int
deriving DecidableEq, Repr

/-- Membership of the common set of some positions under their shifts (R85). -/
def inCommon (c : Nat) (l : List Chosen) (t : Nat) : Bool := l.all fun x => x.row.admits c x.shift t

/-- How many consecutive members follow from `t` on, taken circularly, at most `fuel`. -/
def runLength (mem : Nat → Bool) (c : Nat) : Nat → Nat → Nat
  | 0, _ => 0
  | fuel + 1, t => if mem (t % c) then runLength mem c fuel (t + 1) + 1 else 0

/-- The first position of a run: a member whose predecessor, taken circularly, is none (R85). -/
def isRunStart (mem : Nat → Bool) (c t : Nat) : Bool := mem t && !mem ((t + c - 1) % c)

/-- A run: its length and first position. -/
structure Run where
  length : Nat
  start : Nat
deriving DecidableEq, Repr

/-- The longer of two runs; the first of equals. -/
def Run.longer (best : Option Run) (r : Run) : Option Run :=
  match best with
  | none => some r
  | some b => if b.length < r.length then some r else some b

/-- The longest run of the common set, the one of lowest first position among equals; none of an empty set (R85). -/
def longestRun (mem : Nat → Bool) (c : Nat) : Option Run :=
  ((List.range c).filter (isRunStart mem c)).foldl
    (fun best t => Run.longer best { length := runLength mem c c t, start := t }) none

/-- The partial band of a stage: the length of its longest run, 0 for an empty set (R85). -/
def bandLength : Option Run → Nat
  | none => 0
  | some r => r.length

/-- The candidate shifts of a position in the order 0, −σ, −2σ, … (R86). -/
def candidates (step slack : Nat) : List Int := (List.range (slack / step + 1)).map fun i => -((i * step : Nat) : Int)

/-- A stage of the slide: the positions taken so far with their shifts, and the longest run of their common set. -/
structure Stage where
  chosen : List Chosen
  run : Option Run
deriving DecidableEq, Repr

/-- The stage one candidate of position `row` gives (R86). -/
def Stage.extend (c : Nat) (st : Stage) (row : CounterRow) (d : Int) : Stage :=
  let chosen := st.chosen ++ [{ row, shift := d }]
  { chosen, run := longestRun (inCommon c chosen) c }

/-- The better of two candidates' stages: the larger partial band, the first of equals (R86). -/
def Stage.better (best : Option Stage) (st : Stage) : Option Stage :=
  match best with
  | none => some st
  | some b => if bandLength b.run < bandLength st.run then some st else some b

/-- One position's choice (R86). -/
def Stage.next (c step : Nat) (st : Stage) (row : CounterRow) : Stage :=
  (((candidates step row.slack).map (st.extend c row)).foldl Stage.better none).getD st

/-- The greedy slide over the positions in counter order (R86). -/
def slideAll (c step : Nat) (rows : List CounterRow) : Stage :=
  rows.foldl (Stage.next c step) { chosen := [], run := none }

/-! ### The results (R87, R92) -/

/-- A position's entry of the band record: final target (θ + δ) mod C, slide, queue lead and slack (R87, R92). -/
def Chosen.entry (c : Nat) (x : Chosen) : BandEntry :=
  { pos := x.row.pos
    target := modC ((x.row.theta : Int) + x.shift) c
    slide := x.shift
    lead := x.row.lead
    slack := x.row.slack }

/-- The band record of a computation (R92). Its entries ascend: the counter order ascends when the direction in force is
INBOUND and descends when it is OUTBOUND (R81, R84). -/
def Computation.record (x : Computation) : BandRecord :=
  let n := x.snap
  let st := slideAll n.c n.slideStep (n.counterRows x.travel)
  let entries := st.chosen.map (Chosen.entry n.c)
  { number := x.number, slot := n.slot, gen := n.gen, c := n.c, memGen := n.memGen, startCycle := n.cycleNo, dir := n.dir
    w := n.peakBand, origin := n.origin
    counterBand := bandLength st.run
    counterStart := st.run.map Run.start
    degraded := !x.poisoned.isEmpty
    entries :=
      match n.dir with
      | .inbound => entries
      | .outbound => entries.reverse }

end Sys2Proof.Machine
end

