-- ==== Sys2Proof/Machine/Seek.lean ====
section
/-! DEFINITION. The Transition Unit (chapter 6): limits, choice of direction, seek evaluation, round correction, and the
events the other blocks offer it. -/

namespace Sys2Proof.Machine

/-! ### Limits, direction, evaluation, correction (R97 to R101) -/

/-- Lmax (R97). -/
def Header.lmax (h : Header) : Nat := h.c * h.lengthen / 100

/-- Smax (R97). -/
def Header.smax (h : Header) : Nat := h.c * h.shorten / 100

/-- The direction and distance of a seek from running offset `r` to target `t` (R98). -/
def chooseTravel (h : Header) (t r : Nat) : Travel :=
  let d := modC ((t : Int) - (r : Int)) h.c
  let longer : Travel := { dir := .lengthen, remaining := d }
  let shorter : Travel := { dir := .shorten, remaining := h.c - d }
  if h.smax = 0 then longer
  else if h.lmax = 0 then shorter
  else if ceilDiv d h.lmax < ceilDiv (h.c - d) h.smax then longer
  else if ceilDiv (h.c - d) h.smax < ceilDiv d h.lmax then shorter
  else if d ≤ h.c - d then longer
  else shorter

/-- The seek evaluation (R99), for a position that is SEEKING or IN_STEP or leaves SUSPENDED for SEEKING. -/
def PosRec.evaluate (h : Header) (r : PosRec) : PosRec :=
  match r.target, r.running with
  | some t, some x =>
    if t = x then { r with seek := .inStep, travel := none }
    else { r with seek := .seeking, travel := some (chooseTravel h t x) }
  | _, _ => { r with seek := .seeking, travel := none }

def SeekState.isActive : SeekState → Bool
  | .seeking | .inStep => true
  | _ => false

/-- The seek evaluation where it applies: a SEEKING or IN_STEP position (R99). -/
def PosRec.reevaluate (h : Header) (r : PosRec) : PosRec := if r.seek.isActive then r.evaluate h else r

/-- The round correction (R101). -/
def PosRec.roundCorrection (h : Header) (r : PosRec) : Int :=
  if r.spent then 0
  else
    match r.seek, r.travel with
    | .seeking, some { dir := .lengthen, remaining := m } =>
      if h.lmax = 0 ∧ h.smax = 0 then (m : Int) else ((min m h.lmax : Nat) : Int)
    | .seeking, some { dir := .shorten, remaining := m } => -((min m h.smax : Nat) : Int)
    | _, _ => 0

def PosRec.recorrect (h : Header) (r : PosRec) : PosRec := { r with correction := r.roundCorrection h }

/-- A position's seek fields are written: the round correction is recomputed (R101), and a change of the seek state to
IN_STEP raises SEEK (R115). -/
def State.putSeek (p : Pos) (r : PosRec) (s : State) : State :=
  let s1 := s.setPosRec p (r.recorrect s.plan)
  if r.seek = .inStep ∧ (s.posRec p).seek ≠ .inStep then s1.alert .seek else s1

/-! ### Targets, reports and STEP failures (R100, R102 to R106) -/

/-- A target event (R100). -/
def State.targetEvent (p : Pos) (t : Nat) (s : State) : State :=
  s.putSeek p (({ s.posRec p with target := some t } : PosRec).reevaluate s.plan)

/-- A position leaves SUSPENDED (R111). `off` says that the master is IDLE or FALLBACK, or DETACHED with either as resume
state. -/
def PosRec.endSuspension (h : Header) (off : Bool) (r : PosRec) : PosRec :=
  match r.seek with
  | .suspended ret => if ret = .idle ∨ off = true then { r with seek := .idle, travel := none } else r.evaluate h
  | _ => r

/-- The plan tag and reload needed (R104). -/
def PosRec.takeTag (active : PlanTag) (tag : Option PlanTag) (r : PosRec) : PosRec :=
  { r with tagSeen := tag, reload := decide (tag ≠ some active) }

/-- The correction a report reconciles: the correction sent when accepted, 0 when refused (R105). -/
def PosRec.reconciled (accepted : Bool) (r : PosRec) : Int :=
  match r.sent with
  | some c => if accepted then c.value else 0
  | none => 0

/-- The running offset of a report (R105). -/
def PosRec.takeOffset (h : Header) (active : PlanTag) (rep : Report) (r : PosRec) : PosRec :=
  match rep.running with
  | some o =>
    if o < h.c ∧ rep.tag = some active then
      { r with running := some (modC ((o : Int) + r.reconciled rep.accepted) h.c) }
    else { r with running := none }
  | none => { r with running := none }

def Mode.isHeld : Mode → Bool
  | .preempted | .localHeld => true
  | .coordinated | .free => false

/-- The mode and suspension step of a report (R108, R109). -/
def PosRec.takeMode (h : Header) (off : Bool) (m : Mode) (r : PosRec) : PosRec :=
  if r.owner.isSome then r
  else if m.isHeld then
    if r.seek.isActive then { r with mode := m, seek := .suspended .seeking, travel := none } else { r with mode := m }
  else ({ r with mode := m } : PosRec).endSuspension h off

/-- The round step of a report or STEP failure (R103, R106). -/
def PosRec.closeRound (cycleNo : Half) (r : PosRec) : PosRec :=
  match r.sent with
  | some c => { r with spent := r.spent || decide (c.cycle = cycleNo), sent := none }
  | none => r

/-- A report taken by the Transition Unit: tag, offset, mode, evaluation, round, in this order (R103). -/
def State.reportSeek (p : Pos) (rep : Report) (s : State) : State :=
  let h := s.plan
  let r := ((s.posRec p).takeTag s.planTag rep.tag).takeOffset h s.planTag rep
  let r := (r.takeMode h (!s.ctl.master.runs) rep.mode).reevaluate h
  s.putSeek p (r.closeRound s.clock.cycleNo)

/-- The correction of an attempt that failed may have been applied (R106). -/
def PosRec.loseOffset (h : Header) (r : PosRec) : PosRec :=
  match r.sent with
  | some c => if c.value ≠ 0 then ({ r with running := none } : PosRec).reevaluate h else r
  | none => r

/-- A STEP failure (R106). -/
def State.stepFailure (p : Pos) (s : State) : State :=
  s.putSeek p (((s.posRec p).loseOffset s.plan).closeRound s.clock.cycleNo)

/-! ### Ownership events (R110). The Preemption Unit writes the owner in the same event. -/

/-- take: a cause becomes owner of an unowned position. -/
def PosRec.seized (r : PosRec) : PosRec :=
  { r with
    mode := .preempted
    travel := none
    seek :=
      match r.seek with
      | .suspended ret => .suspended ret
      | .idle => .suspended .idle
      | .seeking | .inStep => .suspended .seeking }

/-- handover: another cause becomes owner. The seek fields, the return state among them, are unchanged (R110; assumption 43). -/
def PosRec.handedOver (r : PosRec) : PosRec := { r with mode := .preempted }

/-- end: the last cause ends and a RELEASE is ordered. -/
def PosRec.released (h : Header) (off : Bool) (r : PosRec) : PosRec :=
  ({ r with mode := .coordinated } : PosRec).endSuspension h off

/-- drop: ownership removed without RELEASE at a loss exclusion. -/
def PosRec.dropped (r : PosRec) : PosRec := if r.enrolment.isEnrolled then r else { r with seek := .idle }

/-! ### Master state, enrolment, activation, rollover (R112 to R114, R32, R101) -/

/-- IDLE or FALLBACK to COORDINATING or HOLD (R112). -/
def PosRec.masterRises (h : Header) (r : PosRec) : PosRec :=
  match r.seek with
  | .idle => if r.enrolment.isEnrolled then r.evaluate h else r
  | .suspended _ => { r with seek := .suspended .seeking }
  | _ => r

/-- COORDINATING or HOLD to IDLE or FALLBACK, and IDLE to FALLBACK (R112). -/
def PosRec.masterFalls (r : PosRec) : PosRec :=
  { r with
    target := none
    travel := none
    seek :=
      match r.seek, r.owner with
      | .suspended _, some _ => .suspended .idle
      | _, _ => .idle }

/-- A change of master state as the Transition Unit takes it (R112). -/
def State.seekMaster (old new : Master) (s : State) : State :=
  match old, new with
  | .idle, .coordinating | .idle, .hold | .fallback, .coordinating | .fallback, .hold =>
    allPos.foldl (fun s p => s.putSeek p ((s.posRec p).masterRises s.plan)) s
  | .coordinating, .idle | .coordinating, .fallback | .hold, .idle | .hold, .fallback | .idle, .fallback =>
    allPos.foldl (fun s p => s.putSeek p (s.posRec p).masterFalls) s
  | _, _ => s

/-- VACANT or EXCLUDED to ENROLLED (R113). `runs` is `Master.runs`. -/
def PosRec.enrols (runs : Bool) (r : PosRec) : PosRec :=
  { r with
    target := none, running := none, travel := none, reload := true, tagSeen := none
    seek := if runs then .seeking else .idle }

/-- ENROLLED to EXCLUDED or VACANT (R113). A position that still has an owner waits for the drop that follows. -/
def PosRec.leaves (r : PosRec) : PosRec :=
  { r with
    target := none, running := none, travel := none
    seek := if r.owner.isSome then .suspended .idle else .idle }

/-- The activation event of R32. DEDUCED: R150 and R152 give an owned position return state IDLE while the master is IDLE or FALLBACK,
and R32 and R114 give every SUSPENDED position return state SEEKING at an activation, in whatever master state; the model follows R32 and
R114, and a later handover keeps the SEEKING (assumption 43). -/
def PosRec.activates (r : PosRec) : PosRec :=
  { r with
    target := none, running := none, travel := none, reload := true
    seek :=
      match r.seek with
      | .idle => .idle
      | .suspended _ => .suspended .seeking
      | .seeking | .inStep => .seeking }

/-- An activation, taken by every position (R32, R114). -/
def State.seekActivation (s : State) : State := s.mapPosRec fun r => r.activates.recorrect s.plan

/-- The Transition Unit's part of the rollover: the round spent marks clear and every correction is recomputed (R101). -/
def State.seekRollover (s : State) : State :=
  s.mapPosRec fun r => ({ r with spent := false } : PosRec).recorrect s.plan

end Sys2Proof.Machine
end

