-- ==== Sys2Proof/Machine/Band.lean ====
section
/-! DEFINITION. The Band Computer's steps (chapter 5): the snapshot, the start of a computation, triggers, changes of master
state, and the completion. -/

namespace Sys2Proof.Machine

/-! ### The snapshot (R67, R77) -/

/-- The queue a snapshot takes from a queue record: its value when the record is current, 0 otherwise (R58, R67). -/
def currentQueue (cycleNo : Half) : Option QueueRec → Nat
  | some q => if q.round = cycleNo ∨ q.round = cycleNo - 1 then q.value else 0
  | none => 0

/-- The timing entry of an enrolled position in the active plan. Plan coverage (R29) makes it present; without it the
windows read as (0, 0). -/
def State.activeEntry (s : State) (p : Pos) : Entry :=
  (s.plans.entryOf s.plans.active p).getD { position := posNum p, inb := ⟨0, 0⟩, outb := ⟨0, 0⟩ }

def State.snapPos (s : State) (p : Pos) : SnapPos :=
  let e := s.activeEntry p
  let m := s.meas.pos.get p
  match s.meas.dir with
  | .inbound => { pos := p, peak := e.inb, counter := e.outb, queue := currentQueue s.clock.cycleNo m.queueIn }
  | .outbound => { pos := p, peak := e.outb, counter := e.inb, queue := currentQueue s.clock.cycleNo m.queueOut }

def State.snapLink (s : State) (l : LinkIx) : SnapLink :=
  let r := s.linkRec l
  { link := l, length := r.length, inb := r.inb.quality, outb := r.outb.quality }

/-- The snapshot, taken whole (R77). -/
def State.snapshot (s : State) : Snapshot :=
  let h := s.plan
  { slot := s.plans.active, gen := s.planTag.gen, c := h.c, mode := h.mode, speedIn := h.speedIn, speedOut := h.speedOut
    speedMin := h.speedMin, speedMax := h.speedMax, headway := h.headway, slideStep := h.slideStep, origin := h.origin
    dir := s.meas.dir, policy := s.ctl.policy, memGen := s.memGen
    positions := s.enrolledList.map s.snapPos
    links := (spanLinks s.enrolledList).map s.snapLink
    cycleNo := s.clock.cycleNo }

/-! ### Start and triggers (R73, R77, R79) -/

/-- The computation a start puts in flight (R77). -/
def State.newComputation (s : State) : Computation :=
  let n := s.snapshot
  { number := s.band.number + 1, snap := n, travel := n.travelValues, poisoned := n.poisonedSet, interrupted := false }

/-- The faults a start offers: POISON_USED for each member of the poisoned set, under TOLERANT policy (R79). -/
def Computation.startFaults (x : Computation) : List FaultInfo :=
  match x.snap.policy with
  | .tolerant => x.poisoned.map fun m => .poisonUsed m.1 m.2
  | .strict => []

/-- The start of a computation (R77). -/
def State.startComputation (s : State) : State :=
  let x := s.newComputation
  x.startFaults.foldl (fun s i => s.fault i)
    (s.setBand { s.band with inFlight := some x, recompute := false, number := x.number })

/-- A computation trigger (R73). -/
def State.trigger (s : State) : State :=
  if s.ctl.master = .coordinating ∧ s.band.inFlight = none then s.startComputation
  else s.setBand { s.band with recompute := true }

/-- The computation in flight is marked interrupted (R74). -/
def Band.interrupt (b : Band) : Band :=
  { b with inFlight := b.inFlight.map fun x => { x with interrupted := true } }

/-- A change of master state as the Band Computer takes it (R74). -/
def State.bandMaster (old new : Master) (s : State) : State :=
  let s1 := if old = .coordinating then s.setBand s.band.interrupt else s
  match new with
  | .coordinating => s1.trigger
  | .idle | .fallback => s1.setBand { s1.band with recompute := false }
  | .hold | .detached _ => s1

/-! ### Completion (R88 to R91) -/

/-- The outcome of a completion (R88, R89, R90). -/
def State.judge (s : State) (x : Computation) : Verdict :=
  if s.planTag ≠ { slot := x.snap.slot, gen := x.snap.gen } then .stale .plan
  else if s.meas.dir ≠ x.snap.dir then .stale .direction
  else if s.memGen ≠ x.snap.memGen then .stale .membership
  else if s.ctl.master ≠ .coordinating ∨ x.interrupted = true then .stale .master
  else if x.snap.policy = .strict ∧ x.poisoned ≠ [] then .refused
  else .accepted

/-- The target events of an ACCEPTED completion, in ascending position order (R90). -/
def State.targetEvents (l : List BandEntry) (s : State) : State :=
  l.foldl (fun s e => s.targetEvent e.pos e.target) s

/-- The completion of computation `x` with its outcome (R88, R89, R90). -/
def State.concludeAs (v : Verdict) (x : Computation) (s : State) : State :=
  let b := { s.band with inFlight := none, outcome := some { verdict := v, number := x.number } }
  match v with
  | .accepted => ((s.setBand { b with last := some x.record }).targetEvents x.record.entries).alert .band
  | .stale _ => s.setBand { b with staleCount := satInc 65535 b.staleCount }
  | .refused =>
    match x.poisoned with
    | m :: _ => (s.setBand b).fault (.bandRefused m.1 m.2)
    | [] => s.setBand b

/-- After a completion the recompute-pending flag is read (R91). -/
def State.readRecompute (s : State) : State :=
  if s.band.recompute = true ∧ s.ctl.master = .coordinating then s.startComputation else s

/-- The computation in flight completes (R88, R91). Without one nothing completes. -/
def State.completeComputation (s : State) : State :=
  match s.band.inFlight with
  | none => s
  | some x => (s.concludeAs (s.judge x) x).readRecompute

end Sys2Proof.Machine
end

