-- ==== Sys2Proof/Machine/BandEvents.lean ====
section
/-! DEFINITION. The completion of a computation as an event (chapter 5). -/

namespace Sys2Proof.Machine

/-- The computation in flight completes (R88 to R91). -/
def execComputationCompletion : State → Host.Outcome State Fault Refusal :=
  powered State.completeComputation

end Sys2Proof.Machine
end

