-- ==== Sys2Proof/Machine/Measure.lean ====
section
/-! DEFINITION. The Measurement Unit (chapter 4): intake of a report, and the closing of a round at the rollover. -/

namespace Sys2Proof.Machine

/-! ### Intake (R54 to R59) -/

/-- A transit sample is present when it lies in 1..9999; 0 or a value above 9999 is taken as absent (R54). -/
def samplePresent (v : Nat) : Bool := decide (1 ≤ v ∧ v ≤ 9999)

/-- The screened value and the clamp count of a sample on a link of this length under a plan; an unset length has no bounds
(R55). -/
def screen (h : Header) (length v clamps : Nat) : Nat × Nat :=
  if length = 0 then (v, clamps)
  else if v < travelTime length h.speedMax then (travelTime length h.speedMax, satInc 65535 clamps)
  else if travelTime length h.speedMin < v then (travelTime length h.speedMin, satInc 65535 clamps)
  else (v, clamps)

/-- A screened sample taken into a measure: seeding, or smoothing of a FRESH one (R56). -/
def Quality.seed (q : Quality) (v : Nat) : Quality :=
  match q with
  | .fresh s _ => .fresh (smooth s v) 0
  | .none | .aged | .poisoned => .fresh v 0

/-- One direction of a report taken into its measure: a detector fault poisons it (R57), a sample without one is screened and
smoothed (R55, R56), and no sample changes nothing. -/
def Measure.intake (h : Header) (length sample : Nat) (fault : Bool) (m : Measure) : Measure :=
  if fault then
    { m with quality := .poisoned, sampled := false, lastRaw := if samplePresent sample then some sample else m.lastRaw }
  else if samplePresent sample then
    { quality := m.quality.seed (screen h length sample m.clamps).1
      lastRaw := some sample
      clamps := (screen h length sample m.clamps).2
      sampled := true }
  else m

/-- The link inbound vehicles reach position `p` over, link p; position 24 has none (R54). -/
def inboundLink (p : Pos) : Option LinkIx := if h : p.val < 23 then some ⟨p.val, h⟩ else none

/-- The link outbound vehicles reach position `p` over, link p − 1; position 1 has none (R54). -/
def outboundLink (p : Pos) : Option LinkIx := if h : 0 < p.val then some ⟨p.val - 1, by omega⟩ else none

/-- The measures a report from position `p` reaches (R54). -/
def State.measureReport (p : Pos) (rep : Report) (s : State) : State :=
  let s1 :=
    match inboundLink p with
    | some l =>
      let r := s.linkRec l
      s.setLinkRec l { r with inb := r.inb.intake s.plan r.length rep.transitIn rep.faultIn }
    | none => s
  match outboundLink p with
  | some l =>
    let r := s1.linkRec l
    s1.setLinkRec l { r with outb := r.outb.intake s1.plan r.length rep.transitOut rep.faultOut }
  | none => s1

/-- A queue is limited to 0..60 (R58). -/
def queueRec (raw : Nat) (cycleNo : Half) : QueueRec := { value := min raw 60, round := cycleNo }

/-- The queue and count records of a position replaced by a report (R58, R59). -/
def PosMeas.intake (cycleNo : Half) (rep : Report) (_ : PosMeas) : PosMeas :=
  { queueIn := some (queueRec rep.queueIn cycleNo)
    queueOut := some (queueRec rep.queueOut cycleNo)
    reported := true
    countIn := rep.countIn
    countOut := rep.countOut }

/-- A report taken by the Measurement Unit (R54). -/
def State.measureIntake (p : Pos) (rep : Report) (s : State) : State :=
  let s1 := s.measureReport p rep
  s1.setMeas { s1.meas with
    pos := s1.meas.pos.set p.val ((s1.meas.pos.get p).intake s1.clock.cycleNo rep) p.isLt }

/-! ### Rollover (R60 to R66) -/

/-- The ageing of a measure at a rollover (R61). -/
def Measure.aged (m : Measure) : Measure :=
  match m.quality with
  | .fresh v a => if m.sampled then m else if a + 1 < 3 then { m with quality := .fresh v (a + 1) } else { m with quality := .aged }
  | .none | .aged | .poisoned => m

def Measure.unmark (m : Measure) : Measure := { m with sampled := false }

/-- Every measure rewritten by `f`. -/
def State.mapMeasure (f : Measure → Measure) (s : State) : State :=
  { s with links := Vector.ofFn fun l => { s.links.get l with inb := f (s.links.get l).inb, outb := f (s.links.get l).outb } }

/-- The positions whose report mark is yes (R62). -/
def Meas.reports (m : Meas) : List PosMeas := (allPos.map m.pos.get).filter (·.reported)

/-- The volume update; `n` is the number of ENROLLED positions (R62). -/
def Meas.updateVolumes (n : Nat) (m : Meas) : Meas :=
  let r := m.reports
  if 1 ≤ n ∧ (n + 1) / 2 ≤ r.length then
    { m with
      volIn := smooth m.volIn (r.map (·.countIn)).sum
      volOut := smooth m.volOut (r.map (·.countOut)).sum }
  else m

/-- The turn condition (R64). -/
def Meas.turnCondition (m : Meas) : Bool :=
  match m.dir with
  | .inbound => decide (5 * m.volIn ≤ 4 * m.volOut ∧ 1 ≤ m.volOut)
  | .outbound => decide (5 * m.volOut ≤ 4 * m.volIn ∧ 1 ≤ m.volIn)

/-- The tide evaluation, with the turn of the tide when the count reaches 3 (R64, R65). -/
def State.evaluateTide (s : State) : State :=
  let m := s.meas
  if m.turnCondition then
    if m.tide + 1 < 3 then s.setMeas { m with tide := m.tide + 1 }
    else ((s.setMeas { m with dir := m.dir.reverse, tide := 0 }).alert .tide).trigger
  else s.setMeas { m with tide := 0 }

def PosMeas.unmark (m : PosMeas) : PosMeas := { m with reported := false }

/-- The Measurement Unit takes the rollover: ageing, volumes, tide unless the rollover activates a plan or the active plan is
not TIDAL, and the marks cleared (R60, R66). -/
def State.measureRollover (activated : Bool) (s : State) : State :=
  let s1 := s.mapMeasure Measure.aged
  let s2 := s1.setMeas (s1.meas.updateVolumes s1.enrolledCount)
  let s3 := if activated = false ∧ s2.plan.mode = .tidal then s2.evaluateTide else s2
  let s4 := s3.mapMeasure Measure.unmark
  s4.setMeas { s4.meas with pos := Vector.ofFn fun p => (s4.meas.pos.get p).unmark }

/-- The Measurement Unit takes an activation: direction in force and tide count (R33, R63). -/
def State.measureActivation (s : State) : State := s.setMeas { s.meas with dir := s.plan.startDir, tide := 0 }

end Sys2Proof.Machine
end

