-- ==== Sys2Proof/Machine/Preempt.lean ====
section
/-! DEFINITION. The Preemption Unit (chapter 8): rank, orders, claims, activation, end and expiry of causes. -/

namespace Sys2Proof.Machine

/-! ### Rank (R140) -/

def VectorClass.rank : VectorClass → Nat
  | .rail => 0
  | .emergency => 1
  | .transit => 2
  | .unused => 3

/-- Vector `a` ranks above vector `b`: by class, and within a class by lower number (R140). -/
def Pre.outranks (x : Pre) (a b : VecIx) : Bool :=
  let ra := (x.vectors.get a).cls.rank
  let rb := (x.vectors.get b).cls.rank
  decide (ra < rb) || (decide (ra = rb) && decide (a.val < b.val))

/-- A vector joins a pending set: rank order, no duplicates (R142). -/
def Pre.joinClaims (x : Pre) (v : VecIx) : List VecIx → List VecIx
  | [] => [v]
  | w :: rest => if v = w then w :: rest else if x.outranks v w then v :: w :: rest else w :: x.joinClaims v rest

/-- The hold phase of vector `v` at position `p`. Every claimed position is in the list (R145); ALL_RED otherwise. -/
def VectorCfg.phaseAt (c : VectorCfg) (p : Pos) : HoldPhase :=
  match c.list.find? fun z => z.pos == p with
  | some z => z.phase
  | none => .allRed

/-! ### Orders and ownership (R130, R145, R148) -/

/-- An order is placed: it creates the position's entry or replaces the order in it (R130). -/
def State.placeOrder (p : Pos) (o : Order) (s : State) : State :=
  s.setTrunk { s.trunk with
    orders := s.trunk.orders.set p.val (some { order := o, fails := 0, resting := false, sent := false }) p.isLt }

/-- The PREEMPT order of vector `v` at position `p` (R145, R148). -/
def State.preemptOrder (s : State) (v : VecIx) (p : Pos) : Order :=
  let c := s.pre.vectors.get v
  .preempt v c.cls (c.phaseAt p)

/-- A listed position is claimable when ENROLLED and not LOST (R145). -/
def PosRec.claimable (r : PosRec) : Bool := r.enrolment.isEnrolled && decide (r.health ≠ .lost)

/-- The new cause `v` takes one listed position (R145). -/
def State.claim (v : VecIx) (p : Pos) (s : State) : State :=
  let r := s.posRec p
  if r.claimable then
    match r.owner with
    | none =>
      (s.putSeek p ({ r with owner := some v, claims := [] } : PosRec).seized).placeOrder p (s.preemptOrder v p)
    | some o =>
      if s.pre.outranks v o then
        (s.putSeek p ({ r with owner := some v, claims := s.pre.joinClaims o r.claims } : PosRec).handedOver).placeOrder p
          (s.preemptOrder v p)
      else s.setPosRec p { r with claims := s.pre.joinClaims v r.claims }
  else s

/-- The activation of the cause of vector `v` (R143). -/
def State.activate (v : VecIx) (src : Source) (s : State) : State :=
  let c := s.pre.vectors.get v
  let s1 := s.setPre { s.pre with
    causes := s.pre.causes.set v.val (some { remaining := c.maxHold, source := src }) v.isLt }
  (c.list.foldl (fun s z => s.claim v z.pos) s1).alert .preempt

/-- Cause `v` gives up a position it owns: to the highest pending cause, or by a RELEASE (R148, step 1). -/
def State.giveUp (v : VecIx) (p : Pos) (s : State) : State :=
  let r := s.posRec p
  if r.owner = some v then
    match r.claims with
    | [] =>
      (s.placeOrder p .release).putSeek p
        (({ r with owner := none } : PosRec).released s.plan (!s.ctl.master.runs))
    | w :: rest =>
      (s.putSeek p ({ r with owner := some w, claims := rest } : PosRec).handedOver).placeOrder p (s.preemptOrder w p)
  else s

/-- Cause `v` leaves every pending set (R148, step 2). -/
def State.leaveClaims (v : VecIx) (s : State) : State :=
  s.mapPosRec fun r => { r with claims := r.claims.filter fun w => w != v }

/-- The end of the cause of vector `v` (R148). -/
def State.endCause (v : VecIx) (reason : EndReason) (s : State) : State :=
  let s1 := (allPos.foldl (fun s p => s.giveUp v p) s).leaveClaims v
  (s1.setPre { s1.pre with
    causes := s1.pre.causes.set v.val none v.isLt
    lastEnd := s1.pre.lastEnd.set v.val (some reason) v.isLt }).alert .preempt

def State.causeActive (s : State) (v : VecIx) : Bool := (s.pre.causes.get v).isSome

/-! ### The hold countdown (R147) -/

/-- The line that serves a vector: vectors 0 to 3 have lines P1 to P4 (R136). -/
def lineOfVector (v : VecIx) : Option LineIx := if h : v.val < 4 then some ⟨v.val, h⟩ else none

/-- The vector a line serves (R136). -/
def vectorOfLine (k : LineIx) : VecIx := ⟨k.val, by omega⟩

/-- The line of an expiring vector is disarmed when its state is ACTIVE (R138, R147). -/
def Pre.disarm (x : Pre) (v : VecIx) : Pre :=
  match lineOfVector v with
  | none => x
  | some k =>
    let l := x.lines.get k
    if l.active then { x with lines := x.lines.set k.val { l with armed := false } k.isLt } else x

/-- The expiry of the cause of vector `v`: HOLD_EXPIRED, disarming, end with reason EXPIRY (R147). -/
def State.expire (v : VecIx) (s : State) : State :=
  let s1 := s.fault (.holdExpired v)
  (s1.setPre (s1.pre.disarm v)).endCause v .expiry

/-- The remaining hold of one cause is decremented (R147). -/
def Cause.countDown (c : Cause) : Cause := { c with remaining := c.remaining - 1 }

/-- The end of a decisecond: every active cause is decremented, and those that reach 0 expire one at a time in ascending
vector order, in this same event (R147). -/
def State.holdCountdown (s : State) : State :=
  let s1 := s.setPre { s.pre with causes := Vector.ofFn fun v => (s.pre.causes.get v).map Cause.countDown }
  allVectors.foldl
    (fun s v =>
      match s.pre.causes.get v with
      | some c => if c.remaining = 0 then s.expire v else s
      | none => s) s1

/-- The causes of class TRANSIT end when the master leaves COORDINATING, in ascending vector order (R152). -/
def State.endTransit (s : State) : State :=
  allVectors.foldl
    (fun s v => if s.causeActive v && decide ((s.pre.vectors.get v).cls = .transit) then s.endCause v .master else s) s

/-- A change of master state as the Preemption Unit takes it (R152). -/
def State.preMaster (old : Master) (s : State) : State := if old = .coordinating then s.endTransit else s

/-- A loss exclusion as the Preemption Unit takes it: owner and pending set go without a RELEASE, and a drop is offered
(R151, R110). -/
def State.dropOwner (p : Pos) (s : State) : State :=
  let r := s.posRec p
  if r.owner.isSome then s.putSeek p ({ r with owner := none, claims := [] } : PosRec).dropped
  else s.setPosRec p { r with claims := [] }

end Sys2Proof.Machine
end

