-- ==== Sys2Proof/Machine/Clock.lean ====
section
/-! DEFINITION. The Cycle Clock and Timebase Unit (chapter 3): judging REF pulses, the decisecond boundary, the rollover with
its fan-out, and the beacon schedule. -/

namespace Sys2Proof.Machine

/-! ### Timebase (R38 to R43) -/

/-- The decisecond length of the internal oscillator, 100.0 ms, in tenths of a ms (R38). -/
def internalLength : Nat := 1000

/-- A good interval, in ms (R40). -/
def goodInterval (interval : Nat) : Bool := decide (990 ≤ interval ∧ interval ≤ 1010)

def State.setTimebase (tb : Timebase) (dsLength : Nat) (s : State) : State :=
  s.setClock { s.clock with tb, dsLength }

/-- A pulse judged in ACQUIRING, with count `n` and previous pulse `prev` (R40, R41). -/
def State.pulseAcquiring (n : Nat) (prev : Option Nat) (t : Nat) (s : State) : State :=
  match prev with
  | none => s.setTimebase (.acquiring 0 (some t)) s.clock.dsLength
  | some q =>
    if goodInterval (t - q) then
      if n + 1 = 8 then (s.setTimebase (.reference t (t - q)) (t - q)).alert .timebase
      else s.setTimebase (.acquiring (n + 1) (some t)) s.clock.dsLength
    else s.setTimebase (.acquiring 0 (some t)) s.clock.dsLength

/-- A reference loss; `prev` is the previous pulse after it (R42). -/
def State.referenceLoss (cause : RefCause) (prev : Option Nat) (s : State) : State :=
  let s1 := ((s.fault (.referenceLost cause)).setTimebase .internal internalLength).alert .timebase
  match s1.clock.pref with
  | .internalOnly => s1
  | .preferReference => (s1.setTimebase (.acquiring 0 prev) internalLength).alert .timebase

/-- A REF pulse at internal-oscillator time `t` (R40, R41, R42). -/
def State.refPulseAt (t : Nat) (s : State) : State :=
  match s.clock.tb with
  | .internal => s
  | .acquiring n prev => s.pulseAcquiring n prev t
  | .reference prev _ =>
    if goodInterval (t - prev) then s.setTimebase (.reference t (t - prev)) (t - prev)
    else s.referenceLoss .interval (some t)

/-- The silence limit: 1500 ms after the previous pulse, in REFERENCE (R42). -/
def State.silenceAt (t : Nat) (s : State) : State :=
  match s.clock.tb with
  | .reference prev _ => if prev + 1500 ≤ t then s.referenceLoss .silence none else s
  | .internal | .acquiring _ _ => s

/-- The preference is replaced, written through to the store (R43). -/
def State.setPreference (port : PortId) (pref : Preference) (s : State) : State :=
  (s.setClock { s.clock with pref }).writeStore (some port) fun st => { st with pref }

/-- An accepted TIMEBASE (R43). -/
def State.applyTimebase (port : PortId) (pref : Preference) (s : State) : State :=
  match pref, s.clock.tb with
  | .internalOnly, .acquiring _ _ | .internalOnly, .reference _ _ =>
    ((s.setPreference port .internalOnly).setTimebase .internal internalLength).alert .timebase
  | .preferReference, .internal =>
    ((s.setPreference port .preferReference).setTimebase (.acquiring 0 none) s.clock.dsLength).alert .timebase
  | .internalOnly, .internal | .preferReference, .acquiring _ _ | .preferReference, .reference _ _ => s

/-! ### Beacons (R49, R50) -/

/-- A beacon falls due: it waits, in place of one that waits, and keeps or gains the rollover mark (R50). -/
def State.beaconDue (mark : Bool) (s : State) : State :=
  s.setTrunk { s.trunk with waitingBeacon := some (mark || s.trunk.waitingBeacon.getD false) }

/-! ### The decisecond boundary (R39, R46, R49) -/

/-- The position advances by one, the decisecond that begins takes the length in force, and a beacon falls due at a multiple of
the beacon interval. -/
def State.advance (s : State) : State :=
  let k := s.clock
  let s1 := s.setClock { k with dsRunning := k.dsLength, cyclePos := k.cyclePos + 1 }
  if (k.cyclePos + 1) % k.beaconInterval = 0 then s1.beaconDue false else s1

/-! ### The rollover (R31, R33, R47) -/

/-- The Plan Store takes the rollover: the pending slot becomes the active slot, written through (R31). -/
def State.activatePending (s : State) : State :=
  match s.plans.pendingSlot with
  | none => s
  | some i =>
    (s.setPlans { s.plans with active := i, pendingSlot := none }).writeStore none fun st => { st with active := i }

/-- The clock's and the Plan Store's part of the rollover, with the C in force set from the plan then active (R47). -/
def State.turnCycle (s : State) : State :=
  let k := s.clock
  let s1 := (s.setClock { k with dsRunning := k.dsLength, cyclePos := 0, cycleNo := k.cycleNo + 1 }).activatePending
  s1.setClock { s1.clock with c := s1.plan.c }

/-- The Trunk Controller takes the rollover: the round closes and the rollover beacon waits (R50, R126). -/
def State.trunkRollover (s : State) : State := (s.setTrunk { s.trunk with roundOpen := false }).beaconDue true

/-- The Transition Unit takes the activation, if any, and the rollover (R32, R101). -/
def State.seekBoundary (activated : Bool) (s : State) : State :=
  (if activated then s.seekActivation else s).seekRollover

/-- The alert of an activation (R33). -/
def State.activationAlert (activated : Bool) (s : State) : State := if activated then s.alert .plan else s

/-- The Band Computer's triggers of a rollover: activation, and rollover under an ADAPTIVE plan (R33, R72, R76). -/
def State.bandBoundary (activated : Bool) (s : State) : State :=
  let s1 := if activated then s.trigger else s
  if s1.plan.adaptive then s1.trigger else s1

/-- The Measurement Unit's activation event, when there is one (R33, R66). -/
def State.measureBoundary (activated : Bool) (s : State) : State := if activated then s.measureActivation else s

/-- A computation in flight whose snapshot names another direction in force than the activation has set is followed by a fresh
one: the recompute-pending flag is yes (R76; assumption 39). -/
def State.followActivation (activated : Bool) (s : State) : State :=
  match s.band.inFlight with
  | some x => if activated = true ∧ x.snap.dir ≠ s.meas.dir then s.setBand { s.band with recompute := true } else s
  | none => s

/-- The Measurement Unit and the Band Computer take the rollover in the order named (R66, R67, R76). -/
def State.measureInOrder (activated : Bool) (m : BandMoment) (s : State) : State :=
  match m with
  | .afterBoth => ((s.measureBoundary activated).measureRollover activated).bandBoundary activated
  | .beforeBoth => ((s.bandBoundary activated).measureBoundary activated).measureRollover activated
  | .betweenRolloverAndActivation => ((s.measureRollover activated).bandBoundary activated).measureBoundary activated
  | .betweenActivationAndRollover => ((s.measureBoundary activated).bandBoundary activated).measureRollover activated

/-- The Measurement Unit and the Band Computer take the rollover in the order the event names, and in either order a computation
on the plan and the direction then in force follows (R76). -/
def State.measureAndTrigger (activated : Bool) (m : BandMoment) (s : State) : State :=
  (s.measureInOrder activated m).followActivation activated

/-- The Preemption Unit takes the end of the decisecond here, when moment `m` of the boundary is the one its order names (R147). -/
def State.holdAt (m : HoldMoment) (o : BoundaryOrder) (s : State) : State := if o.hold = m then s.holdCountdown else s

/-- The blocks that take a rollover after the clock and before the Band Computer: the Trunk Controller, the Transition Unit, and
the alert of an activation (R33, R47). -/
def State.fanOut (activated : Bool) (s : State) : State :=
  (s.trunkRollover.seekBoundary activated).activationAlert activated

/-- The rollover and its fan-out (R47). -/
def State.rollover (o : BoundaryOrder) (s : State) : State :=
  let activated := s.plans.pendingSlot.isSome
  (((s.turnCycle.holdAt .beforeSeeks o).fanOut activated).holdAt .beforeBand o).measureAndTrigger activated o.band

/-- A boundary at a position below C − 1 (R46): the two moments between the clock and the other blocks are one. -/
def State.plainBoundary (o : BoundaryOrder) (s : State) : State :=
  (s.advance.holdAt .beforeSeeks o).holdAt .beforeBand o

/-- The clock's part of a decisecond boundary: the rollover when the position is C − 1, an advance otherwise (R46). -/
def State.tick (o : BoundaryOrder) (s : State) : State :=
  if s.clock.cyclePos + 1 = s.clock.c then s.rollover o else s.plainBoundary o

/-- A decisecond boundary: the clock and what follows it, and the end of the decisecond offered to the Preemption Unit at the moment
the order names (R46, R147, R171; assumption 12). -/
def State.boundary (o : BoundaryOrder) (s : State) : State := ((s.holdAt .beforeClock o).tick o).holdAt .afterAll o

end Sys2Proof.Machine
end

