-- ==== Sys2Proof/Machine/ClockEvents.lean ====
section
/-! DEFINITION. The events of the cycle clock, the timebase and the hold countdown (chapters 3 and 8). -/

namespace Sys2Proof.Machine

/-- An event at internal-oscillator time `t`: the time moves there, and the event is taken at it (assumption 5). -/
def State.timed (t : Nat) (f : Nat → State → State) (s : State) : State := f (s.at t).now (s.at t)

/-- A decisecond boundary (R46). At position C − 1 it is the rollover. -/
def execDecisecond (o : BoundaryOrder) : State → Host.Outcome State Fault Refusal :=
  powered (State.boundary o)

/-- The decisecond boundary that is the rollover (R47). At another position it does not occur. -/
def execRollover (o : BoundaryOrder) : State → Host.Outcome State Fault Refusal :=
  powered fun s => if s.clock.cyclePos + 1 = s.clock.c then s.boundary o else s

/-- A REF pulse (R40, R41, R42). -/
def execRefPulse (t : Nat) : State → Host.Outcome State Fault Refusal :=
  powered (State.timed t State.refPulseAt)

/-- The silence limit (R42). -/
def execSilenceLimit (t : Nat) : State → Host.Outcome State Fault Refusal :=
  powered (State.timed t State.silenceAt)

/-- The remaining hold of the cause of vector `v` reaches 0 at the end of this decisecond (R147). -/
def execCauseExpiry (v : VecIx) : State → Host.Outcome State Fault Refusal :=
  powered fun s =>
    match s.pre.causes.get v with
    | some c => if c.remaining ≤ 1 then s.expire v else s
    | none => s

end Sys2Proof.Machine
end

