-- ==== Sys2Proof/Machine/Health.lean ====
section
/-! DEFINITION. The health of a position and the order table, as the other blocks' events change them (R118, R119, R128). -/

namespace Sys2Proof.Machine

/-- Health is a function of the miss count: ONLINE for 0 or 1, SUSPECT for 2 to 4, LOST for 5 (R118). -/
def healthOf (misses : Nat) : Health := if misses ≤ 1 then .online else if misses ≤ 4 then .suspect else .lost

/-- The miss count of a position is set, and its health from it within the same event. A change to LOST offers JUNCTION_LOST
and JUNCTION; a change from LOST to ONLINE offers JUNCTION (R118, R128). -/
def State.setMisses (p : Pos) (n : Nat) (s : State) : State :=
  let r := s.posRec p
  let new := healthOf n
  let s1 := s.setPosRec p { r with misses := n, health := new }
  if new = .lost ∧ r.health ≠ .lost then (s1.fault (.junctionLost p)).alert .junction
  else if new = .online ∧ r.health = .lost then s1.alert .junction
  else s1

def State.setAvailable (p : Pos) (b : Bool) (s : State) : State := s.setPosRec p { s.posRec p with available := b }

/-- The position's order table entry is written or removed. -/
def State.setOrder (p : Pos) (e : Option OrderEntry) (s : State) : State :=
  s.setTrunk { s.trunk with orders := s.trunk.orders.set p.val e p.isLt }

/-- What an enrolment event reports (R2): the change and its cause. -/
inductive EnrolmentChange where
  | enrols
  | excludes
  | loses
  | vacates (fromEnrolled : Bool)
deriving DecidableEq, Repr

/-- An enrolment event as the Trunk Controller takes it (R119). -/
def State.trunkEnrolment (p : Pos) (c : EnrolmentChange) (s : State) : State :=
  match c with
  | .enrols => (s.setMisses p 0).setAvailable p false
  | .excludes => s.setAvailable p false
  | .loses => (s.setAvailable p false).setOrder p none
  | .vacates _ => ((s.setMisses p 0).setAvailable p false).setOrder p none

/-- Departure from DETACHED: every miss count 0 and every health ONLINE (R134). -/
def State.clearMisses (s : State) : State := allPos.foldl (fun s p => s.setMisses p 0) s

end Sys2Proof.Machine
end

