-- ==== Sys2Proof/Machine/Master.lean ====
section
/-! DEFINITION. Changes of the master state (chapter 9): the fan-out of R165, FALLBACK, DETACHED. -/

namespace Sys2Proof.Machine

def Resume.master : Resume → Master
  | .idle => .idle
  | .coordinating => .coordinating
  | .hold => .hold
  | .fallback => .fallback

/-- The resume state an entry into DETACHED keeps (R163). -/
def Master.asResume : Master → Resume
  | .idle => .idle
  | .coordinating => .coordinating
  | .hold => .hold
  | .fallback => .fallback
  | .detached r => r

def State.setMaster (m : Master) (s : State) : State := s.setCtl { s.ctl with master := m }

/-- The master state becomes `new`, and the change is offered to the Transition Unit, the Preemption Unit, the Fault and Alert
Unit and the Band Computer (R165). Not for departures from DETACHED. -/
def State.changeMaster (new : Master) (s : State) : State :=
  let old := s.ctl.master
  ((((s.setMaster new).seekMaster old new).preMaster old).alert .state).bandMaster old new

/-- An entry into FALLBACK with its cause (R161). -/
def State.enterFallback (cause : FallbackCause) (s : State) : State :=
  (s.changeMaster .fallback).fault (.fallbackEntered cause)

/-- A loss or membership event takes the master to FALLBACK from IDLE, COORDINATING or HOLD; in FALLBACK and DETACHED it
changes nothing (R162). -/
def State.fallbackUnlessOut (cause : FallbackCause) (s : State) : State :=
  match s.ctl.master with
  | .idle | .coordinating | .hold => s.enterFallback cause
  | .fallback | .detached _ => s

/-- The landing state of a departure from DETACHED (R164). -/
def State.landing (s : State) (r : Resume) : Master :=
  match r with
  | .idle => .idle
  | .fallback => .fallback
  | .coordinating | .hold =>
    if s.enrolledCount < 2 then .fallback else if s.ctl.holdSource then .hold else .coordinating

/-- Departure from DETACHED with resume state `r` (R164, R134). The Transition Unit and the Preemption Unit see a change only
where a resume state of COORDINATING or HOLD lands in FALLBACK. -/
def State.depart (r : Resume) (s : State) : State :=
  let new := s.landing r
  let s1 := (s.setMaster new).clearMisses
  let s2 := if r.runs = true ∧ new = .fallback then (s1.seekMaster r.master .fallback).preMaster r.master else s1
  let s3 := (s2.alert .state).bandMaster (.detached r) new
  if r.runs = true ∧ new = .fallback then s3.fault (.fallbackEntered .membership) else s3

/-- A HOLD source is raised: a COORDINATING master enters HOLD (R159). -/
def State.holdRaised (s : State) : State :=
  if s.ctl.master = .coordinating then s.changeMaster .hold else s

/-- A HOLD source is withdrawn: a HOLD master without a source enters COORDINATING (R160). -/
def State.holdWithdrawn (s : State) : State :=
  if s.ctl.master = .hold ∧ s.ctl.holdSource = false then s.changeMaster .coordinating else s

end Sys2Proof.Machine
end

