-- ==== Sys2Proof/Machine/Lines.lean ====
section
/-! DEFINITION. The debounced input lines (R136 to R138, R156): the measurement on an input pin, the settles of P1 to P4 with
what they start and end, and the turns of HOLD, DETACH and KEY. -/

namespace Sys2Proof.Machine

/-! ### Pins (R137) -/

def Ctl.setHoldLine (l : CtlLine) (c : Ctl) : Ctl := { c with holdLine := l }
def Ctl.setDetachLine (l : CtlLine) (c : Ctl) : Ctl := { c with detachLine := l }
def Ctl.setKeyLine (l : CtlLine) (c : Ctl) : Ctl := { c with keyLine := l }

def Pre.setLine (k : LineIx) (l : PLine) (x : Pre) : Pre := { x with lines := x.lines.set k.val l k.isLt }

def State.setLine (k : LineIx) (l : PLine) (s : State) : State := s.setPre (s.pre.setLine k l)

/-- The pin of a line. -/
def State.input (s : State) : LineId → Input
  | .preempt k => (s.pre.lines.get k).input
  | .hold => s.ctl.holdLine.input
  | .detach => s.ctl.detachLine.input
  | .key => s.ctl.keyLine.input

def State.setInput (l : LineId) (i : Input) (s : State) : State :=
  match l with
  | .preempt k => s.setLine k { s.pre.lines.get k with input := i }
  | .hold => s.setCtl (s.ctl.setHoldLine { s.ctl.holdLine with input := i })
  | .detach => s.setCtl (s.ctl.setDetachLine { s.ctl.detachLine with input := i })
  | .key => s.setCtl (s.ctl.setKeyLine { s.ctl.keyLine with input := i })

/-- The measurement starts at time `t` from the level present (R137). -/
def Input.restartAt (t : Nat) (i : Input) : Input := { i with since := t, settled := false }

def Input.settle (i : Input) : Input := { i with settled := true }

/-- The input has held its level for the debounce time, and has not settled since its last change (R137). -/
def Input.due (debounce t : Nat) (i : Input) : Bool := !i.settled && decide (i.since + debounce ≤ t)

/-- The input level of a line changes; the measurement restarts (R137). A level that stands already is no change. -/
def State.inputChange (l : LineId) (high : Bool) (s : State) : State :=
  if (s.input l).high = high then s else s.setInput l { high, since := s.now, settled := false }

/-! ### The preemption lines (R136 to R138) -/

/-- Whether an input level is the active level of a line (R136). -/
def LineCfg.activeLevel (c : LineCfg) (high : Bool) : Bool :=
  match c.polarity with
  | .activeHigh => high
  | .activeLow => !high

/-- The conditions, besides the arming, under which a line that turns active starts a cause of its vector (R138). -/
def State.mayStart (s : State) (v : VecIx) : Bool :=
  let c := (s.pre.vectors.get v).cls
  decide (c ≠ .unused) && !s.causeActive v && (decide (c ≠ .transit) || decide (s.ctl.master = .coordinating))

/-- Line `k` settles (R137, R138). -/
def State.settleLine (k : LineIx) (s : State) : State :=
  let l := s.pre.lines.get k
  let v := vectorOfLine k
  let done := { l with input := l.input.settle }
  if l.cfg.activeLevel l.input.high then
    if l.active then s.setLine k done
    else
      let s1 := s.setLine k { done with active := true }
      if l.armed && s.mayStart v then s1.activate v .line else s1
  else
    let s1 := s.setLine k { done with active := false, armed := true }
    if l.active && s.causeActive v then s1.endCause v .line else s1

/-- Line `k` settles when its debounce time is over (R137). -/
def State.settleLineAt (k : LineIx) (t : Nat) (s : State) : State :=
  let l := s.pre.lines.get k
  if l.input.due l.cfg.debounce t then s.settleLine k else s

/-- A preemption line of debounce 0 settles at each change (R137). -/
def State.settleAtOnce (l : LineId) (s : State) : State :=
  match l with
  | .preempt k => if (s.pre.lines.get k).cfg.debounce = 0 then s.settleLineAt k s.now else s
  | .hold | .detach | .key => s

/-! ### The HOLD, DETACH and KEY lines (R156) -/

/-- The fixed debounce of the three lines, in ms (R156). -/
def ctlDebounce : Nat := 50

/-- The line settles at this level at time `t`. -/
def CtlLine.settles (l : CtlLine) (high : Bool) (t : Nat) : Bool :=
  decide (l.input.high = high) && l.input.due ctlDebounce t

/-- The line after a settle at this level. -/
def CtlLine.settled (l : CtlLine) (high : Bool) : CtlLine := { active := high, input := l.input.settle }

/-- The HOLD line settles at this level: a turn raises or withdraws a HOLD source (R159, R160). -/
def State.holdLineAt (high : Bool) (t : Nat) (s : State) : State :=
  let l := s.ctl.holdLine
  if l.settles high t then
    let s1 := s.setCtl (s.ctl.setHoldLine (l.settled high))
    if l.active = high then s1 else if high then s1.holdRaised else s1.holdWithdrawn
  else s

/-- The attempt in flight, if any, gets no second attempt (R134). -/
def State.cutExchange (s : State) : State :=
  s.setTrunk { s.trunk with exchange := s.trunk.exchange.map fun x => { x with cut := true } }

/-- The DETACH line turns active: the master enters DETACHED and keeps the state it leaves (R163), and an attempt in flight is the
last of its exchange (R134). -/
def State.enterDetached (s : State) : State :=
  match s.ctl.master with
  | .detached _ => s
  | m => (s.changeMaster (.detached m.asResume)).cutExchange

/-- The DETACH line turns inactive: the master leaves DETACHED (R164). -/
def State.leaveDetached (s : State) : State :=
  match s.ctl.master with
  | .detached r => s.depart r
  | _ => s

/-- The DETACH line settles at this level (R163, R164). -/
def State.detachLineAt (high : Bool) (t : Nat) (s : State) : State :=
  let l := s.ctl.detachLine
  if l.settles high t then
    let s1 := s.setCtl (s.ctl.setDetachLine (l.settled high))
    if l.active = high then s1 else if high then s1.enterDetached else s1.leaveDetached
  else s

/-- The KEY line settles at this level (R156). -/
def State.keyLineAt (high : Bool) (t : Nat) (s : State) : State :=
  let l := s.ctl.keyLine
  if l.settles high t then s.setCtl (s.ctl.setKeyLine (l.settled high)) else s

end Sys2Proof.Machine
end

