-- ==== Sys2Proof/Machine/LineEvents.lean ====
section
/-! DEFINITION. The events of the input lines (chapters 8 and 9). -/

namespace Sys2Proof.Machine

/-- The input level of a line changes (R137). The pin follows the world also while the part has no supply, when no time is counted. -/
def execLineInputChange (l : LineId) (high : Bool) (t : Nat) (s : State) : Host.Outcome State Fault Refusal :=
  .next (if s.powered then ((s.at t).inputChange l high).settleAtOnce l else s.inputChange l high)

/-- A preemption line settles (R137, R138). -/
def execPreLineSettle (k : LineIx) (t : Nat) : State → Host.Outcome State Fault Refusal :=
  powered (State.timed t (State.settleLineAt k))

/-- The HOLD line settles high (R159). -/
def execHoldLineActive (t : Nat) : State → Host.Outcome State Fault Refusal :=
  powered (State.timed t (State.holdLineAt true))

/-- The HOLD line settles low (R160). -/
def execHoldLineInactive (t : Nat) : State → Host.Outcome State Fault Refusal :=
  powered (State.timed t (State.holdLineAt false))

/-- The DETACH line settles high (R163). -/
def execDetachLineActive (t : Nat) : State → Host.Outcome State Fault Refusal :=
  powered (State.timed t (State.detachLineAt true))

/-- The DETACH line settles low (R164). -/
def execDetachLineInactive (t : Nat) : State → Host.Outcome State Fault Refusal :=
  powered (State.timed t (State.detachLineAt false))

/-- The KEY line settles high (R156). -/
def execKeyLineActive (t : Nat) : State → Host.Outcome State Fault Refusal :=
  powered (State.timed t (State.keyLineAt true))

/-- The KEY line settles low (R156). -/
def execKeyLineInactive (t : Nat) : State → Host.Outcome State Fault Refusal :=
  powered (State.timed t (State.keyLineAt false))

end Sys2Proof.Machine
end

