-- ==== Sys2Proof/Machine/Ports.lean ====
section
/-! DEFINITION. The two ports (R177 to R181): receiving bytes, taking a complete frame, the sender class, the checks made before
the owning block, the reply, and the ALERT record's transmission. -/

namespace Sys2Proof.Machine

/-! ### Receiving (R178, R179) -/

/-- The bytes the receive buffer holds: complete frames and the frame being received (R177). -/
def Port.held (q : Port) : Nat := (q.frames.map Frame.size).sum + q.receiving.length

/-- The frame being received is discarded, the error count incremented and the port HUNTING. -/
def Port.discard (q : Port) : Port := { q with receiving := [], errors := satInc 65535 q.errors }

/-- The frame that these bytes after a length byte make, when their check agrees (R178). -/
def judgeFrame (len : Byte) (rest : List Byte) : Option Frame :=
  match rest.take len.toNat with
  | kind :: tag :: body =>
    if rest.drop len.toNat = checkBytes (len :: kind :: tag :: body) then some { kind, tag, body } else none
  | _ => none

/-- The last byte of a frame has arrived: the frame is kept or discarded (R178). -/
def Port.complete (len : Byte) (rest : List Byte) (q : Port) : Port :=
  match judgeFrame len rest with
  | some f => { q with receiving := [], frames := q.frames ++ [f] }
  | none => q.discard

/-- A byte arrives while the buffer has room for it (R178). -/
def Port.collect (b : Byte) (q : Port) : Port :=
  match q.receiving with
  | [] => if b = syncByte then { q with receiving := [b] } else q
  | [_] => if 2 ≤ b.toNat ∧ b.toNat ≤ 250 then { q with receiving := q.receiving ++ [b] } else q.discard
  | _ :: len :: rest =>
    if rest.length + 1 = len.toNat + 2 then q.complete len (rest ++ [b])
    else { q with receiving := q.receiving ++ [b] }

/-- A byte arrives while the buffer holds 256 bytes (R179). -/
def Port.overflow (q : Port) : Port := if q.receiving = [] then q else q.discard

/-- A byte arrives at the port (R178, R179). -/
def Port.receive (b : Byte) (q : Port) : Port := if 256 ≤ q.held then q.overflow else q.collect b

/-- These bytes arrive, without a pause of more than 100 ms between them. -/
def Port.receiveAll (bytes : List Byte) (q : Port) : Port := bytes.foldl (fun q b => q.receive b) q

/-- A pause of more than 100 ms (R178). -/
def Port.pause (q : Port) : Port := if q.receiving = [] then q else q.discard

/-! ### Taking a request (R179, R180) -/

/-- The port once this frame is taken from it. A frame is taken when no request is in progress and it is the oldest complete
frame; at an empty port the command stands for the arrival of the frame as well (assumption 6). -/
def Port.taking (f : Frame) (q : Port) : Option Port :=
  if q.inProgress.isSome then none
  else
    match q.frames with
    | g :: rest => if g = f then some { q with frames := rest } else none
    | [] => if q.receiving = [] ∧ f.body.length ≤ 248 then some q else none

/-- The sender class at the taking (R180). -/
def State.senderClass (s : State) : PortId → SenderClass
  | .centre => .supervisory
  | .field => if s.ctl.keyLine.active then .supervisory else .field

/-- What the taking of a request leads to: the state and the answer. -/
structure Ruling where
  state : State
  answer : Answer
deriving DecidableEq, Repr

/-- A refusal carries the code alone (R181). -/
def State.refuse (c : ReplyCode) (s : State) : Ruling := { state := s, answer := { code := c, result := [] } }

/-- An OK with its result bytes (R181). -/
def State.grant (result : List Byte) (s : State) : Ruling := { state := s, answer := { code := .ok, result } }

/-- The reply to a request: kind plus 128, tag unchanged, code and result (R181). -/
def Frame.replyWith (f : Frame) (a : Answer) : Reply :=
  { kind := replyKind f.kind, tag := f.tag, code := a.code, result := a.result }

/-- The request becomes the request in progress, its reply being sent (R177, R181). -/
def State.putReply (p : PortId) (f : Frame) (cls : SenderClass) (a : Answer) (s : State) : State :=
  s.setPort p { s.port p with inProgress := some { kind := f.kind, tag := f.tag, cls, reply := f.replyWith a } }

/-- A frame is taken and ruled on, and `after` follows by the reply code. A frame that cannot be taken now is not taken
(assumption 4). -/
def State.serve (p : PortId) (f : Frame) (rule : SenderClass → State → Ruling) (after : ReplyCode → State → State)
    (s : State) : State :=
  match (s.port p).taking f with
  | none => s
  | some q =>
    let cls := s.senderClass p
    let r := rule cls (s.setPort p q)
    after r.answer.code (r.state.putReply p f cls r.answer)

/-- Checks 2 to 4 of R180: the body length, the sender class, the owning block. `fieldMay` says that a FIELD sender may send
the request. -/
def checkThenOwn {α : Type} (fieldMay : Bool) (parse : List Byte → Option α) (own : α → State → Ruling) (body : List Byte)
    (cls : SenderClass) (s : State) : Ruling :=
  match parse body with
  | none => s.refuse .badFormat
  | some a => if cls = .field ∧ fieldMay = false then s.refuse .senderClass else own a s

/-- Nothing follows the building of the reply. -/
def noMore (_ : ReplyCode) (s : State) : State := s

/-- A request of a known kind is taken (R180). -/
def State.request {α : Type} (p : PortId) (kind : Byte) (fieldMay : Bool) (parse : List Byte → Option α)
    (own : α → State → Ruling) (tag : Byte) (body : List Byte) (s : State) : State :=
  s.serve p { kind, tag, body } (checkThenOwn fieldMay parse own body) noMore

/-! ### The end of a reply (R179) -/

/-- A store write made for a request of this port is complete before its reply is sent (R167). -/
def Unfinished.closedBy (p : PortId) (u : Option Unfinished) : Option Unfinished :=
  match u with
  | some w => if w.port = some p then none else some w
  | none => none

/-- The last byte of the reply is sent: the request in progress ends (R179). -/
def State.endReply (p : PortId) (s : State) : State :=
  match (s.port p).inProgress with
  | none => s
  | some r =>
    let s1 := s.setPort p { s.port p with inProgress := none, out := some r.reply }
    { s1 with unfinished := Unfinished.closedBy p s1.unfinished }

/-! ### The ALERT record (R174) -/

/-- The ALERT is read out: withheld when the signalled set is empty, sent otherwise (R174). -/
def FaultUnit.sendAlert (f : FaultUnit) : FaultUnit :=
  match f.signalled with
  | [] => { f with waiting := false }
  | c :: cs => { f with waiting := false, seq := f.seq + 1, out := some { seq := f.seq + 1, classes := c :: cs } }

/-- A waiting ALERT goes out when the centre link's transmitter is free (R174). -/
def State.alertOut (s : State) : State :=
  if s.faults.waiting = true ∧ s.centre.inProgress = none then s.setFaults s.faults.sendAlert else s

end Sys2Proof.Machine
end

