-- ==== Sys2Proof/Machine/PortEvents.lean ====
section
/-! DEFINITION. The events of the two ports and the ALERT record (chapters 10 and 11). -/

namespace Sys2Proof.Machine

/-- The bytes of a frame arrive and are judged (R178, R179). -/
def execPortFrame (p : PortId) (bytes : List Byte) : State → Host.Outcome State Fault Refusal :=
  powered fun s => s.setPort p ((s.port p).receiveAll bytes)

/-- A pause of more than 100 ms inside a frame (R178). -/
def execPortPause (p : PortId) : State → Host.Outcome State Fault Refusal :=
  powered fun s => s.setPort p (s.port p).pause

/-- The last byte of the reply is sent (R179). -/
def execReplyEnd (p : PortId) : State → Host.Outcome State Fault Refusal :=
  powered (State.endReply p)

/-- A byte arrives while the buffer holds 256 bytes (R179). With room in the buffer the event does not occur. -/
def execReceiveBufferFull (p : PortId) (b : Byte) : State → Host.Outcome State Fault Refusal :=
  powered fun s => if 256 ≤ (s.port p).held then s.setPort p ((s.port p).receive b) else s

/-- The centre link's transmitter is free and an ALERT waits (R174). -/
def execAlertRecord : State → Host.Outcome State Fault Refusal :=
  powered State.alertOut

end Sys2Proof.Machine
end

