-- ==== Sys2Proof/Machine/Power.lean ====
section
/-! DEFINITION. Restart from the configuration store (R168 with the restart rule of each block), power-on and loss of supply. -/

namespace Sys2Proof.Machine

/-! ### The restart values of each block -/

/-- A slot as the store gives it back; an OPEN slot is in no store (R35, R36). -/
def StoredSlot.restored (x : StoredSlot) : Slot :=
  { locked := x.locked
    gen := x.gen
    body :=
      match x.plan with
      | some q => .ready q.h q.entries
      | none => .empty }

/-- The Plan Store after restart (R36). -/
def PlanStore.restarted (st : Store) : PlanStore :=
  { slots := Vector.ofFn fun i => (st.slots.get i).restored, active := st.active, pendingSlot := none }

/-- The clock and timebase after restart, before the passage to ACQUIRING (R45, R52). -/
def Clock.restarted (st : Store) : Clock :=
  { tb := .internal, pref := st.pref, dsLength := internalLength, dsRunning := internalLength, cyclePos := 0, cycleNo := 0
    c := ((PlanStore.restarted st).header st.active).c
    beaconInterval := st.beaconInterval }

/-- The Measurement Unit's own fields after restart (R63, R70). -/
def Meas.restarted (st : Store) : Meas :=
  { pos := Vector.replicate 24 .restarted, volIn := 0, volOut := 0
    dir := ((PlanStore.restarted st).header st.active).startDir
    tide := 0 }

/-- A preemption line after restart: INACTIVE, armed, its measurement started from the level present (R154). -/
def PLine.restarted (cfg : LineCfg) (i : Input) : PLine :=
  { cfg, active := false, armed := true, input := i.restartAt 0 }

/-- The Preemption Unit after restart (R154). -/
def Pre.restarted (st : Store) (x : Pre) : Pre :=
  { vectors := st.vectors
    causes := Vector.replicate 8 none
    lastEnd := Vector.replicate 8 none
    lines := Vector.ofFn fun k => PLine.restarted (st.lines.get k) (x.lines.get k).input }

/-- A HOLD, DETACH or KEY line after restart (R156, R168). -/
def CtlLine.restarted (l : CtlLine) : CtlLine := { active := false, input := l.input.restartAt 0 }

/-- The State Controller after restart (R168). -/
def Ctl.restarted (st : Store) (x : Ctl) : Ctl :=
  { master := .idle, held := false, policy := st.policy
    holdLine := x.holdLine.restarted
    detachLine := x.detachLine.restarted
    keyLine := x.keyLine.restarted }

/-- The Fault and Alert Unit after restart (R176). The ALERT last sent stands as sent. -/
def FaultUnit.restarted (st : Store) (f : FaultUnit) : FaultUnit :=
  { first := none, next := [], pending := Vector.replicate 9 false, enabled := st.enabled, waiting := false, seq := 0
    out := f.out }

/-! ### Restart (R168) -/

/-- Every block takes its restart values in one event. The internal-oscillator time is counted from the restart, so every line's
measurement starts at time 0 (assumption 5). -/
def State.restartBlocks (s : State) : State :=
  let st := s.store
  { pos := Vector.ofFn fun p => .restarted (st.chain.get p)
    links := Vector.ofFn fun l => .restarted (st.lengths.get l)
    memGen := 0
    plans := .restarted st
    clock := .restarted st
    meas := .restarted st
    band := .restarted
    trunk := .restarted s.trunk.out
    pre := .restarted st s.pre
    ctl := .restarted st s.ctl
    faults := .restarted st s.faults
    centre := .restarted s.centre.out
    field := .restarted s.field.out
    store := st
    unfinished := none
    powered := true
    now := 0
    pending := s.pending }

/-- After a restart with PREFER_REFERENCE the timebase passes from INTERNAL to ACQUIRING, with its alert event (R45). -/
def State.acquireAfterRestart (s : State) : State :=
  match s.clock.pref with
  | .internalOnly => s
  | .preferReference => (s.setTimebase (.acquiring 0 none) s.clock.dsLength).alert .timebase

/-- Restart: power-on, RESTART or the second part of ERASE (R168). -/
def State.restart (s : State) : State := s.restartBlocks.acquireAfterRestart

/-! ### Loss of supply (R167) -/

/-- The store after a loss of supply. A write that was not complete leaves the content from before it. -/
def State.keepStore (torn : Bool) (s : State) : Store :=
  match s.unfinished with
  | some u => if torn then u.before else s.store
  | none => s.store

/-- Supply is lost: the store keeps its content, no reply goes out, and nothing acts until POWER_ON. -/
def State.losePower (torn : Bool) (s : State) : State :=
  { s with
    store := s.keepStore torn
    unfinished := none
    powered := false
    centre := .restarted none
    field := .restarted none }

end Sys2Proof.Machine
end

