-- ==== Sys2Proof/Machine/PowerEvents.lean ====
section
/-! DEFINITION. Power-on and loss of supply as events (chapter 9). -/

namespace Sys2Proof.Machine

/-- Supply returns: the part restarts from the store (R168). -/
def execPowerOn (s : State) : Host.Outcome State Fault Refusal := .next s.restart

/-- Supply is lost; `torn` says that the last store write was not complete (R167). -/
def execPowerLoss (torn : Bool) : State → Host.Outcome State Fault Refusal :=
  powered (State.losePower torn)

end Sys2Proof.Machine
end

