-- ==== Sys2Proof/Machine/Operands.lean ====
section
/-! DEFINITION. The bodies of the requests (R185, and R182 for the bodies it does not list): the fields each body length gives.
A body of another length is `none`, which the port answers BAD_FORMAT (R180). The ranges are the owning block's to check. -/

namespace Sys2Proof.Machine

/-- A request without body fields. -/
def noFields : List Byte → Option Unit
  | [] => some ()
  | _ => none

/-- One number of one byte. -/
def oneByte : List Byte → Option Nat
  | [a] => some a.toNat
  | _ => none

/-- Two numbers of one byte each. -/
def twoBytes : List Byte → Option (Nat × Nat)
  | [a, b] => some (a.toNat, b.toNat)
  | _ => none

/-- One number of two bytes. -/
def oneHalf : List Byte → Option Nat
  | [hi, lo] => some (ofHalf hi lo)
  | _ => none

/-- CHAIN-LINK: link, length (R185). -/
def linkBody : List Byte → Option (Nat × Nat)
  | [l, hi, lo] => some (l.toNat, ofHalf hi lo)
  | _ => none

/-- The body of PLAN-OPEN as numbers (R185). -/
structure OpenBody where
  slot : Nat
  count : Nat
  c : Nat
  mode : Byte
  tidalStart : Nat
  speedIn : Nat
  speedOut : Nat
  speedMin : Nat
  speedMax : Nat
  headway : Nat
  slideStep : Nat
  origin : Nat
  adaptive : Nat
  lengthen : Nat
  shorten : Nat
deriving DecidableEq, Repr

def openBody : List Byte → Option OpenBody
  | [sl, n, c1, c0, m, td, vi, vo, vmin, vmax, h, st, o1, o0, ad, le, sh] =>
    some
      { slot := sl.toNat, count := n.toNat, c := ofHalf c1 c0, mode := m, tidalStart := td.toNat, speedIn := vi.toNat
        speedOut := vo.toNat, speedMin := vmin.toNat, speedMax := vmax.toNat, headway := h.toNat, slideStep := st.toNat
        origin := ofHalf o1 o0, adaptive := ad.toNat, lengthen := le.toNat, shorten := sh.toNat }
  | _ => none

/-- The body of PLAN-ENTRY as numbers (R185). -/
structure EntryBody where
  slot : Nat
  index : Nat
  position : Nat
  inb : Window
  outb : Window
deriving DecidableEq, Repr

def entryBody : List Byte → Option EntryBody
  | [sl, i, p, is1, is0, ie1, ie0, os1, os0, oe1, oe0] =>
    some
      { slot := sl.toNat, index := i.toNat, position := p.toNat
        inb := ⟨ofHalf is1 is0, ofHalf ie1 ie0⟩
        outb := ⟨ofHalf os1 os0, ofHalf oe1 oe0⟩ }
  | _ => none

/-- A listed position with its hold phase, as bytes. -/
structure ListedByte where
  pos : Byte
  phase : Byte
deriving DecidableEq, Repr

/-- Entries of two bytes each. -/
def listedBytes : List Byte → Option (List ListedByte)
  | [] => some []
  | [_] => none
  | p :: h :: rest => (listedBytes rest).map fun l => { pos := p, phase := h } :: l

/-- The body of VECTOR-SET: vector, class, maximum hold, and the position list with a hold phase per entry (R141, R182). -/
structure VectorBody where
  vector : Nat
  cls : Byte
  maxHold : Nat
  list : List ListedByte
deriving DecidableEq, Repr

def vectorBody : List Byte → Option VectorBody
  | v :: c :: h1 :: h0 :: n :: rest =>
    match listedBytes rest with
    | some l =>
      if l.length = n.toNat then some { vector := v.toNat, cls := c, maxHold := ofHalf h1 h0, list := l } else none
    | none => none
  | _ => none

/-- The body of LINE-SET: line, polarity, debounce (R139, R182). -/
structure LineBody where
  line : Nat
  polarity : Byte
  debounce : Nat
deriving DecidableEq, Repr

def lineBody : List Byte → Option LineBody
  | [k, pol, d1, d0] => some { line := k.toNat, polarity := pol, debounce := ofHalf d1 d0 }
  | _ => none

/-- The body of ALERT-ENABLE: one byte for each of the nine classes, in class order (R175, R182). -/
def enableBody (body : List Byte) : Option (List Byte) := if body.length = 9 then some body else none

/-- The body of ALERT-CLEAR: a count byte and as many classes (R175, R182). -/
def clearBody : List Byte → Option (List Byte)
  | n :: rest => if rest.length = n.toNat then some rest else none
  | [] => none

end Sys2Proof.Machine
end

