-- ==== Sys2Proof/Machine/ReqAlerts.lean ====
section
/-! DEFINITION. The requests of the Fault and Alert Unit (chapter 10): FAULT-CLEAR, ALERT-ENABLE, ALERT-CLEAR. -/

namespace Sys2Proof.Machine

/-! ### FAULT-CLEAR (R172) -/

def FaultUnit.clear (f : FaultUnit) : FaultUnit := { f with first := none, next := [] }

/-- FAULT-CLEAR at the Fault and Alert Unit (R172). -/
def State.ruleFaultClear (s : State) : Ruling := (s.setFaults s.faults.clear).grant []

def execFaultClear (p : PortId) (tag : Byte) (body : List Byte) : State → Host.Outcome State Fault Refusal :=
  powered (State.request p 24 false noFields (fun _ => State.ruleFaultClear) tag body)

/-! ### ALERT-ENABLE (R175) -/

/-- Enabled 1 or disabled 0. -/
def flagOf (b : Byte) : Option Bool :=
  match b.toNat with
  | 0 => some false
  | 1 => some true
  | _ => none

/-- The nine flags of a body; a byte other than 0 and 1 gives none. -/
def flagsOf : List Byte → Option (List Bool)
  | [] => some []
  | b :: rest =>
    match flagOf b, flagsOf rest with
    | some x, some l => some (x :: l)
    | _, _ => none

/-- The nine enable flags as a vector. -/
def enables (l : List Bool) : Vector Bool 9 := Vector.ofFn fun i => l.getD i.val false

/-- A pending class that was not enabled becomes enabled: a gain of the signalled set (R174). -/
def FaultUnit.gains (e : Vector Bool 9) (f : FaultUnit) : Bool :=
  AlertClass.all.any fun c => f.pending.get c.ix && e.get c.ix && !f.enabled.get c.ix

/-- All nine enable flags are replaced (R175). -/
def FaultUnit.enable (e : Vector Bool 9) (f : FaultUnit) : FaultUnit :=
  { f with enabled := e, waiting := f.waiting || f.gains e }

/-- The enable flags are replaced, written through when any changes (R175). -/
def State.setEnables (p : PortId) (e : Vector Bool 9) (s : State) : State :=
  if s.faults.enabled = e then s
  else (s.setFaults (s.faults.enable e)).writeStore (some p) fun st => { st with enabled := e }

/-- ALERT-ENABLE at the Fault and Alert Unit (R175). -/
def State.ruleAlertEnable (p : PortId) (b : List Byte) (s : State) : Ruling :=
  match flagsOf b with
  | none => s.refuse .badValue
  | some l => (s.setEnables p (enables l)).grant []

def execAlertEnable (p : PortId) (tag : Byte) (body : List Byte) : State → Host.Outcome State Fault Refusal :=
  powered (State.request p 25 false enableBody (State.ruleAlertEnable p) tag body)

/-! ### ALERT-CLEAR (R175) -/

/-- The classes named; a byte that is no class gives none. -/
def classesOf : List Byte → Option (List AlertClass)
  | [] => some []
  | b :: rest =>
    match AlertClass.ofByte b, classesOf rest with
    | some c, some l => some (c :: l)
    | _, _ => none

/-- The pending flag of each class named is cleared (R175). -/
def FaultUnit.clearClasses (l : List AlertClass) (f : FaultUnit) : FaultUnit :=
  { f with pending := l.foldl (fun v c => v.set c.ix.val false c.ix.isLt) f.pending }

/-- ALERT-CLEAR at the Fault and Alert Unit (R175). -/
def State.ruleAlertClear (b : List Byte) (s : State) : Ruling :=
  match classesOf b with
  | none => s.refuse .badValue
  | some [] => s.refuse .badValue
  | some l => (s.setFaults (s.faults.clearClasses l)).grant []

def execAlertClear (p : PortId) (tag : Byte) (body : List Byte) : State → Host.Outcome State Fault Refusal :=
  powered (State.request p 26 true clearBody State.ruleAlertClear tag body)

end Sys2Proof.Machine
end

