-- ==== Sys2Proof/Machine/Chain.lean ====
section
/-! DEFINITION. Changes of enrolment (chapter 1): the enrolment event, the membership generation, enrolling, excluding and the
loss exclusion. -/

namespace Sys2Proof.Machine

/-- The enrolment of a position changes, written through to the store (R16). -/
def State.putEnrolment (port : Option PortId) (p : Pos) (e : Enrolment) (s : State) : State :=
  (s.setPosRec p { s.posRec p with enrolment := e }).writeStore port (Store.setEnrolment p e)

/-- The enrolment event, as the Transition Unit takes it (R113). -/
def State.seekEnrolment (p : Pos) (c : EnrolmentChange) (s : State) : State :=
  match c with
  | .enrols => s.putSeek p ((s.posRec p).enrols s.ctl.master.runs)
  | .excludes | .loses | .vacates true => s.putSeek p (s.posRec p).leaves
  | .vacates false => s

/-- The enrolment event, as the Preemption Unit takes it (R151). -/
def State.preEnrolment (p : Pos) (c : EnrolmentChange) (s : State) : State :=
  match c with
  | .loses => s.dropOwner p
  | .enrols | .excludes | .vacates _ => s

/-- An enrolment event offered to the three blocks (R2). -/
def State.enrolmentEvent (p : Pos) (c : EnrolmentChange) (s : State) : State :=
  ((s.trunkEnrolment p c).seekEnrolment p c).preEnrolment p c

/-- The membership generation is incremented (R11). -/
def State.bumpMembership (s : State) : State := { s with memGen := s.memGen + 1 }

/-- A position becomes ENROLLED at a drop address (R7). -/
def State.enrolAt (port : PortId) (p : Pos) (drop : Nat) (s : State) : State :=
  ((((s.putEnrolment (some port) p (.enrolled drop)).bumpMembership).enrolmentEvent p .enrols)).trigger

/-- An ENROLLED position becomes EXCLUDED by the operator, or VACANT (R9). -/
def State.takeOut (port : PortId) (p : Pos) (drop : Nat) (vacate : Bool) (s : State) : State :=
  if vacate then
    (((s.putEnrolment (some port) p .vacant).bumpMembership).enrolmentEvent p (.vacates true)).trigger
  else
    (((s.putEnrolment (some port) p (.excluded drop .operator)).bumpMembership).enrolmentEvent p .excludes).trigger

/-- The enrolled count reported after a loss exclusion: below two, the master enters FALLBACK with cause MEMBERSHIP unless
it is FALLBACK or DETACHED (R162). -/
def State.reportCount (s : State) : State :=
  if s.enrolledCount < 2 then s.fallbackUnlessOut .membership else s

/-- The loss exclusion of a position (R10). The enrolled count is reported before the membership trigger (R162). -/
def State.lossExclude (p : Pos) (s : State) : State :=
  match (s.posRec p).enrolment with
  | .enrolled drop =>
    ((((s.putEnrolment none p (.excluded drop .lost)).bumpMembership).enrolmentEvent p .loses).reportCount).trigger
  | .vacant | .excluded _ _ => s

end Sys2Proof.Machine
end

