-- ==== Sys2Proof/Machine/ReqChain.lean ====
section
/-! DEFINITION. The requests of the Chain Table (chapter 1): CHAIN-LINK, ENROL, EXCLUDE. -/

namespace Sys2Proof.Machine

/-! ### CHAIN-LINK (R4) -/

/-- A length is 0 or 30..3000 m (R3). -/
def lengthOk (n : Nat) : Bool := decide (n = 0) || (decide (30 ≤ n) && decide (n ≤ 3000))

/-- The length of a link is replaced, written through (R4, R16). -/
def State.setLength (p : PortId) (l : LinkIx) (n : Nat) (s : State) : State :=
  (s.setLinkRec l { s.linkRec l with length := n }).writeStore (some p) fun st =>
    { st with lengths := st.lengths.set l.val n l.isLt }

/-- The master is IDLE or FALLBACK (R4, R157). -/
def Master.atRest : Master → Bool
  | .idle | .fallback => true
  | .coordinating | .hold | .detached _ => false

/-- CHAIN-LINK at the Chain Table; `b` is the link and the length (R4). -/
def State.ruleChainLink (p : PortId) (b : Nat × Nat) (s : State) : Ruling :=
  match linkOf b.1 with
  | none => s.refuse .badValue
  | some l =>
    if lengthOk b.2 = false then s.refuse .badValue
    else if s.ctl.master.atRest = false then s.refuse .state
    else if (s.linkRec l).length = b.2 then s.grant []
    else (s.setLength p l b.2).grant []

def execChainLink (p : PortId) (tag : Byte) (body : List Byte) : State → Host.Outcome State Fault Refusal :=
  powered (State.request p 1 false linkBody (State.ruleChainLink p) tag body)

/-! ### ENROL (R6, R7) -/

/-- A drop address is held by another position, ENROLLED or EXCLUDED (R6, check 3). -/
def State.dropTaken (s : State) (p : Pos) (d : Nat) : Bool :=
  allPos.any fun q => decide (q ≠ p) && decide ((s.posRec q).enrolment.drop = some d)

/-- The active plan, and the pending plan if there is one, hold an entry for the position (R6, check 5). -/
def State.plansCover (s : State) (p : Pos) : Bool :=
  s.plans.covers s.plans.active p &&
    match s.plans.pendingSlot with
    | some i => s.plans.covers i p
    | none => true

/-- The enrolled list with `p` in it. -/
def State.enrolledWith (s : State) (p : Pos) : List Pos := allPos.filter fun q => s.isEnrolled q || decide (q = p)

/-- Checks 5 and 6 of R6, for a position that is not ENROLLED. -/
def State.mayEnrol (s : State) (p : Pos) : Bool :=
  s.plansCover p && (!s.ctl.master.runs || s.spanComplete (s.enrolledWith p))

/-- ENROL at the Chain Table; `b` is the position and the drop address, 0 for omitted (R6, R7). -/
def State.ruleEnrol (port : PortId) (b : Nat × Nat) (s : State) : Ruling :=
  match posOf b.1 with
  | none => s.refuse .badValue
  | some p =>
    let d := b.2
    if 31 < d then s.refuse .badValue
    else if d ≠ 0 ∧ s.dropTaken p d = true then s.refuse .badValue
    else
      match (s.posRec p).enrolment with
      | .vacant =>
        if d = 0 then s.refuse .badValue
        else if s.mayEnrol p then (s.enrolAt port p d).grant []
        else s.refuse .mismatch
      | .excluded held _ =>
        if s.mayEnrol p then (s.enrolAt port p (if d = 0 then held else d)).grant [] else s.refuse .mismatch
      | .enrolled held => if d ≠ 0 ∧ d ≠ held then s.refuse .state else s.grant []

def execEnrol (p : PortId) (tag : Byte) (body : List Byte) : State → Host.Outcome State Fault Refusal :=
  powered (State.request p 2 false twoBytes (State.ruleEnrol p) tag body)

/-! ### EXCLUDE (R8, R9) -/

/-- An EXCLUDED position stays EXCLUDED, now by the operator (R9, third row). -/
def State.takeOver (port : PortId) (p : Pos) (drop : Nat) (cause : ExclCause) (s : State) : State :=
  match cause with
  | .operator => s
  | .lost => s.putEnrolment (some port) p (.excluded drop .operator)

/-- An EXCLUDED position becomes VACANT (R9, fourth row). -/
def State.vacateExcluded (port : PortId) (p : Pos) (s : State) : State :=
  (s.putEnrolment (some port) p .vacant).enrolmentEvent p (.vacates false)

/-- EXCLUDE at the Chain Table; `b` is the position and the vacate byte (R8, R9). -/
def State.ruleExclude (port : PortId) (b : Nat × Nat) (s : State) : Ruling :=
  match posOf b.1 with
  | none => s.refuse .badValue
  | some p =>
    if 1 < b.2 then s.refuse .badValue
    else
      match (s.posRec p).enrolment with
      | .vacant => if b.2 = 0 then s.refuse .state else s.grant []
      | .excluded d c => if b.2 = 0 then (s.takeOver port p d c).grant [] else (s.vacateExcluded port p).grant []
      | .enrolled d =>
        if (s.posRec p).owner.isSome then s.refuse .state
        else if s.ctl.master.runs = true ∧ s.enrolledCount < 3 then s.refuse .state
        else (s.takeOut port p d (b.2 == 1)).grant []

def execExclude (p : PortId) (tag : Byte) (body : List Byte) : State → Host.Outcome State Fault Refusal :=
  powered (State.request p 3 false twoBytes (State.ruleExclude p) tag body)

end Sys2Proof.Machine
end

