-- ==== Sys2Proof/Machine/ReqControl.lean ====
section
/-! DEFINITION. The requests of the State Controller, the timebase and clock, and the Band Computer: START to COMPUTE, RESTART and
ERASE (chapters 3, 5 and 9). -/

namespace Sys2Proof.Machine

/-! ### START and STOP (R157, R158) -/

/-- The state an accepted START enters (R157). -/
def Ctl.startState (c : Ctl) : Master := if c.holdSource then .hold else .coordinating

/-- START at the State Controller (R157). -/
def State.ruleStart (s : State) : Ruling :=
  if s.ctl.master ≠ .idle ∧ s.ctl.master ≠ .fallback then s.refuse .state
  else if s.enrolledCount < 2 then s.refuse .mismatch
  else if s.spanComplete s.enrolledList then (s.changeMaster s.ctl.startState).grant [s.ctl.startState.code]
  else s.refuse .mismatch

def execStart (p : PortId) (tag : Byte) (body : List Byte) : State → Host.Outcome State Fault Refusal :=
  powered (State.request p 11 false noFields (fun _ => State.ruleStart) tag body)

/-- STOP at the State Controller (R158). -/
def State.ruleStop (s : State) : Ruling :=
  match s.ctl.master with
  | .coordinating | .hold => (s.changeMaster .idle).grant []
  | .idle => s.grant []
  | .fallback | .detached _ => s.refuse .state

def execStop (p : PortId) (tag : Byte) (body : List Byte) : State → Host.Outcome State Fault Refusal :=
  powered (State.request p 12 false noFields (fun _ => State.ruleStop) tag body)

/-! ### HOLD, RESUME, FALLBACK (R159 to R161) -/

def State.setHeld (b : Bool) (s : State) : State := s.setCtl { s.ctl with held := b }

/-- HOLD at the State Controller (R159). -/
def State.ruleHold (s : State) : Ruling := (s.setHeld true).holdRaised.grant []

def execHold (p : PortId) (tag : Byte) (body : List Byte) : State → Host.Outcome State Fault Refusal :=
  powered (State.request p 13 true noFields (fun _ => State.ruleHold) tag body)

/-- RESUME at the State Controller (R160). -/
def State.ruleResume (s : State) : Ruling := (s.setHeld false).holdWithdrawn.grant []

def execResume (p : PortId) (tag : Byte) (body : List Byte) : State → Host.Outcome State Fault Refusal :=
  powered (State.request p 14 true noFields (fun _ => State.ruleResume) tag body)

/-- FALLBACK at the State Controller (R161). -/
def State.ruleFallback (s : State) : Ruling :=
  match s.ctl.master with
  | .idle | .coordinating | .hold => (s.enterFallback .request).grant []
  | .fallback => s.grant []
  | .detached _ => s.refuse .state

def execFallback (p : PortId) (tag : Byte) (body : List Byte) : State → Host.Outcome State Fault Refusal :=
  powered (State.request p 15 false noFields (fun _ => State.ruleFallback) tag body)

/-! ### POLICY, TIMEBASE, BEACON-SET (R43, R51, R166) -/

/-- The policy a byte names: STRICT 0, TOLERANT 1 (R182). -/
def policyOf (n : Nat) : Option Policy :=
  match n with
  | 0 => some .strict
  | 1 => some .tolerant
  | _ => none

/-- The policy is replaced, written through (R166). -/
def State.setPolicy (p : PortId) (x : Policy) (s : State) : State :=
  (s.setCtl { s.ctl with policy := x }).writeStore (some p) fun st => { st with policy := x }

/-- POLICY at the State Controller (R166). -/
def State.rulePolicy (p : PortId) (n : Nat) (s : State) : Ruling :=
  match policyOf n with
  | none => s.refuse .badValue
  | some x => if s.ctl.policy = x then s.grant [] else (s.setPolicy p x).grant []

def execPolicy (p : PortId) (tag : Byte) (body : List Byte) : State → Host.Outcome State Fault Refusal :=
  powered (State.request p 16 false oneByte (State.rulePolicy p) tag body)

/-- The preference a byte names: PREFER_REFERENCE 0, INTERNAL_ONLY 1 (R182). -/
def preferenceOf (n : Nat) : Option Preference :=
  match n with
  | 0 => some .preferReference
  | 1 => some .internalOnly
  | _ => none

/-- TIMEBASE at the timebase (R43). -/
def State.ruleTimebase (p : PortId) (n : Nat) (s : State) : Ruling :=
  match preferenceOf n with
  | none => s.refuse .badValue
  | some x => (s.applyTimebase p x).grant []

def execTimebase (p : PortId) (tag : Byte) (body : List Byte) : State → Host.Outcome State Fault Refusal :=
  powered (State.request p 17 false oneByte (State.ruleTimebase p) tag body)

/-- The beacon interval is replaced, written through (R51). -/
def State.setInterval (p : PortId) (n : Nat) (s : State) : State :=
  (s.setClock { s.clock with beaconInterval := n }).writeStore (some p) fun st => { st with beaconInterval := n }

/-- BEACON-SET at the cycle clock (R51). -/
def State.ruleBeaconSet (p : PortId) (n : Nat) (s : State) : Ruling :=
  if n < 50 ∨ 600 < n then s.refuse .badValue
  else if s.clock.beaconInterval = n then s.grant []
  else (s.setInterval p n).grant []

def execBeaconSet (p : PortId) (tag : Byte) (body : List Byte) : State → Host.Outcome State Fault Refusal :=
  powered (State.request p 18 false oneHalf (State.ruleBeaconSet p) tag body)

/-! ### COMPUTE (R75) -/

/-- STARTED and DEFERRED, in the order of R75. -/
def startedByte : Byte := 0
def deferredByte : Byte := 1

/-- COMPUTE at the Band Computer (R75). -/
def State.ruleCompute (s : State) : Ruling :=
  if s.ctl.master = .coordinating then
    match s.band.inFlight with
    | none => s.trigger.grant (startedByte :: half s.trigger.band.number.toNat)
    | some x => s.trigger.grant (deferredByte :: half x.number.toNat)
  else s.refuse .state

def execCompute (p : PortId) (tag : Byte) (body : List Byte) : State → Host.Outcome State Fault Refusal :=
  powered (State.request p 19 false noFields (fun _ => State.ruleCompute) tag body)

/-! ### RESTART and ERASE (R168, R169) -/

/-- The reply OK is sent to its end, and the part restarts (R168). A refusal restarts nothing. -/
def restartAfter (p : PortId) (c : ReplyCode) (s : State) : State := if c = .ok then (s.endReply p).restart else s

def execRestart (p : PortId) (tag : Byte) (body : List Byte) : State → Host.Outcome State Fault Refusal :=
  powered fun s =>
    s.serve p { kind := 27, tag, body } (checkThenOwn false noFields (fun _ s => s.grant []) body) (restartAfter p)

/-- The store becomes the factory configuration, in one write (R169). -/
def State.eraseStore (p : PortId) (s : State) : State := s.writeStore (some p) fun _ => Store.factory

/-- The reply OK is sent to its end once the write is complete, and the part restarts (R169): the write can no longer be lost. A
loss of supply during the write is POWER_LOSS in place of the ERASE (assumption 20). -/
def eraseAfter (p : PortId) (c : ReplyCode) (s : State) : State := if c = .ok then (s.endReply p).restart else s

def execErase (p : PortId) (tag : Byte) (body : List Byte) : State → Host.Outcome State Fault Refusal :=
  powered fun s =>
    s.serve p { kind := 28, tag, body } (checkThenOwn false noFields (fun _ s => (s.eraseStore p).grant []) body)
      (eraseAfter p)

end Sys2Proof.Machine
end

