-- ==== Sys2Proof/Machine/Plans.lean ====
section
/-! DEFINITION. The Plan Store's requests (chapter 2): the pool and its first-fit allocation, loading, dropping, locking and
selecting. -/

namespace Sys2Proof.Machine

/-! ### The pool (R21) -/

/-- A run of contiguous pool entries. -/
structure PoolRun where
  base : Nat
  count : Nat
deriving DecidableEq, Repr

/-- The run a slot owns: an OPEN or READY slot owns one (R21). -/
def SlotBody.run : SlotBody → Option PoolRun
  | .empty => none
  | .loading h _ _ => some { base := h.base, count := h.count }
  | .ready h _ => some { base := h.base, count := h.count }

def PoolRun.holds (r : PoolRun) (e : Nat) : Bool := decide (r.base ≤ e) && decide (e < r.base + r.count)

def PoolRun.disjoint (r t : PoolRun) : Bool := decide (r.base + r.count ≤ t.base) || decide (t.base + t.count ≤ r.base)

/-- The slot whose run holds a pool entry. -/
def PlanStore.poolOwner (ps : PlanStore) (e : Nat) : Option SlotIx :=
  allSlots.find? fun i =>
    match (ps.slot i).body.run with
    | some r => r.holds e
    | none => false

/-- A run is free of every slot's run but slot `i`'s own (R22, check 5). -/
def PlanStore.runFree (ps : PlanStore) (i : SlotIx) (r : PoolRun) : Bool :=
  allSlots.all fun j =>
    decide (j = i) ||
      match (ps.slot j).body.run with
      | some t => r.disjoint t
      | none => true

/-- The lowest base at which a run of `count` entries can be placed for slot `i` (R21). -/
def PlanStore.firstFit (ps : PlanStore) (i : SlotIx) (count : Nat) : Option Nat :=
  (List.range 256).find? fun b => decide (b + count ≤ 256) && ps.runFree i { base := b, count }

/-! ### Writing slots -/

def State.setSlotBody (i : SlotIx) (b : SlotBody) (s : State) : State :=
  s.setPlans (s.plans.setSlot i { s.plans.slot i with body := b })

/-- The slot is written through to the store as EMPTY, its generation kept (R35). -/
def State.storeEmpty (p : PortId) (i : SlotIx) (s : State) : State :=
  let x := s.plans.slot i
  s.writeStore (some p) (Store.setSlot i { locked := x.locked, gen := x.gen, plan := none })

/-- The slot is active or pending (R22, R25). -/
def PlanStore.inUse (ps : PlanStore) (i : SlotIx) : Bool := decide (ps.active = i) || decide (ps.pendingSlot = some i)

/-! ### PLAN-OPEN (R22) -/

def inRange (lo hi n : Nat) : Bool := decide (lo ≤ n) && decide (n ≤ hi)

/-- The tidal start direction byte: 2 for absent (R185); INBOUND 0 and OUTBOUND 1 are DEDUCED (assumption 42). -/
def tidalOf (n : Nat) : Option (Option Dir) :=
  match n with
  | 0 => some (some .inbound)
  | 1 => some (some .outbound)
  | 2 => some none
  | _ => none

/-- Every number of a PLAN-OPEN lies in its range and the conditions across speeds and origin hold (R19, R22). -/
def OpenBody.rangesOk (b : OpenBody) : Bool :=
  inRange 1 24 b.count && inRange 300 2400 b.c && inRange 15 90 b.speedIn && inRange 15 90 b.speedOut &&
    inRange 10 100 b.speedMin && inRange 10 100 b.speedMax && inRange 10 40 b.headway && inRange 1 50 b.slideStep &&
    decide (b.origin < b.c) && decide (b.adaptive ≤ 1) && decide (b.lengthen ≤ 30) && decide (b.shorten ≤ 20) &&
    inRange b.speedMin b.speedMax b.speedIn && inRange b.speedMin b.speedMax b.speedOut

/-- The header a PLAN-OPEN gives, with base 0 until the run is placed; none when check 1 of R22 fails. DEDUCED: the bytes of the direction
mode (INBOUND 0, OUTBOUND 1, TIDAL 2), of the tidal start direction (INBOUND 0, OUTBOUND 1) and of adaptive (ADAPTIVE 0, FIXED 1) are
numbered as R182 numbers them in a reply; R185 gives their sizes only (assumption 42). -/
def OpenBody.header (b : OpenBody) : Option Header :=
  match PlanMode.ofByte b.mode, tidalOf b.tidalStart with
  | some m, some t =>
    if b.rangesOk = true ∧ (t.isSome = true ↔ m = .tidal) then
      some
        { c := b.c, mode := m, tidalStart := t, speedIn := b.speedIn, speedOut := b.speedOut, speedMin := b.speedMin
          speedMax := b.speedMax, headway := b.headway, slideStep := b.slideStep, origin := b.origin
          adaptive := b.adaptive == 0, lengthen := b.lengthen, shorten := b.shorten, base := 0, count := b.count }
    else none
  | _, _ => none

/-- The other port than `p` holds the slot OPEN. -/
def SlotBody.busyFor (p : PortId) : SlotBody → Bool
  | .loading _ q _ => decide (q ≠ p)
  | _ => false

/-- An accepted PLAN-OPEN with its run placed at `base` (R22). -/
def State.openSlot (p : PortId) (i : SlotIx) (h : Header) (base : Nat) (s : State) : State :=
  let s1 := if (s.plans.slot i).body.isReady then s.storeEmpty p i else s
  s1.setSlotBody i (.loading { h with base } p (List.replicate h.count none))

/-- PLAN-OPEN at the Plan Store (R22). -/
def State.rulePlanOpen (p : PortId) (b : OpenBody) (s : State) : Ruling :=
  match slotOf b.slot, b.header with
  | some i, some h =>
    let x := s.plans.slot i
    if x.locked then s.refuse .locked
    else if s.plans.inUse i then s.refuse .state
    else if x.body.busyFor p then s.refuse .busy
    else
      match s.plans.firstFit i h.count with
      | none => s.refuse .noRoom
      | some base => (s.openSlot p i h base).grant [byte base]
  | _, _ => s.refuse .badValue

/-! ### PLAN-ENTRY (R23) -/

/-- Starts and ends of both windows lie in 0..C−1 (R23). -/
def Window.within (w : Window) (c : Nat) : Bool := decide (w.s < c) && decide (w.e < c)

/-- PLAN-ENTRY at the Plan Store (R23). -/
def State.rulePlanEntry (p : PortId) (b : EntryBody) (s : State) : Ruling :=
  match slotOf b.slot with
  | none => s.refuse .badValue
  | some i =>
    match (s.plans.slot i).body with
    | .loading h q es =>
      if q ≠ p then s.refuse .busy
      else if b.index < h.count && inRange 1 24 b.position && b.inb.within h.c && b.outb.within h.c then
        (s.setSlotBody i
          (.loading h q (es.set b.index (some { position := b.position, inb := b.inb, outb := b.outb })))).grant []
      else s.refuse .badValue
    | .empty | .ready _ _ => s.refuse .state

/-! ### PLAN-CLOSE (R24) -/

inductive CloseFailure where
  | unwritten
  | green
  | order
deriving DecidableEq, Repr

/-- The failure reasons numbered in the order of the table of R24. -/
def CloseFailure.code : CloseFailure → Byte
  | .unwritten => 0
  | .green => 1
  | .order => 2

/-- The green length of a window lies in 100..C−100 (R24). -/
def Window.greenOk (w : Window) (c : Nat) : Bool :=
  decide (100 ≤ greenLength w.s w.e c) && decide (greenLength w.s w.e c + 100 ≤ c)

/-- The first failure of the entries from index `i` on; `prev` is the position of the entry before (R24). -/
def closeFailure (c : Nat) : Nat → Option Nat → List (Option Entry) → Option (Nat × CloseFailure)
  | _, _, [] => none
  | i, _, none :: _ => some (i, .unwritten)
  | i, prev, some e :: rest =>
    if e.inb.greenOk c && e.outb.greenOk c then
      match prev with
      | some q => if q < e.position then closeFailure c (i + 1) (some e.position) rest else some (i, .order)
      | none => closeFailure c (i + 1) (some e.position) rest
    else some (i, .green)

/-- An accepted PLAN-CLOSE (R24). -/
def State.closeSlot (p : PortId) (i : SlotIx) (h : Header) (es : List Entry) (s : State) : State :=
  let x := s.plans.slot i
  let gen := x.gen + 1
  ((s.setPlans (s.plans.setSlot i { locked := x.locked, gen, body := .ready h es })).writeStore (some p)
    (Store.setSlot i { locked := x.locked, gen, plan := some { h, entries := es } })).alert .plan

/-- PLAN-CLOSE at the Plan Store (R24). -/
def State.rulePlanClose (p : PortId) (n : Nat) (s : State) : Ruling :=
  match slotOf n with
  | none => s.refuse .badValue
  | some i =>
    match (s.plans.slot i).body with
    | .loading h q es =>
      if q ≠ p then s.refuse .busy
      else
        match closeFailure h.c 0 none es with
        | some (k, f) => { state := s, answer := { code := .badValue, result := [byte k, f.code] } }
        | none => (s.closeSlot p i h (es.filterMap id)).grant [(s.plans.slot i).gen + 1]
    | .empty | .ready _ _ => s.refuse .state

/-! ### PLAN-DROP, PLAN-LOCK, PLAN-UNLOCK (R25, R26) -/

/-- An accepted PLAN-DROP (R25). -/
def State.dropSlot (p : PortId) (i : SlotIx) (s : State) : State :=
  match (s.plans.slot i).body with
  | .empty => s
  | .loading _ _ _ => s.setSlotBody i .empty
  | .ready _ _ => (s.storeEmpty p i).setSlotBody i .empty

/-- PLAN-DROP at the Plan Store (R25). -/
def State.rulePlanDrop (p : PortId) (n : Nat) (s : State) : Ruling :=
  match slotOf n with
  | none => s.refuse .badValue
  | some i =>
    if (s.plans.slot i).locked then s.refuse .locked
    else if s.plans.inUse i then s.refuse .state
    else (s.dropSlot p i).grant []

/-- The locked flag changes, written through (R26). -/
def State.setLocked (p : PortId) (i : SlotIx) (b : Bool) (s : State) : State :=
  (s.setPlans (s.plans.setSlot i { s.plans.slot i with locked := b })).writeStore (some p) fun st =>
    st.setSlot i { st.slots.get i with locked := b }

/-- PLAN-LOCK at the Plan Store (R26). -/
def State.rulePlanLock (p : PortId) (n : Nat) (s : State) : Ruling :=
  match slotOf n with
  | none => s.refuse .badValue
  | some i =>
    let x := s.plans.slot i
    if x.body.isReady = false then s.refuse .state
    else if x.locked then s.grant []
    else (s.setLocked p i true).grant []

/-- PLAN-UNLOCK at the Plan Store (R26). -/
def State.rulePlanUnlock (p : PortId) (n : Nat) (s : State) : Ruling :=
  match slotOf n with
  | none => s.refuse .badValue
  | some i =>
    if i = 0 then s.refuse .locked
    else if (s.plans.slot i).locked then (s.setLocked p i false).grant []
    else s.grant []

/-! ### PLAN-SELECT (R29) -/

/-- An accepted PLAN-SELECT (R29). -/
def PlanStore.select (ps : PlanStore) (i : SlotIx) : PlanStore :=
  if i = ps.active then { ps with pendingSlot := none } else { ps with pendingSlot := some i }

/-- PLAN-SELECT at the Plan Store (R29). -/
def State.rulePlanSelect (n : Nat) (s : State) : Ruling :=
  match slotOf n with
  | none => s.refuse .badValue
  | some i =>
    if (s.plans.slot i).body.isReady = false then s.refuse .state
    else if s.enrolledList.all (s.plans.covers i) then (s.setPlans (s.plans.select i)).grant []
    else s.refuse .mismatch

end Sys2Proof.Machine
end

