-- ==== Sys2Proof/Machine/ReqPlan.lean ====
section
/-! DEFINITION. The requests of the Plan Store (chapter 2). -/

namespace Sys2Proof.Machine

/-- PLAN-OPEN (R22). -/
def execPlanOpen (p : PortId) (tag : Byte) (body : List Byte) : State → Host.Outcome State Fault Refusal :=
  powered (State.request p 4 false openBody (State.rulePlanOpen p) tag body)

/-- PLAN-ENTRY (R23). -/
def execPlanEntry (p : PortId) (tag : Byte) (body : List Byte) : State → Host.Outcome State Fault Refusal :=
  powered (State.request p 5 false entryBody (State.rulePlanEntry p) tag body)

/-- PLAN-CLOSE (R24). -/
def execPlanClose (p : PortId) (tag : Byte) (body : List Byte) : State → Host.Outcome State Fault Refusal :=
  powered (State.request p 6 false oneByte (State.rulePlanClose p) tag body)

/-- PLAN-DROP (R25). -/
def execPlanDrop (p : PortId) (tag : Byte) (body : List Byte) : State → Host.Outcome State Fault Refusal :=
  powered (State.request p 7 false oneByte (State.rulePlanDrop p) tag body)

/-- PLAN-LOCK (R26). -/
def execPlanLock (p : PortId) (tag : Byte) (body : List Byte) : State → Host.Outcome State Fault Refusal :=
  powered (State.request p 8 false oneByte (State.rulePlanLock p) tag body)

/-- PLAN-UNLOCK (R26). -/
def execPlanUnlock (p : PortId) (tag : Byte) (body : List Byte) : State → Host.Outcome State Fault Refusal :=
  powered (State.request p 9 false oneByte (State.rulePlanUnlock p) tag body)

/-- PLAN-SELECT (R29). -/
def execPlanSelect (p : PortId) (tag : Byte) (body : List Byte) : State → Host.Outcome State Fault Refusal :=
  powered (State.request p 10 false oneByte State.rulePlanSelect tag body)

end Sys2Proof.Machine
end

