-- ==== Sys2Proof/Machine/ReqPreempt.lean ====
section
/-! DEFINITION. The requests of the Preemption Unit (chapter 8): VECTOR-SET, LINE-SET, PRE-CALL, PRE-CLEAR. -/

namespace Sys2Proof.Machine

/-! ### VECTOR-SET (R141) -/

/-- The listed positions with their hold phases; none when a position or a phase names nothing. -/
def seizureList : List ListedByte → Option (List Seizure)
  | [] => some []
  | x :: rest =>
    match posOf x.pos.toNat, HoldPhase.ofByte x.phase, seizureList rest with
    | some p, some h, some l => some ({ pos := p, phase := h } :: l)
    | _, _, _ => none

/-- Positions strictly ascending (R141). -/
def ascending : List Seizure → Bool
  | a :: b :: rest => decide (a.pos.val < b.pos.val) && ascending (b :: rest)
  | _ => true

/-- The vector a VECTOR-SET body gives; none when check 1 (its class) or check 2 of R141 fails. -/
def VectorBody.config (b : VectorBody) : Option VectorCfg :=
  match VectorClass.ofByte b.cls with
  | none => none
  | some .unused => some emptyVector
  | some c =>
    match seizureList b.list with
    | none => none
    | some l =>
      if 1 ≤ l.length ∧ l.length ≤ 8 ∧ ascending l = true ∧ 100 ≤ b.maxHold ∧ b.maxHold ≤ 3000 then
        some { cls := c, list := l, maxHold := b.maxHold }
      else none

/-- The vector is replaced, written through when it changes (R141, R167). -/
def State.setVector (p : PortId) (v : VecIx) (c : VectorCfg) (s : State) : State :=
  let s1 := s.setPre { s.pre with vectors := s.pre.vectors.set v.val c v.isLt }
  if s.pre.vectors.get v = c then s1
  else s1.writeStore (some p) fun st => { st with vectors := st.vectors.set v.val c v.isLt }

/-- VECTOR-SET at the Preemption Unit (R141). -/
def State.ruleVectorSet (p : PortId) (b : VectorBody) (s : State) : Ruling :=
  match vectorOf b.vector, b.config with
  | some v, some c => if s.causeActive v then s.refuse .state else (s.setVector p v c).grant []
  | _, _ => s.refuse .badValue

def execVectorSet (p : PortId) (tag : Byte) (body : List Byte) : State → Host.Outcome State Fault Refusal :=
  powered (State.request p 20 false vectorBody (State.ruleVectorSet p) tag body)

/-! ### LINE-SET (R139) -/

/-- The settings a LINE-SET body gives; none when they are out of range (R139, check 1). -/
def LineBody.config (b : LineBody) : Option LineCfg :=
  match Polarity.ofByte b.polarity with
  | none => none
  | some q => if b.debounce ≤ 500 ∧ b.debounce % 10 = 0 then some { polarity := q, debounce := b.debounce } else none

/-- A line under new settings: INACTIVE, the armed field kept, the measurement restarted from the level present (R139). -/
def PLine.reconfigured (t : Nat) (c : LineCfg) (l : PLine) : PLine :=
  { cfg := c, active := false, armed := l.armed, input := l.input.restartAt t }

/-- The settings of a line are replaced at time `t`, written through when they change (R139). -/
def State.reconfigureLine (p : PortId) (t : Nat) (k : LineIx) (c : LineCfg) (s : State) : State :=
  let l := s.pre.lines.get k
  let s1 := (s.at t).setLine k (l.reconfigured (s.at t).now c)
  if l.cfg = c then s1
  else s1.writeStore (some p) fun st => { st with lines := st.lines.set k.val c k.isLt }

/-- LINE-SET at the Preemption Unit, taken at time `t` (R139). -/
def State.ruleLineSet (p : PortId) (t : Nat) (b : LineBody) (s : State) : Ruling :=
  match lineOf b.line, b.config with
  | some k, some c => if s.causeActive (vectorOfLine k) then s.refuse .state else (s.reconfigureLine p t k c).grant []
  | _, _ => s.refuse .badValue

def execLineSet (p : PortId) (tag : Byte) (body : TimedBody) : State → Host.Outcome State Fault Refusal :=
  powered (State.request p 21 false lineBody (State.ruleLineSet p body.time) tag body.bytes)

/-! ### PRE-CALL and PRE-CLEAR (R144, R149) -/

/-- STARTED and ALREADY_ACTIVE, in the order of R144. -/
def preStarted : Byte := 0
def preAlreadyActive : Byte := 1

/-- PRE-CALL at the Preemption Unit (R144). -/
def State.rulePreCall (n : Nat) (s : State) : Ruling :=
  match vectorOf n with
  | none => s.refuse .badValue
  | some v =>
    let c := (s.pre.vectors.get v).cls
    if c = .unused then s.refuse .state
    else if c = .transit ∧ s.ctl.master ≠ .coordinating then s.refuse .state
    else if s.causeActive v then s.grant [preAlreadyActive]
    else (s.activate v .call).grant [preStarted]

def execPreCall (p : PortId) (tag : Byte) (body : List Byte) : State → Host.Outcome State Fault Refusal :=
  powered (State.request p 22 true oneByte State.rulePreCall tag body)

/-- ENDED and NOT_ACTIVE, in the order of R149. -/
def preEnded : Byte := 0
def preNotActive : Byte := 1

/-- PRE-CLEAR at the Preemption Unit (R149). -/
def State.rulePreClear (n : Nat) (s : State) : Ruling :=
  match vectorOf n with
  | none => s.refuse .badValue
  | some v => if s.causeActive v then (s.endCause v .clear).grant [preEnded] else s.grant [preNotActive]

def execPreClear (p : PortId) (tag : Byte) (body : List Byte) : State → Host.Outcome State Fault Refusal :=
  powered (State.request p 23 true oneByte State.rulePreClear tag body)

end Sys2Proof.Machine
end

