-- ==== Sys2Proof/Machine/Records.lean ====
section
/-! DEFINITION. The records of the query replies, after the reply code, as R182 encodes them and in the order the owning rule
lists the fields. Fields that one clause of a rule gives as present together have one presence byte (assumption 10). -/

namespace Sys2Proof.Machine

/-- The manual's number of a link. -/
def linkNum (l : LinkIx) : Nat := l.val + 1

def posByte (p : Pos) : Byte := byte (posNum p)
def slotByte (i : SlotIx) : Byte := byte i.val
def vectorByte (v : VecIx) : Byte := byte v.val

/-- A slot and its generation. -/
def tagBytes (t : PlanTag) : List Byte := [slotByte t.slot, t.gen]

/-! ### Q-STATUS (R183) -/

def Master.resume : Master → Option Resume
  | .detached r => some r
  | _ => none

/-- The good-pulse count (R38). -/
def Timebase.count : Timebase → Nat
  | .internal => 0
  | .acquiring n _ => n
  | .reference _ _ => 8

def Timebase.lastInterval : Timebase → Option Nat
  | .reference _ last => some last
  | _ => none

def Verdict.staleCause : Verdict → Option StaleCause
  | .stale c => some c
  | _ => none

/-- The last outcome: outcome, computation number, stale cause for STALE (R71). -/
def Completion.bytes (x : Completion) : List Byte :=
  [x.verdict.code] ++ half x.number.toNat ++ optional (fun c => [StaleCause.code c]) x.verdict.staleCause

def State.masterGroup (s : State) : List Byte :=
  let c := s.ctl
  [c.master.code] ++ optional (fun r => [Resume.code r]) c.master.resume ++
    [flag c.held, activeCode c.holdLine.active, activeCode c.detachLine.active, activeCode c.keyLine.active, c.policy.code]

def State.timingGroup (s : State) : List Byte :=
  let k := s.clock
  [k.tb.code, k.pref.code, byte k.tb.count] ++ optional half k.tb.lastInterval ++ [k.tb.sourceCode] ++
    half k.cyclePos ++ half k.cycleNo.toNat ++ half k.c ++ half k.beaconInterval

def State.pendingTag (s : State) : Option PlanTag :=
  s.plans.pendingSlot.map fun i => { slot := i, gen := (s.plans.slot i).gen }

def State.planGroup (s : State) : List Byte := tagBytes s.planTag ++ optional tagBytes s.pendingTag

def State.computationGroup (s : State) : List Byte :=
  optional (fun x => half (Computation.number x).toNat) s.band.inFlight ++ [flag s.band.recompute] ++
    optional Completion.bytes s.band.outcome ++ half s.band.staleCount

def State.trunkGroup (s : State) : List Byte :=
  let t := s.trunk
  half t.badFrames ++ half t.noAnswers ++ [flag t.roundOpen] ++
    optional (fun x => [(Exchange.kind x).request, posByte x.pos]) t.exchange

/-- The record of Q-STATUS (R183). -/
def State.statusRecord (s : State) : List Byte :=
  s.masterGroup ++ s.timingGroup ++ s.planGroup ++ half s.memGen.toNat ++ [byte s.enrolledCount] ++
    [s.meas.dir.code, byte s.meas.tide] ++ s.computationGroup ++ s.trunkGroup ++ [s.faults.seq] ++
    half s.centre.errors ++ half s.field.errors

/-! ### Q-CHAIN (R15) -/

/-- Enrolment, drop address, exclusion cause. -/
def Enrolment.bytes (e : Enrolment) : List Byte :=
  [e.code] ++ optional (fun d => [byte d]) e.drop ++ optional (fun c => [ExclCause.code c]) e.cause

/-- The record of Q-CHAIN (R15). DESIGN CHOICE: the health, available flag and seek state stand together position by position
(assumption 40); R15 says so of the enrolment, drop address and exclusion cause. -/
def State.chainRecord (s : State) : List Byte :=
  (allPos.flatMap fun p => (s.posRec p).enrolment.bytes) ++ (allLinks.flatMap fun l => half (s.linkRec l).length) ++
    half s.memGen.toNat ++
    allPos.flatMap fun p =>
      let r := s.posRec p
      [r.health.code, flag r.available, r.seek.code]

/-! ### Q-JUNCTION (R95, R116) -/

def SeekState.returnState : SeekState → Option ReturnState
  | .suspended r => some r
  | _ => none

/-- The fields of R95 in the order of its table. -/
def PosRec.seekBytes (r : PosRec) : List Byte :=
  optional half r.target ++ optional half r.running ++ [r.seek.code] ++
    optional (fun t => [(Travel.dir t).code]) r.travel ++ optional (fun t => half (Travel.remaining t)) r.travel ++
    [r.mode.code] ++ optional tagBytes r.tagSeen ++ [flag r.reload] ++
    optional (fun x => [ReturnState.code x]) r.seek.returnState ++ signed r.correction ++ [flag r.spent] ++
    optional (fun c => signed (SentCorrection.value c) ++ half c.cycle.toNat) r.sent

/-- The record of Q-JUNCTION (R116). -/
def State.junctionRecord (s : State) (p : Pos) : List Byte :=
  let r := s.posRec p
  r.seekBytes ++ half s.plan.lmax ++ half s.plan.smax ++ r.enrolment.bytes ++
    [r.health.code, byte r.misses, flag r.available] ++
    optional (fun v => [vectorByte v]) r.owner ++ counted (fun v => [vectorByte v]) r.claims

/-! ### Q-PLAN (R34) and Q-POOL (R184) -/

/-- Every plan field of R19, in the order of its table. -/
def Header.bytes (h : Header) : List Byte :=
  half h.c ++ [h.mode.code] ++ optional (fun d => [Dir.code d]) h.tidalStart ++
    [byte h.speedIn, byte h.speedOut, byte h.speedMin, byte h.speedMax, byte h.headway, byte h.slideStep] ++
    half h.origin ++ [adaptiveCode h.adaptive, byte h.lengthen, byte h.shorten, byte h.base, byte h.count]

/-- How many entries have the written mark yes. -/
def writtenCount (es : List (Option Entry)) : Nat := (es.filter (·.isSome)).length

/-- The plan fields of an OPEN or READY slot, and the opening port with the written count of an OPEN one. -/
def SlotBody.bytes : SlotBody → List Byte
  | .empty => [0, 0]
  | .loading h p es => 1 :: h.bytes ++ [1, PortId.code p, byte (writtenCount es)]
  | .ready h _ => 1 :: h.bytes ++ [0]

/-- The record of Q-PLAN (R34). -/
def State.planRecord (s : State) (i : SlotIx) : List Byte :=
  let x := s.plans.slot i
  [x.body.code, flag x.locked, x.gen, flag (decide (s.plans.active = i)), flag (decide (s.plans.pendingSlot = some i))] ++
    x.body.bytes

def windowPair (w : Window) : List Byte := half w.s ++ half w.e

/-- Position and both windows. -/
def Entry.bytes (e : Entry) : List Byte := byte e.position :: (windowPair e.inb ++ windowPair e.outb)

/-- The owner byte of a free entry. -/
def freeOwner : Byte := 16

/-- The written mark, of an OPEN slot's entry only; position and windows, when there are any to read (R184). -/
def SlotBody.poolBytes (b : SlotBody) (index : Nat) : List Byte :=
  match b with
  | .empty => [0, 0]
  | .ready _ es => 0 :: optional Entry.bytes es[index]?
  | .loading _ _ es =>
    match es[index]? with
    | some (some e) => [1, 1, 1] ++ e.bytes
    | _ => [1, 0, 0]

/-- One entry of the pool (R184). -/
def PlanStore.poolEntry (ps : PlanStore) (e : Nat) : List Byte :=
  match ps.poolOwner e with
  | none => [byte e, freeOwner, 0, 0]
  | some i => [byte e, slotByte i] ++ (ps.slot i).body.poolBytes (e - (ps.header i).base)

/-- The record of Q-POOL (R184). -/
def State.poolRecord (s : State) (first number : Nat) : List Byte :=
  counted (fun i => s.plans.poolEntry (first + i)) (List.range number)

/-! ### Q-MEASURE (R69) -/

def Quality.smoothed : Quality → Option Nat
  | .fresh v _ => some v
  | .none | .aged | .poisoned => Option.none

/-- The age (R53). -/
def Quality.age : Quality → Nat
  | .none | .poisoned => 0
  | .fresh _ a => a
  | .aged => 3

def Measure.bytes (m : Measure) : List Byte :=
  [m.quality.code] ++ optional half m.quality.smoothed ++ [byte m.quality.age] ++ optional half m.lastRaw ++ half m.clamps

/-- The length, T_min, T_max and the planned travel times, 0 when the length is unset (R69). DESIGN CHOICE, assumption 35: of the planned
travel times the inbound one comes first; R69 says "in both directions". -/
def Header.linkTimes (h : Header) (length : Nat) : List Byte :=
  half length ++
    if length = 0 then half 0 ++ half 0 ++ half 0 ++ half 0
    else
      half (travelTime length h.speedMax) ++ half (travelTime length h.speedMin) ++ half (travelTime length h.speedIn) ++
        half (travelTime length h.speedOut)

def queueBytes (q : Option QueueRec) : List Byte := optional (fun x => byte (QueueRec.value x) :: half x.round.toNat) q

def PosMeas.bytes (m : PosMeas) : List Byte := queueBytes m.queueIn ++ queueBytes m.queueOut

/-- The two end positions of a link: link k joins positions k and k+1. -/
def linkNear (l : LinkIx) : Pos := ⟨l.val, by omega⟩
def linkFar (l : LinkIx) : Pos := ⟨l.val + 1, by omega⟩

/-- The record of Q-MEASURE (R69). DESIGN CHOICE, assumption 35: all fields of the inbound measure come before those of the outbound one;
of the four queue records, the two of position k come first, inbound before outbound, then the two of position k + 1. -/
def State.measureRecord (s : State) (l : LinkIx) : List Byte :=
  let r := s.linkRec l
  r.inb.bytes ++ r.outb.bytes ++ s.plan.linkTimes r.length ++ (s.meas.pos.get (linkNear l)).bytes ++
    (s.meas.pos.get (linkFar l)).bytes ++ half s.meas.volIn ++ half s.meas.volOut ++ [s.meas.dir.code, byte s.meas.tide]

/-! ### Q-BAND (R92, R93) -/

def BandEntry.bytes (e : BandEntry) : List Byte :=
  posByte e.pos :: (half e.target ++ signed e.slide ++ half e.lead ++ half e.slack)

/-- Every field of R92 in the order of its table. -/
def BandRecord.bytes (b : BandRecord) : List Byte :=
  half b.number.toNat ++ [slotByte b.slot, b.gen] ++ half b.c ++ half b.memGen.toNat ++ half b.startCycle.toNat ++
    [b.dir.code] ++ half b.w ++ half b.origin ++ half b.counterBand ++ optional half b.counterStart ++ [flag b.degraded] ++
    counted BandEntry.bytes b.entries

/-- The record of Q-BAND (R93). -/
def State.bandRecord (s : State) : List Byte :=
  let b := s.band
  optional (fun x => half (Computation.number x).toNat ++ half x.snap.cycleNo.toNat) b.inFlight ++ [flag b.recompute] ++
    half b.number.toNat ++ optional Completion.bytes b.outcome ++ half b.staleCount ++ optional BandRecord.bytes b.last

/-! ### Q-PRE (R130, R153) -/

def Seizure.bytes (z : Seizure) : List Byte := [posByte z.pos, z.phase.code]

/-- A vector: class, maximum hold, list, whether its cause is active, remaining hold, source, last end (R153). -/
def State.vectorBytes (s : State) (v : VecIx) : List Byte :=
  let c := s.pre.vectors.get v
  [c.cls.code] ++ half c.maxHold ++ counted Seizure.bytes c.list ++
    [flag (s.pre.causes.get v).isSome] ++ optional (fun x => half (Cause.remaining x)) (s.pre.causes.get v) ++
    optional (fun x => [x.source.code]) (s.pre.causes.get v) ++
    optional (fun x => [EndReason.code x]) (s.pre.lastEnd.get v)

def PLine.bytes (l : PLine) : List Byte :=
  [l.cfg.polarity.code] ++ half l.cfg.debounce ++ [activeCode l.active, flag l.armed]

def PosRec.ownerBytes (r : PosRec) : List Byte :=
  optional (fun v => [vectorByte v]) r.owner ++ counted (fun v => [vectorByte v]) r.claims

/-- An order: PREEMPT 0 or RELEASE 1, then the vector, class and hold phase a PREEMPT carries (R130). -/
def Order.bytes : Order → List Byte
  | .preempt v cls phase => [0, 1, vectorByte v, cls.code, phase.code]
  | .release => [1, 0]

/-- The entries of the order table with their positions. DESIGN CHOICE, assumption 45: they stand in ascending position order; R130, R153
and R182 give the fields of an entry and no order of the entries. -/
def Trunk.orderList (t : Trunk) : List (Pos × OrderEntry) :=
  allPos.filterMap fun p => (t.orders.get p).map fun e => (p, e)

def orderEntryBytes (x : Pos × OrderEntry) : List Byte :=
  posByte x.1 :: (x.2.order.bytes ++ [byte x.2.fails, flag x.2.resting])

/-- The record of Q-PRE (R153). -/
def State.preRecord (s : State) : List Byte :=
  (allVectors.flatMap s.vectorBytes) ++ (allLines.flatMap fun k => (s.pre.lines.get k).bytes) ++
    (allPos.flatMap fun p => (s.posRec p).ownerBytes) ++ counted orderEntryBytes s.trunk.orderList

/-! ### Q-FAULT (R170 to R172) and Q-ALERT (R176) -/

def FaultInfo.position : FaultInfo → Option Pos
  | .junctionLost p => some p
  | .preemptUndelivered p _ => some p
  | .fallbackEntered (.lost p) => some p
  | _ => none

def FaultInfo.link : FaultInfo → Option (LinkIx × Dir)
  | .poisonUsed l d => some (l, d)
  | .bandRefused l d => some (l, d)
  | _ => none

def FaultInfo.vector : FaultInfo → Option VecIx
  | .holdExpired v => some v
  | .preemptUndelivered _ v => v
  | _ => none

def RefCause.code : RefCause → Byte
  | .interval => 0
  | .silence => 1

def FallbackCause.code : FallbackCause → Byte
  | .request => 0
  | .lost _ => 1
  | .membership => 2

/-- The cause code, numbered within the table of its kind (R42, R161). -/
def FaultInfo.causeCode : FaultInfo → Option Byte
  | .referenceLost c => some c.code
  | .fallbackEntered c => some c.code
  | _ => none

/-- The first-fault record: kind, position, link and direction, vector, cause code, cycle number, cycle position (R171). -/
def FaultRecord.bytes (r : FaultRecord) : List Byte :=
  [r.info.kind.code] ++ optional (fun p => [posByte p]) r.info.position ++
    optional (fun x => [byte (linkNum x.1), Dir.code x.2]) r.info.link ++
    optional (fun v => [vectorByte v]) r.info.vector ++ optional (fun c => [c]) r.info.causeCode ++
    half r.cycleNo.toNat ++ half r.cyclePos

/-- The next-fault set in the order of the kind table. -/
def FaultUnit.nextList (f : FaultUnit) : List FaultKind := FaultKind.all.filter fun k => decide (k ∈ f.next)

/-- The record of Q-FAULT (R172). -/
def State.faultRecord (s : State) : List Byte :=
  optional FaultRecord.bytes s.faults.first ++ counted (fun k => [FaultKind.code k]) s.faults.nextList

/-- The record of Q-ALERT: per class the pending and the enable flag, the ALERT-waiting mark, the last sequence number (R176). DESIGN
CHOICE: R176 and R182 do not say whether the two flags stand class by class or all nine pending flags before all nine enable flags; they
stand class by class (assumption 40). -/
def State.alertRecord (s : State) : List Byte :=
  (AlertClass.all.flatMap fun c => [flag (s.faults.pending.get c.ix), flag (s.faults.enabled.get c.ix)]) ++
    [flag s.faults.waiting, s.faults.seq]

end Sys2Proof.Machine
end

