-- ==== Sys2Proof/Machine/ReqQuery.lean ====
section
/-! DEFINITION. The queries (R182 to R184) and the request of an unknown kind (R180). A query changes nothing but its port. -/

namespace Sys2Proof.Machine

/-- Q-STATUS (R183). -/
def execQStatus (p : PortId) (tag : Byte) (body : List Byte) : State → Host.Outcome State Fault Refusal :=
  powered (State.request p 29 true noFields (fun _ s => s.grant s.statusRecord) tag body)

/-- Q-CHAIN (R15). -/
def execQChain (p : PortId) (tag : Byte) (body : List Byte) : State → Host.Outcome State Fault Refusal :=
  powered (State.request p 30 true noFields (fun _ s => s.grant s.chainRecord) tag body)

/-- A query that names a thing by number: BAD_VALUE when the number names nothing. -/
def State.ruleNamed {α : Type} (find : Nat → Option α) (record : State → α → List Byte) (n : Nat) (s : State) : Ruling :=
  match find n with
  | none => s.refuse .badValue
  | some a => s.grant (record s a)

/-- Q-JUNCTION (R116). -/
def execQJunction (p : PortId) (tag : Byte) (body : List Byte) : State → Host.Outcome State Fault Refusal :=
  powered (State.request p 31 true oneByte (State.ruleNamed posOf State.junctionRecord) tag body)

/-- Q-PLAN (R34). -/
def execQPlan (p : PortId) (tag : Byte) (body : List Byte) : State → Host.Outcome State Fault Refusal :=
  powered (State.request p 32 true oneByte (State.ruleNamed slotOf State.planRecord) tag body)

/-- Q-POOL at the Plan Store; `b` is the first entry and the number of entries (R184). -/
def State.ruleQPool (b : Nat × Nat) (s : State) : Ruling :=
  if b.2 < 1 ∨ 16 < b.2 ∨ 256 < b.1 + b.2 then s.refuse .badValue else s.grant (s.poolRecord b.1 b.2)

/-- Q-POOL (R184). -/
def execQPool (p : PortId) (tag : Byte) (body : List Byte) : State → Host.Outcome State Fault Refusal :=
  powered (State.request p 33 true twoBytes State.ruleQPool tag body)

/-- Q-MEASURE (R69). -/
def execQMeasure (p : PortId) (tag : Byte) (body : List Byte) : State → Host.Outcome State Fault Refusal :=
  powered (State.request p 34 true oneByte (State.ruleNamed linkOf State.measureRecord) tag body)

/-- Q-BAND (R93). -/
def execQBand (p : PortId) (tag : Byte) (body : List Byte) : State → Host.Outcome State Fault Refusal :=
  powered (State.request p 35 true noFields (fun _ s => s.grant s.bandRecord) tag body)

/-- Q-PRE (R153). -/
def execQPre (p : PortId) (tag : Byte) (body : List Byte) : State → Host.Outcome State Fault Refusal :=
  powered (State.request p 36 true noFields (fun _ s => s.grant s.preRecord) tag body)

/-- Q-FAULT (R172). -/
def execQFault (p : PortId) (tag : Byte) (body : List Byte) : State → Host.Outcome State Fault Refusal :=
  powered (State.request p 37 true noFields (fun _ s => s.grant s.faultRecord) tag body)

/-- Q-ALERT (R176). -/
def execQAlert (p : PortId) (tag : Byte) (body : List Byte) : State → Host.Outcome State Fault Refusal :=
  powered (State.request p 38 true noFields (fun _ s => s.grant s.alertRecord) tag body)

/-- A request kind of section 11.5: 1..38. -/
def isRequestKind (kind : Byte) : Bool := decide (1 ≤ kind.toNat) && decide (kind.toNat ≤ 38)

/-- A request whose kind is no request kind (R180, check 1). A request kind is no such request, and nothing is taken. -/
def execUnknownKind (p : PortId) (kind tag : Byte) (body : List Byte) : State → Host.Outcome State Fault Refusal :=
  powered fun s =>
    if isRequestKind kind then s
    else s.serve p { kind, tag, body } (fun _ s => s.refuse .unknownKind) noMore

end Sys2Proof.Machine
end

