-- ==== Sys2Proof/Machine/Trunk.lean ====
section
/-! DEFINITION. The Trunk Controller (chapter 7): the arbiter, the frames it builds, the judging of answers, failures, misses,
losses and the probe walk. -/

namespace Sys2Proof.Machine

/-! ### The arbiter (R124, R126, R132) -/

/-- The next STEP of the open round: the lowest ENROLLED position above the cursor (R126). -/
def State.nextStep (s : State) : Option Pos :=
  if s.trunk.roundOpen then
    match s.trunk.cursor with
    | none => s.enrolledList.head?
    | some c => s.enrolledList.find? fun p => decide (c.val < p.val)
  else none

/-- The lowest position with a drop address whose order rests, or does not rest (R124, R131). -/
def State.orderWaiting (s : State) (resting : Bool) : Option Pos :=
  allPos.find? fun p =>
    (s.posRec p).enrolment.drop.isSome &&
      match s.trunk.orders.get p with
      | some e => e.resting == resting
      | none => false

/-- What the arbiter grants the line to next: nothing while an exchange is in flight or the master is DETACHED (R124, R134). -/
def State.nextGrant (s : State) : Option Grant :=
  if s.trunk.exchange.isSome || s.ctl.master.isDetached then none
  else
    match s.orderWaiting false with
    | some p => some (.order p)
    | none =>
      if s.trunk.waitingBeacon.isSome then some .beacon
      else
        match s.nextStep with
        | some p => some (.step p)
        | none =>
          if s.trunk.roundOpen && !s.trunk.probeDone then some .probe
          else (s.orderWaiting true).map .order

/-- At a grant every order ceases to rest (R124). -/
def Trunk.wakeOrders (t : Trunk) : Trunk :=
  { t with orders := Vector.ofFn fun p => (t.orders.get p).map fun e => { e with resting := false } }

def State.wakeOrders (s : State) : State := s.setTrunk s.trunk.wakeOrders

/-! ### Building frames (R120, R121, R186) -/

/-- A frame goes out and an attempt of this exchange is in flight (R122, R123). -/
def State.sendAttempt (kind : ExchangeKind) (p : Pos) (drop : Nat) (second : Bool) (body : List Byte) (s : State) : State :=
  s.setTrunk { s.trunk with
    exchange := some { kind, pos := p, drop, second, cut := false }
    out := some { addr := byte drop, kind := kind.request, body } }

/-- The correction a STEP built now carries: the round correction in COORDINATING, but 0 to a junction that is PREEMPTED or LOCAL;
0 in every other master state (R102, R121 and the table of section 7.9; assumption 38). -/
def State.carriedCorrection (s : State) (p : Pos) : Int :=
  if s.ctl.master = .coordinating ∧ (s.posRec p).mode.isHeld = false then (s.posRec p).correction else 0

/-- The order mode of a STEP built now: COORDINATE 0, FREE 1 (R121, R186). -/
def State.orderMode (s : State) : Byte :=
  match s.ctl.master with
  | .coordinating | .hold => 0
  | .idle | .fallback | .detached _ => 1

def windowBytes (w : Window) : List Byte := half w.s ++ half w.e

/-- The split set: both windows of a timing entry (R121). -/
def splitSet (e : Entry) : List Byte := windowBytes e.inb ++ windowBytes e.outb

/-- The body of a STEP built now for `p` (R121, R186). The split set goes out while reload needed is yes. DESIGN CHOICE, assumption
36: where the active plan has no timing entry for `p` (a second attempt to a position excluded since the first, after an activation),
the rules give no split set to send, and none is sent: its presence byte is 0. That two-byte fields stand high byte first and the signed
correction is two's complement is DEDUCED (assumption 41). -/
def State.stepBody (s : State) (p : Pos) : List Byte :=
  let tag := s.planTag
  [s.orderMode] ++ half s.plan.c ++ [byte tag.slot.val, tag.gen] ++ signed (s.carriedCorrection p) ++
    optional splitSet (if (s.posRec p).reload then s.plans.entryOf s.plans.active p else none)

/-- A STEP attempt is built and sent; the correction carried is recorded with the cycle number (R102, R121). -/
def State.sendStep (p : Pos) (drop : Nat) (second : Bool) (s : State) : State :=
  let c := s.carriedCorrection p
  let body := s.stepBody p
  (s.setPosRec p { s.posRec p with sent := some { value := c, cycle := s.clock.cycleNo } }).sendAttempt
    .step p drop second body

/-- The beacon goes out with the clock's values, and as a rollover beacon opens the round (R50, R125, R126). -/
def State.sendBeacon (mark : Bool) (s : State) : State :=
  let k := s.clock
  let t := { s.trunk with
    waitingBeacon := none
    out := some { addr := 0, kind := kindBeacon, body := half k.cyclePos ++ half k.cycleNo.toNat ++ half k.c } }
  s.setTrunk (if mark then { t with roundOpen := true, cursor := none, probeDone := false } else t)

/-- The body of a PREEMPT; a RELEASE has none (R186). -/
def Order.body : Order → List Byte
  | .preempt v cls phase => [byte v.val, cls.code, phase.code]
  | .release => []

def Order.exchange : Order → ExchangeKind
  | .preempt _ _ _ => .preempt
  | .release => .release

/-- An order is granted: the frame is built from the entry and the sent mark set (R131). -/
def State.sendOrder (p : Pos) (e : OrderEntry) (drop : Nat) (s : State) : State :=
  (s.setOrder p (some { e with sent := true })).sendAttempt e.order.exchange p drop false e.order.body

/-! ### The probe walk (R132) -/

/-- A probe candidate: a position with a drop address, EXCLUDED, or ENROLLED and LOST (R132). -/
def PosRec.probeCandidate (r : PosRec) : Bool :=
  match r.enrolment with
  | .vacant => false
  | .excluded _ _ => true
  | .enrolled _ => decide (r.health = .lost)

/-- The positions in circular order from the one after `p`, with `p` itself last. -/
def probeOrder (p : Pos) : List Pos :=
  (allPos.filter fun q => decide (p.val < q.val)) ++ allPos.filter fun q => decide (q.val ≤ p.val)

def State.probeTarget (s : State) : Option Pos :=
  (probeOrder s.trunk.probePtr).find? fun p => (s.posRec p).probeCandidate

/-- The PROBE of the round is over (R132). -/
def State.probeOver (p : Pos) (s : State) : State := s.setTrunk { s.trunk with probePtr := p, probeDone := true }

/-- The arbiter reaches the PROBE: the next candidate is probed, or there is none and the probe of the round is done. -/
def State.grantProbe (s : State) : State :=
  match s.probeTarget with
  | none => s.setTrunk { s.trunk with probeDone := true }
  | some p =>
    match (s.posRec p).enrolment.drop with
    | some d => s.sendAttempt .probe p d false []
    | none => s.setTrunk { s.trunk with probeDone := true }

/-! ### Misses and losses (R128, R129) -/

/-- A loss is handed on, by the fault policy as it stands (R129, R162). -/
def State.handLoss (p : Pos) (s : State) : State :=
  match s.ctl.policy with
  | .tolerant => s.lossExclude p
  | .strict => s.fallbackUnlessOut (.lost p)

/-- A miss is counted (R128). -/
def State.countMiss (p : Pos) (s : State) : State := s.setMisses p (satInc 5 (s.posRec p).misses)

/-- A failed STEP exchange counts a miss; the loss of an ENROLLED position that is then LOST is handed on, at its change to
LOST and at each later failed STEP exchange (R127, R129). -/
def State.missStep (p : Pos) (s : State) : State :=
  let s1 := s.countMiss p
  if s1.isEnrolled p = true ∧ (s1.posRec p).health = .lost then s1.handLoss p else s1

/-- A failed order attempt counts a miss; the loss of an ENROLLED position is handed on at its change to LOST only (R129). -/
def State.missOrder (p : Pos) (s : State) : State :=
  let s1 := s.countMiss p
  if s1.isEnrolled p = true ∧ (s1.posRec p).health = .lost ∧ (s.posRec p).health ≠ .lost then s1.handLoss p else s1

/-! ### Outcomes of an attempt (R122, R123, R131, R134) -/

def State.endExchange (s : State) : State := s.setTrunk { s.trunk with exchange := none }

def Order.vector : Order → Option VecIx
  | .preempt v _ _ => some v
  | .release => none

/-- A failed attempt of an order (R131). -/
def State.orderFailed (p : Pos) (s : State) : State :=
  match s.trunk.orders.get p with
  | none => s
  | some e =>
    if e.sent then
      let n := satInc 255 e.fails
      let s1 := s.setOrder p (some { e with fails := n, resting := true, sent := false })
      (if n = 3 ∧ e.fails ≠ 3 then s1.fault (.preemptUndelivered p e.order.vector) else s1).missOrder p
    else s.missOrder p

/-- No second attempt follows the attempt in flight: the master is DETACHED, or entered DETACHED while it was in flight (R134). -/
def State.noSecond (x : Exchange) (s : State) : Bool := x.cut || s.ctl.master.isDetached

/-- The attempt in flight fails. The failed first attempt of a STEP or PROBE is followed by a second, built afresh, unless the
master is DETACHED, or has been since the attempt was sent, or the position has no drop address; then a STEP failure is offered and no
miss counted, and a PROBE is over (R123, R134). -/
def State.attemptFailed (x : Exchange) (s : State) : State :=
  let free := s.endExchange
  match x.kind with
  | .preempt | .release => free.orderFailed x.pos
  | .step =>
    if x.second then (free.stepFailure x.pos).missStep x.pos
    else
      match (s.posRec x.pos).enrolment.drop, s.noSecond x with
      | some d, false => s.sendStep x.pos d true
      | _, _ => free.stepFailure x.pos
  | .probe =>
    if x.second then free.probeOver x.pos
    else
      match (s.posRec x.pos).enrolment.drop, s.noSecond x with
      | some d, false => s.sendAttempt .probe x.pos d true []
      | _, _ => free.probeOver x.pos

def State.countBadFrame (s : State) : State := s.setTrunk { s.trunk with badFrames := satInc 65535 s.trunk.badFrames }

/-- The response window expires with no frame (R122). -/
def State.windowExpires (s : State) : State :=
  match s.trunk.exchange with
  | none => s
  | some x => (s.setTrunk { s.trunk with noAnswers := satInc 65535 s.trunk.noAnswers }).attemptFailed x

/-- A frame with a bad check: counted, and the attempt in flight, if any, fails (R122). DESIGN CHOICE, assumption 37: a bad check
received while the master is DETACHED and no response window runs is counted as well, as R122 says of every such frame; R134 says
that the counters do not change during the stay. -/
def State.badCheck (s : State) : State :=
  match s.trunk.exchange with
  | none => s.countBadFrame
  | some x => s.countBadFrame.attemptFailed x

/-- A REPORT is accepted (R127). -/
def State.acceptReport (x : Exchange) (rep : Report) (s : State) : State :=
  (((s.endExchange.setMisses x.pos 0).measureIntake x.pos rep)).reportSeek x.pos rep

/-- An ACK is accepted: the entry goes when its sent mark is still yes (R131). -/
def State.acceptAck (x : Exchange) (s : State) : State :=
  let s1 := s.endExchange
  let s2 :=
    match s1.trunk.orders.get x.pos with
    | some e => if e.sent then s1.setOrder x.pos none else s1
    | none => s1
  s2.setMisses x.pos 0

/-- The mode an ANSWER carries: taken on an unowned position only (R108). -/
def PosRec.answerMode (m : Mode) (r : PosRec) : PosRec := if r.owner.isSome then r else { r with mode := m }

/-- An ANSWER is accepted (R132). JUNCTION is offered when the health was LOST or available was no. -/
def State.acceptAnswer (x : Exchange) (m : Mode) (s : State) : State :=
  let s1 := (s.endExchange.probeOver x.pos).setMisses x.pos 0
  let s2 := s1.setPosRec x.pos (({ s1.posRec x.pos with available := true } : PosRec).answerMode m)
  if (s.posRec x.pos).available then s2 else s2.alert .junction

/-! ### Judging a received frame (R122, R186) -/

/-- The REPORT body of R186; a mode byte above 3 or a present slot above 15 makes it a frame of the wrong kind. DEDUCED: a presence byte
above 1 is present (assumption 32), and two-byte fields stand high byte first (assumption 41). -/
def parseReport : List Byte → Option Report
  | [op, o1, o0, acc, tp, slot, gen, mode, ci, co, qi, qo, ti1, ti0, to1, to0, fi, fo] =>
    match Mode.ofByte mode with
    | none => none
    | some m =>
      if tp ≠ 0 ∧ 16 ≤ slot.toNat then none
      else
        some
          { running := if op = 0 then none else some (ofHalf o1 o0)
            accepted := acc != 0
            tag := if tp = 0 then none else (slotOf slot.toNat).map fun i => { slot := i, gen }
            mode := m
            countIn := ci.toNat, countOut := co.toNat, queueIn := qi.toNat, queueOut := qo.toNat
            transitIn := ofHalf ti1 ti0, transitOut := ofHalf to1 to0
            faultIn := fi != 0, faultOut := fo != 0 }
  | _ => none

/-- The answer awaited by an exchange, read from a frame's body (R122, R186). -/
inductive AwaitedAnswer where
  | report (rep : Report)
  | ack
  | answer (m : Mode)
deriving DecidableEq, Repr

def parseAnswer (k : ExchangeKind) (body : List Byte) : Option AwaitedAnswer :=
  match k with
  | .step => (parseReport body).map .report
  | .preempt | .release => if body = [k.request] then some .ack else none
  | .probe =>
    match body with
    | [m] => (Mode.ofByte m).map .answer
    | _ => none

/-- What a frame with a good check means to an exchange: the answer awaited, or none (R122). -/
def Exchange.judge (x : Exchange) (addr kind : Byte) (body : List Byte) : Option AwaitedAnswer :=
  if addr.toNat = x.drop ∧ kind = x.kind.awaited then parseAnswer x.kind body else none

/-- The answer awaited is accepted. -/
def State.accept (x : Exchange) (a : AwaitedAnswer) (s : State) : State :=
  match a with
  | .report rep => s.acceptReport x rep
  | .ack => s.acceptAck x
  | .answer m => s.acceptAnswer x m

/-- A frame with a good check is received: accepted, or counted and the attempt failed; discarded when no response window runs
(R122). -/
def State.receiveFrame (addr kind : Byte) (body : List Byte) (s : State) : State :=
  match s.trunk.exchange with
  | none => s
  | some x =>
    match x.judge addr kind body with
    | some a => s.accept x a
    | none => s.countBadFrame.attemptFailed x

end Sys2Proof.Machine
end

