-- ==== Sys2Proof/Machine/TrunkEvents.lean ====
section
/-! DEFINITION. The events of the trunk (chapter 7): the grants, the frames received, the expiry of a response window. A grant
event occurs when the arbiter's next grant is of its kind. -/

namespace Sys2Proof.Machine

/-- The arbiter grants the waiting beacon (R124, R125). -/
def execBeacon : State → Host.Outcome State Fault Refusal :=
  powered fun s =>
    match s.nextGrant, s.trunk.waitingBeacon with
    | some .beacon, some mark => s.wakeOrders.sendBeacon mark
    | _, _ => s

/-- The STEP of a round is granted to `p`: the cursor moves there and the first attempt goes out (R121, R126). -/
def State.grantStep (p : Pos) (s : State) : State :=
  match (s.posRec p).enrolment.drop with
  | some d => (s.setTrunk { s.trunk with cursor := some p }).sendStep p d false
  | none => s

/-- The arbiter grants the next STEP of the round (R124, R126). -/
def execStepFrame : State → Host.Outcome State Fault Refusal :=
  powered fun s =>
    match s.nextGrant with
    | some (.step p) => s.wakeOrders.grantStep p
    | _ => s

/-- The order of `p` when it goes out next and is of the kind named: the order is sent (R124, R131). -/
def State.grantOrder (kind : ExchangeKind) (s : State) : State :=
  match s.nextGrant with
  | some (.order p) =>
    let s1 := s.wakeOrders
    match s1.trunk.orders.get p, (s1.posRec p).enrolment.drop with
    | some e, some d => if e.order.exchange = kind then s1.sendOrder p e d else s
    | _, _ => s
  | _ => s

/-- The arbiter grants a PREEMPT order (R131). -/
def execPreemptFrame : State → Host.Outcome State Fault Refusal :=
  powered (State.grantOrder .preempt)

/-- The arbiter grants a RELEASE order (R131). -/
def execReleaseFrame : State → Host.Outcome State Fault Refusal :=
  powered (State.grantOrder .release)

/-- The arbiter reaches the PROBE of the round (R132). -/
def execProbeFrame : State → Host.Outcome State Fault Refusal :=
  powered fun s =>
    match s.nextGrant with
    | some .probe => s.wakeOrders.grantProbe
    | _ => s

/-- A REPORT with a good check is received (R122, R127). -/
def execReport (addr : Byte) (body : List Byte) : State → Host.Outcome State Fault Refusal :=
  powered (State.receiveFrame addr kindReport body)

/-- An ACK with a good check is received (R122, R131). -/
def execAck (addr : Byte) (body : List Byte) : State → Host.Outcome State Fault Refusal :=
  powered (State.receiveFrame addr kindAck body)

/-- An ANSWER with a good check is received (R122, R132). -/
def execAnswer (addr : Byte) (body : List Byte) : State → Host.Outcome State Fault Refusal :=
  powered (State.receiveFrame addr kindAnswer body)

/-- A frame that is not the answer awaited is received (R122). -/
def execTrunkBadFrame (f : TrunkReject) : State → Host.Outcome State Fault Refusal :=
  powered fun s =>
    match f with
    | .badCheck => s.badCheck
    | .wellChecked addr kind body => s.receiveFrame addr kind body

/-- The response window expires with no frame (R122). -/
def execResponseWindowExpiry : State → Host.Outcome State Fault Refusal :=
  powered State.windowExpires

end Sys2Proof.Machine
end

