-- ==== Sys2Proof/Machine/Dispatch.lean ====
section
/-! DEFINITION. The meaning of every command, arm by arm. -/

namespace Sys2Proof.Machine

def exec (i : Instr) (s : State) : Host.Outcome State Fault Refusal :=
  match i with
  | .chainLink p tag body => Sys2Proof.Machine.execChainLink p tag body s
  | .enrol p tag body => Sys2Proof.Machine.execEnrol p tag body s
  | .exclude p tag body => Sys2Proof.Machine.execExclude p tag body s
  | .planOpen p tag body => Sys2Proof.Machine.execPlanOpen p tag body s
  | .planEntry p tag body => Sys2Proof.Machine.execPlanEntry p tag body s
  | .planClose p tag body => Sys2Proof.Machine.execPlanClose p tag body s
  | .planDrop p tag body => Sys2Proof.Machine.execPlanDrop p tag body s
  | .planLock p tag body => Sys2Proof.Machine.execPlanLock p tag body s
  | .planUnlock p tag body => Sys2Proof.Machine.execPlanUnlock p tag body s
  | .planSelect p tag body => Sys2Proof.Machine.execPlanSelect p tag body s
  | .start p tag body => Sys2Proof.Machine.execStart p tag body s
  | .stop p tag body => Sys2Proof.Machine.execStop p tag body s
  | .hold p tag body => Sys2Proof.Machine.execHold p tag body s
  | .resume p tag body => Sys2Proof.Machine.execResume p tag body s
  | .fallback p tag body => Sys2Proof.Machine.execFallback p tag body s
  | .policy p tag body => Sys2Proof.Machine.execPolicy p tag body s
  | .timebase p tag body => Sys2Proof.Machine.execTimebase p tag body s
  | .beaconSet p tag body => Sys2Proof.Machine.execBeaconSet p tag body s
  | .compute p tag body => Sys2Proof.Machine.execCompute p tag body s
  | .vectorSet p tag body => Sys2Proof.Machine.execVectorSet p tag body s
  | .lineSet p tag body => Sys2Proof.Machine.execLineSet p tag body s
  | .preCall p tag body => Sys2Proof.Machine.execPreCall p tag body s
  | .preClear p tag body => Sys2Proof.Machine.execPreClear p tag body s
  | .faultClear p tag body => Sys2Proof.Machine.execFaultClear p tag body s
  | .alertEnable p tag body => Sys2Proof.Machine.execAlertEnable p tag body s
  | .alertClear p tag body => Sys2Proof.Machine.execAlertClear p tag body s
  | .restart p tag body => Sys2Proof.Machine.execRestart p tag body s
  | .erase p tag body => Sys2Proof.Machine.execErase p tag body s
  | .qStatus p tag body => Sys2Proof.Machine.execQStatus p tag body s
  | .qChain p tag body => Sys2Proof.Machine.execQChain p tag body s
  | .qJunction p tag body => Sys2Proof.Machine.execQJunction p tag body s
  | .qPlan p tag body => Sys2Proof.Machine.execQPlan p tag body s
  | .qPool p tag body => Sys2Proof.Machine.execQPool p tag body s
  | .qMeasure p tag body => Sys2Proof.Machine.execQMeasure p tag body s
  | .qBand p tag body => Sys2Proof.Machine.execQBand p tag body s
  | .qPre p tag body => Sys2Proof.Machine.execQPre p tag body s
  | .qFault p tag body => Sys2Proof.Machine.execQFault p tag body s
  | .qAlert p tag body => Sys2Proof.Machine.execQAlert p tag body s
  | .unknownKind p kind tag body => Sys2Proof.Machine.execUnknownKind p kind tag body s
  | .portFrame p bytes => Sys2Proof.Machine.execPortFrame p bytes s
  | .portPause p => Sys2Proof.Machine.execPortPause p s
  | .replyEnd p => Sys2Proof.Machine.execReplyEnd p s
  | .alertRecord => Sys2Proof.Machine.execAlertRecord s
  | .powerOn => Sys2Proof.Machine.execPowerOn s
  | .decisecond order => Sys2Proof.Machine.execDecisecond order s
  | .rollover order => Sys2Proof.Machine.execRollover order s
  | .refPulse time => Sys2Proof.Machine.execRefPulse time s
  | .silenceLimit time => Sys2Proof.Machine.execSilenceLimit time s
  | .lineInputChange line high time => Sys2Proof.Machine.execLineInputChange line high time s
  | .preLineSettle line time => Sys2Proof.Machine.execPreLineSettle line time s
  | .holdLineActive time => Sys2Proof.Machine.execHoldLineActive time s
  | .holdLineInactive time => Sys2Proof.Machine.execHoldLineInactive time s
  | .detachLineActive time => Sys2Proof.Machine.execDetachLineActive time s
  | .detachLineInactive time => Sys2Proof.Machine.execDetachLineInactive time s
  | .keyLineActive time => Sys2Proof.Machine.execKeyLineActive time s
  | .keyLineInactive time => Sys2Proof.Machine.execKeyLineInactive time s
  | .causeExpiry v => Sys2Proof.Machine.execCauseExpiry v s
  | .computationCompletion => Sys2Proof.Machine.execComputationCompletion s
  | .beacon => Sys2Proof.Machine.execBeacon s
  | .stepFrame => Sys2Proof.Machine.execStepFrame s
  | .preemptFrame => Sys2Proof.Machine.execPreemptFrame s
  | .releaseFrame => Sys2Proof.Machine.execReleaseFrame s
  | .probeFrame => Sys2Proof.Machine.execProbeFrame s
  | .report addr body => Sys2Proof.Machine.execReport addr body s
  | .ack addr body => Sys2Proof.Machine.execAck addr body s
  | .answer addr body => Sys2Proof.Machine.execAnswer addr body s
  | .trunkBadFrame frame => Sys2Proof.Machine.execTrunkBadFrame frame s
  | .responseWindowExpiry => Sys2Proof.Machine.execResponseWindowExpiry s
  | .receiveBufferFull p byte => Sys2Proof.Machine.execReceiveBufferFull p byte s
  | .powerLoss torn => Sys2Proof.Machine.execPowerLoss torn s

end Sys2Proof.Machine
end

