-- ==== Sys2Proof/Safety.lean ====
section
/-! DEFINITION. What counts as a safe run: the laws the manual says the blocks keep, each as a property of one state. A law
about the running part is asked of a state with supply. -/

namespace Sys2Proof.Machine

/-! ### Laws of one block -/

/-- The next-fault set is empty whenever the first-fault record is empty (R171). -/
def FaultLaw (s : State) : Prop := s.faults.first = none → s.faults.next = []

/-- A miss count stays within 0..5; health is ONLINE for 0 or 1, SUSPECT for 2 to 4, LOST for 5 (R118). -/
def HealthLaw (s : State) : Prop :=
  ∀ p, (s.posRec p).misses ≤ 5 ∧
    ((s.posRec p).health = .online ↔ (s.posRec p).misses ≤ 1) ∧ ((s.posRec p).health = .lost ↔ (s.posRec p).misses = 5)

/-- The remaining hold of an active cause is at most its vector's maximum hold (R147). -/
def HoldLaw (s : State) : Prop :=
  ∀ v c, s.pre.causes.get v = some c → c.remaining ≤ (s.pre.vectors.get v).maxHold

def SeekState.isSuspended : SeekState → Bool
  | .suspended _ => true
  | _ => false

/-- A position with an owner is ENROLLED, has mode PREEMPTED and is SUSPENDED (R142, R145). -/
def OwnerLaw (s : State) : Prop :=
  ∀ p, (s.posRec p).owner.isSome = true →
    (s.posRec p).enrolment.isEnrolled = true ∧ (s.posRec p).mode = .preempted ∧ (s.posRec p).seek.isSuspended = true

/-- Every vector lists each position once (R140). -/
def distinct (vs : Vector VectorCfg 8) : Prop := ∀ v, ((vs.get v).list.map (·.pos)).Nodup

/-- Vector `a` ranks above vector `b`: RAIL above EMERGENCY above TRANSIT, and within a class the lower number (R140). -/
def Pre.RanksAbove (x : Pre) (a b : VecIx) : Prop :=
  let place := fun v => match (x.vectors.get v).cls with
    | .rail => 1
    | .emergency => 2
    | .transit => 3
    | .unused => 4
  place a < place b ∨ place a = place b ∧ a < b

/-- The owner and the pending causes of a position are active causes, the owner ranks above every cause pending there, the pending
causes stand in rank order, each once, and no cause is pending without an owner (R142, R145, R148); the vectors, in use, stored or
to be restored, list each position once. -/
def CauseLaw (s : State) : Prop :=
  (∀ p v, (s.posRec p).owner = some v → (s.pre.causes.get v).isSome = true ∧
    ∀ w, w ∈ (s.posRec p).claims → s.pre.RanksAbove v w) ∧
    (∀ p v, v ∈ (s.posRec p).claims → (s.pre.causes.get v).isSome = true ∧ (s.posRec p).owner.isSome = true) ∧
    (∀ p, (s.posRec p).claims.Pairwise s.pre.RanksAbove) ∧ distinct s.pre.vectors ∧ distinct s.store.vectors ∧
    ∀ u, s.unfinished = some u → distinct u.before.vectors

/-- While the master is COORDINATING or HOLD, at least two positions are ENROLLED (R155). -/
def MembersLaw (s : State) : Prop := s.ctl.master = .coordinating ∨ s.ctl.master = .hold → 2 ≤ s.enrolledCount

/-- A position that is IN_STEP has a running offset equal to its target offset (R96). -/
def InStepLaw (s : State) : Prop :=
  ∀ p, (s.posRec p).seek = .inStep → (s.posRec p).target.isSome = true ∧ (s.posRec p).running = (s.posRec p).target

/-! ### Laws of the seek -/

/-- The direction and remaining that R98 chooses from target `t` and running offset `o`, under the limits of R97. -/
def Header.seekChoice (h : Header) (t o : Nat) : Travel :=
  let lmax := h.c * h.lengthen / 100
  let smax := h.c * h.shorten / 100
  let ahead := (((t : Int) - (o : Int)) % (h.c : Int)).toNat
  let behind := h.c - ahead
  let rounds := fun distance limit => (distance + limit - 1) / limit
  if lmax = 0 ∧ smax = 0 then ⟨.lengthen, ahead⟩
  else if lmax = 0 then ⟨.shorten, behind⟩
  else if smax = 0 then ⟨.lengthen, ahead⟩
  else if rounds ahead lmax < rounds behind smax then ⟨.lengthen, ahead⟩
  else if rounds behind smax < rounds ahead lmax then ⟨.shorten, behind⟩
  else if behind < ahead then ⟨.shorten, behind⟩
  else ⟨.lengthen, ahead⟩

/-- The direction and remaining a seek has by its target and running offset: present when both are present and unequal (R95, R99). -/
def PosRec.seekTravel (h : Header) (r : PosRec) : Option Travel :=
  match r.target, r.running with
  | some t, some o => if t = o then none else some (h.seekChoice t o)
  | _, _ => none

/-- The round correction by the table of R101. -/
def PosRec.owed (h : Header) (r : PosRec) : Int :=
  let lmax := h.c * h.lengthen / 100
  let smax := h.c * h.shorten / 100
  if r.spent = true ∨ r.seek ≠ .seeking then 0
  else
    match r.travel with
    | none => 0
    | some ⟨.lengthen, m⟩ => if lmax = 0 ∧ smax = 0 then (m : Int) else min (m : Int) (lmax : Int)
    | some ⟨.shorten, m⟩ => -(min (m : Int) (smax : Int))

/-- A SEEKING position has the direction and remaining that its fields give, and is IN_STEP when they leave nothing to travel; no
other position has them; every round correction is the one of R101 (R95 to R99, R101). -/
def SeekLaw (s : State) : Prop :=
  s.powered = true → ∀ p,
    let r := s.posRec p
    (r.seek = .seeking → r.travel = r.seekTravel s.plan ∧ (r.target = none ∨ r.target ≠ r.running)) ∧
      (r.seek ≠ .seeking → r.travel = none) ∧ r.correction = r.owed s.plan

/-- Every present target or running offset lies in 0..C−1 for the C of the active plan (R96). -/
def OffsetLaw (s : State) : Prop :=
  s.powered = true → ∀ p n,
    (s.posRec p).target = some n ∨ (s.posRec p).running = some n → n < s.plan.c

/-- The snapshot in flight lists its positions in ascending order, and while its slot is READY under its generation the slot holds
the C of the snapshot (R77, R28). -/
def SnapshotLaw (s : State) : Prop :=
  ∀ x, s.band.inFlight = some x →
    x.snap.positions.Pairwise (fun a b => a.pos < b.pos) ∧
      ∀ h es, (s.plans.slot x.snap.slot).body = .ready h es → (s.plans.slot x.snap.slot).gen = x.snap.gen → h.c = x.snap.c

/-- INTERNAL is held exactly under INTERNAL_ONLY; the good-pulse count of ACQUIRING is at most 7; the last interval of
REFERENCE is good; the decisecond is one tenth of it in REFERENCE and 100.0 ms otherwise (R38). -/
def TimebaseLaw (s : State) : Prop :=
  (s.clock.tb = .internal ↔ s.clock.pref = .internalOnly) ∧
    match s.clock.tb with
    | .internal => s.clock.dsLength = 1000
    | .acquiring n _ => n ≤ 7 ∧ s.clock.dsLength = 1000
    | .reference _ last => 990 ≤ last ∧ last ≤ 1010 ∧ s.clock.dsLength = last

/-! ### The configuration store as the mirror of the running configuration -/

/-- What the store holds of a slot: an OPEN slot is held as EMPTY (R35). -/
def Slot.stored (x : Slot) : StoredSlot :=
  { locked := x.locked
    gen := x.gen
    plan :=
      match x.body with
      | .ready h es => some { h, entries := es }
      | .empty | .loading _ _ _ => none }

/-- The configuration with which the blocks run: what R167 lists, read from the blocks' own copies. -/
def State.configuration (s : State) : Store :=
  { chain := Vector.ofFn fun p => (s.posRec p).enrolment
    lengths := Vector.ofFn fun l => (s.linkRec l).length
    slots := Vector.ofFn fun i => (s.plans.slot i).stored
    active := s.plans.active
    pref := s.clock.pref
    beaconInterval := s.clock.beaconInterval
    vectors := s.pre.vectors
    lines := Vector.ofFn fun k => (s.pre.lines.get k).cfg
    policy := s.ctl.policy
    enabled := s.faults.enabled }

/-- While the part runs, the store holds the configuration the blocks run with (R167). -/
def MirrorLaw (s : State) : Prop := s.powered = true → s.store = s.configuration

/-! ### The clock and the plan store -/

/-- The cycle length of a plan lies in its range (R19). -/
def Header.cOk (h : Header) : Prop := 300 ≤ h.c ∧ h.c ≤ 2400

/-- Every stored plan has its cycle length in range, and the stored active slot holds a plan (R19, R29). -/
def Store.plansOk (st : Store) : Prop :=
  (∀ i q, (st.slots.get i).plan = some q → q.h.cOk) ∧ (st.slots.get st.active).plan.isSome = true

/-- The cycle position lies in 0..C−1 for the C in force, and the C in force is the C of the active plan, which is READY
(R29, R48). -/
def ClockLaw (s : State) : Prop :=
  s.powered = true →
    s.clock.cyclePos < s.clock.c ∧ s.clock.c = s.plan.c ∧ (s.plans.slot s.plans.active).body.isReady = true

/-- What the clock's law rests on: the mirror, the ranges of every plan held or stored, and a READY pending slot. -/
def ClockBase (s : State) : Prop :=
  MirrorLaw s ∧ s.store.plansOk ∧ (∀ u, s.unfinished = some u → u.before.plansOk) ∧
    (s.powered = true →
      (∀ i h q es, (s.plans.slot i).body = .loading h q es → h.cOk) ∧
        ∀ i, s.plans.pendingSlot = some i → (s.plans.slot i).body.isReady = true)

/-! ### The plans, their runs in the pool and what they cover -/

/-- The stored plans: slot 0 holds the factory plan, locked, with generation 0 (R27); the runs lie in the pool and meet nowhere
(R21); the active plan has an entry for every ENROLLED position (R29). -/
structure Store.PlansKept (st : Store) : Prop where
  factory : st.slots.get 0 = ⟨true, 0, some factoryPlan⟩
  inPool : ∀ i x, (st.slots.get i).plan = some x → 1 ≤ x.h.count ∧ x.h.base + x.h.count ≤ 256
  apart : ∀ i j x y, i ≠ j → (st.slots.get i).plan = some x → (st.slots.get j).plan = some y →
    x.h.base + x.h.count ≤ y.h.base ∨ y.h.base + y.h.count ≤ x.h.base
  covered : ∀ p x, (st.chain.get p).isEnrolled = true → (st.slots.get st.active).plan = some x →
    ∃ e, e ∈ x.entries ∧ e.position = p.val + 1

/-- The same of the running part, for the run of an OPEN slot and for the pending plan as well (R21, R27, R29). -/
structure State.PlansKept (s : State) : Prop where
  factory : s.plans.slot 0 = ⟨true, 0, .ready factoryHeader factoryEntries⟩
  inPool : ∀ i, (s.plans.slot i).body ≠ .empty →
    1 ≤ (s.plans.header i).count ∧ (s.plans.header i).base + (s.plans.header i).count ≤ 256
  apart : ∀ i j, i ≠ j → (s.plans.slot i).body ≠ .empty → (s.plans.slot j).body ≠ .empty →
    (s.plans.header i).base + (s.plans.header i).count ≤ (s.plans.header j).base ∨
      (s.plans.header j).base + (s.plans.header j).count ≤ (s.plans.header i).base
  covered : ∀ p i, s.isEnrolled p = true → i = s.plans.active ∨ s.plans.pendingSlot = some i →
    ∃ e, e ∈ (s.plans.slot i).body.entries ∧ e.position = p.val + 1

/-- The laws of the plans, in the store, in the content a power loss could restore, and in the running part (R21, R27, R29, R167). -/
def PlanLaw (s : State) : Prop :=
  s.store.PlansKept ∧ (∀ u, s.unfinished = some u → u.before.PlansKept) ∧ (s.powered = true → s.PlansKept)

/-! ### Drop addresses -/

/-- Every drop address is 1..31 and held by one position (R5). -/
def dropsOk (chain : Vector Enrolment 24) : Prop :=
  (∀ p d, (chain.get p).drop = some d → 1 ≤ d ∧ d ≤ 31) ∧
    ∀ p q d, (chain.get p).drop = some d → (chain.get q).drop = some d → p = q

/-- The drop addresses of the chain, in the store and in the content a power loss could restore (R5, R167). -/
def DropLaw (s : State) : Prop :=
  MirrorLaw s ∧ dropsOk s.store.chain ∧ ∀ u, s.unfinished = some u → dropsOk u.before.chain

/-! ### Frames -/

/-- The state that no operation of the Band Computer, the Transition Unit, the Trunk Controller, the Preemption Unit or a change of
the master state writes: the frame of those operations. -/
structure Kept where
  links : Vector LinkRec 23
  memGen : Half
  plans : PlanStore
  clock : Clock
  meas : Meas
  centre : Port
  field : Port
  store : Store
  unfinished : Option Unfinished
  powered : Bool
  now : Nat
  pending : List Instr
  chain : Vector Enrolment 24
  vectors : Vector VectorCfg 8
  lineCfgs : Vector LineCfg 4
  policy : Policy
  held : Bool
  holdLine : CtlLine
  detachLine : CtlLine
  keyLine : CtlLine
  enabled : Vector Bool 9
deriving DecidableEq, Repr

/-- The part of a state that those operations keep. -/
def State.kept (s : State) : Kept :=
  { links := s.links, memGen := s.memGen, plans := s.plans, clock := s.clock, meas := s.meas, centre := s.centre
    field := s.field, store := s.store, unfinished := s.unfinished, powered := s.powered, now := s.now, pending := s.pending
    chain := Vector.ofFn fun p => (s.posRec p).enrolment
    vectors := s.pre.vectors
    lineCfgs := Vector.ofFn fun k => (s.pre.lines.get k).cfg
    policy := s.ctl.policy, held := s.ctl.held
    holdLine := s.ctl.holdLine, detachLine := s.ctl.detachLine, keyLine := s.ctl.keyLine
    enabled := s.faults.enabled }

end Sys2Proof.Machine
end

