-- ==== Sys2Proof/Certificates/Slice0/Obligations.lean ====
section
/-! DEFINITION. The statements about the block, to be proved. Each is a proposition; none is proved here.

`State.CanTake` says when a port takes a request, and `State.replying` names the state in which its reply is being sent. A
statement about a request gives the next state for every port, tag and sender class unless it says otherwise. -/

namespace Sys2Proof.Machine

/-- With supply, port `p` takes the frame `f` now, and holds `q` once it is taken (R179). -/
def State.CanTake (s : State) (p : PortId) (f : Frame) (q : Port) : Prop :=
  s.powered = true ∧ (s.port p).taking f = some q

/-- `s`, with `f` in progress at port `p` and its reply being sent: kind plus 128, the tag unchanged (R177, R181). -/
def State.replying (s : State) (p : PortId) (q : Port) (f : Frame) (cls : SenderClass) (code : ReplyCode)
    (result : List Byte) : State :=
  s.setPort p { q with
    inProgress := some
      { kind := f.kind, tag := f.tag, cls, reply := { kind := f.kind + 128, tag := f.tag, code, result } } }

/-- A store write by port `p` of the new content `st`, which a loss of supply can still undo (R167). -/
def State.written (s : State) (p : PortId) (st : Store) : State :=
  { s with store := st, unfinished := some { before := s.store, port := some p } }

/-- From `s` to `t` the Fault and Alert Unit takes the faults `fs`, in this order, and an alert event of each class of which `P` holds,
and no other: the first fault fills an empty record with the reading of the clock, the kind of every other one joins the next-fault
set, each raises FAULT, and an enabled class that becomes pending sets the ALERT-waiting mark (R171, R173, R174). -/
structure Raises (fs : List FaultInfo) (P : AlertClass → Prop) (s t : State) : Prop where
  first : t.faults.first =
    match s.faults.first with
    | some r => some r
    | none => fs.head?.map fun i => ⟨i, s.clock.cycleNo, s.clock.cyclePos⟩
  next : ∀ k, k ∈ t.faults.next ↔
    k ∈ s.faults.next ∨ ∃ i, i ∈ (if s.faults.first = none then fs.tail else fs) ∧ i.kind = k
  pending : ∀ c : AlertClass, t.faults.pending.get c.ix = true ↔
    s.faults.pending.get c.ix = true ∨ P c ∨ c = .fault ∧ fs ≠ []
  waiting : t.faults.waiting = true ↔ s.faults.waiting = true ∨
    ∃ c : AlertClass, s.faults.pending.get c.ix = false ∧ t.faults.pending.get c.ix = true ∧ s.faults.enabled.get c.ix = true
  kept : t.faults.enabled = s.faults.enabled ∧ t.faults.seq = s.faults.seq ∧ t.faults.out = s.faults.out

/-- Some position enters IN_STEP between `s` and `t` (R115). -/
def EntersStep (s t : State) : Prop := ∃ o, (t.posRec o).seek = .inStep ∧ (s.posRec o).seek ≠ .inStep

/-- The travel value of a link of length `length`, for planned speed `speed` and a measure of quality `q` (R78). -/
def Snapshot.valueOf (n : Snapshot) (length speed : Nat) (q : Quality) : Nat :=
  let time := fun v => (2 * (36 * length) + v) / (2 * v)
  let chosen := match q with
    | .fresh x _ => if x < time n.speedMax then time n.speedMax else if time n.speedMin < x then time n.speedMin else x
    | .none | .aged | .poisoned => time speed
  max 1 (min 9999 chosen)

/-- The POISON_USED faults that the start of a computation offers: under TOLERANT policy, one for each poisoned link-direction of
its span, in ascending link order, inbound before outbound (R79). -/
def Computation.poisonUsed (x : Computation) : List FaultInfo :=
  match x.snap.policy with
  | .strict => []
  | .tolerant => x.snap.links.flatMap fun l =>
      (if l.inb = .poisoned then [FaultInfo.poisonUsed l.link .inbound] else []) ++
        (if l.outb = .poisoned then [FaultInfo.poisonUsed l.link .outbound] else [])

/-- `x` is a computation of number `k` as its start makes it from its snapshot: the travel value of every span link in both
directions, the poisoned link-directions, and no interruption (R77 to R79). -/
structure Computation.Begun (x : Computation) (k : Half) : Prop where
  number : x.number = k
  travel : x.travel = x.snap.links.map fun l =>
    ⟨l.link, x.snap.valueOf l.length x.snap.speedIn l.inb, x.snap.valueOf l.length x.snap.speedOut l.outb⟩
  poisoned : x.poisoned = x.snap.links.flatMap fun l =>
    (if l.inb = .poisoned then [(l.link, .inbound)] else []) ++ (if l.outb = .poisoned then [(l.link, .outbound)] else [])
  interrupted : x.interrupted = false

/-- The same, started at state `t`: its snapshot is that of `t` (R77). -/
structure Computation.StartsAt (x : Computation) (k : Half) (t : State) : Prop where
  snap : x.snap = t.snapshot
  begun : x.Begun k

/-- From `s` to `t` the Band Computer takes a trigger under master state `m`, and starts a computation or sets the recompute-pending
flag (R73, R77). The Fault and Alert Unit takes the faults `fs`, then those of the start, and the alert events of `P`. -/
def Triggered (m : Master) (fs : List FaultInfo) (P : AlertClass → Prop) (s t : State) : Prop :=
  if m = .coordinating ∧ s.band.inFlight = none then
    ∃ x, t.band = { s.band with inFlight := some x, recompute := false, number := s.band.number + 1 } ∧
      x.StartsAt (s.band.number + 1) t ∧ Raises (fs ++ x.poisonUsed) P s t
  else t.band = { s.band with recompute := true } ∧ Raises fs P s t

/-- The requests that need SUPERVISORY class, with bodies of the length their kind asks, and the frame that carries each
(chapter 11, section 11.5; R185). -/
inductive SupervisoryRequest (p : PortId) (tag : Byte) : Instr → Frame → Prop where
  | chainLink (a b c : Byte) : SupervisoryRequest p tag (.chainLink p tag [a, b, c]) ⟨1, tag, [a, b, c]⟩
  | enrol (a b : Byte) : SupervisoryRequest p tag (.enrol p tag [a, b]) ⟨2, tag, [a, b]⟩
  | exclude (a b : Byte) : SupervisoryRequest p tag (.exclude p tag [a, b]) ⟨3, tag, [a, b]⟩
  | planOpen (b : List Byte) (h : b.length = 17) : SupervisoryRequest p tag (.planOpen p tag b) ⟨4, tag, b⟩
  | planEntry (b : List Byte) (h : b.length = 11) : SupervisoryRequest p tag (.planEntry p tag b) ⟨5, tag, b⟩
  | planClose (a : Byte) : SupervisoryRequest p tag (.planClose p tag [a]) ⟨6, tag, [a]⟩
  | planDrop (a : Byte) : SupervisoryRequest p tag (.planDrop p tag [a]) ⟨7, tag, [a]⟩
  | planLock (a : Byte) : SupervisoryRequest p tag (.planLock p tag [a]) ⟨8, tag, [a]⟩
  | planUnlock (a : Byte) : SupervisoryRequest p tag (.planUnlock p tag [a]) ⟨9, tag, [a]⟩
  | planSelect (a : Byte) : SupervisoryRequest p tag (.planSelect p tag [a]) ⟨10, tag, [a]⟩
  | start : SupervisoryRequest p tag (.start p tag []) ⟨11, tag, []⟩
  | stop : SupervisoryRequest p tag (.stop p tag []) ⟨12, tag, []⟩
  | fallback : SupervisoryRequest p tag (.fallback p tag []) ⟨15, tag, []⟩
  | policy (a : Byte) : SupervisoryRequest p tag (.policy p tag [a]) ⟨16, tag, [a]⟩
  | timebase (a : Byte) : SupervisoryRequest p tag (.timebase p tag [a]) ⟨17, tag, [a]⟩
  | beaconSet (a b : Byte) : SupervisoryRequest p tag (.beaconSet p tag [a, b]) ⟨18, tag, [a, b]⟩
  | compute : SupervisoryRequest p tag (.compute p tag []) ⟨19, tag, []⟩
  | vectorSet (v c h1 h0 n : Byte) (l : List Byte) (h : l.length = 2 * n.toNat) :
      SupervisoryRequest p tag (.vectorSet p tag (v :: c :: h1 :: h0 :: n :: l)) ⟨20, tag, v :: c :: h1 :: h0 :: n :: l⟩
  | lineSet (a b c d : Byte) (time : Nat) :
      SupervisoryRequest p tag (.lineSet p tag ⟨[a, b, c, d], time⟩) ⟨21, tag, [a, b, c, d]⟩
  | faultClear : SupervisoryRequest p tag (.faultClear p tag []) ⟨24, tag, []⟩
  | alertEnable (b : List Byte) (h : b.length = 9) : SupervisoryRequest p tag (.alertEnable p tag b) ⟨25, tag, b⟩
  | restart : SupervisoryRequest p tag (.restart p tag []) ⟨27, tag, []⟩
  | erase : SupervisoryRequest p tag (.erase p tag []) ⟨28, tag, []⟩

/-- The requests whose body has a fixed length, with the frame that carries each and that length (R180, R185). -/
inductive FixedRequest (p : PortId) (tag : Byte) (b : List Byte) : Instr → Frame → Nat → Prop where
  | chainLink : FixedRequest p tag b (.chainLink p tag b) ⟨1, tag, b⟩ 3
  | enrol : FixedRequest p tag b (.enrol p tag b) ⟨2, tag, b⟩ 2
  | exclude : FixedRequest p tag b (.exclude p tag b) ⟨3, tag, b⟩ 2
  | planOpen : FixedRequest p tag b (.planOpen p tag b) ⟨4, tag, b⟩ 17
  | planEntry : FixedRequest p tag b (.planEntry p tag b) ⟨5, tag, b⟩ 11
  | planClose : FixedRequest p tag b (.planClose p tag b) ⟨6, tag, b⟩ 1
  | planDrop : FixedRequest p tag b (.planDrop p tag b) ⟨7, tag, b⟩ 1
  | planLock : FixedRequest p tag b (.planLock p tag b) ⟨8, tag, b⟩ 1
  | planUnlock : FixedRequest p tag b (.planUnlock p tag b) ⟨9, tag, b⟩ 1
  | planSelect : FixedRequest p tag b (.planSelect p tag b) ⟨10, tag, b⟩ 1
  | start : FixedRequest p tag b (.start p tag b) ⟨11, tag, b⟩ 0
  | stop : FixedRequest p tag b (.stop p tag b) ⟨12, tag, b⟩ 0
  | hold : FixedRequest p tag b (.hold p tag b) ⟨13, tag, b⟩ 0
  | resume : FixedRequest p tag b (.resume p tag b) ⟨14, tag, b⟩ 0
  | fallback : FixedRequest p tag b (.fallback p tag b) ⟨15, tag, b⟩ 0
  | policy : FixedRequest p tag b (.policy p tag b) ⟨16, tag, b⟩ 1
  | timebase : FixedRequest p tag b (.timebase p tag b) ⟨17, tag, b⟩ 1
  | beaconSet : FixedRequest p tag b (.beaconSet p tag b) ⟨18, tag, b⟩ 2
  | compute : FixedRequest p tag b (.compute p tag b) ⟨19, tag, b⟩ 0
  | lineSet (time : Nat) : FixedRequest p tag b (.lineSet p tag ⟨b, time⟩) ⟨21, tag, b⟩ 4
  | preCall : FixedRequest p tag b (.preCall p tag b) ⟨22, tag, b⟩ 1
  | preClear : FixedRequest p tag b (.preClear p tag b) ⟨23, tag, b⟩ 1
  | faultClear : FixedRequest p tag b (.faultClear p tag b) ⟨24, tag, b⟩ 0
  | alertEnable : FixedRequest p tag b (.alertEnable p tag b) ⟨25, tag, b⟩ 9
  | restart : FixedRequest p tag b (.restart p tag b) ⟨27, tag, b⟩ 0
  | erase : FixedRequest p tag b (.erase p tag b) ⟨28, tag, b⟩ 0
  | qStatus : FixedRequest p tag b (.qStatus p tag b) ⟨29, tag, b⟩ 0
  | qChain : FixedRequest p tag b (.qChain p tag b) ⟨30, tag, b⟩ 0
  | qJunction : FixedRequest p tag b (.qJunction p tag b) ⟨31, tag, b⟩ 1
  | qPlan : FixedRequest p tag b (.qPlan p tag b) ⟨32, tag, b⟩ 1
  | qPool : FixedRequest p tag b (.qPool p tag b) ⟨33, tag, b⟩ 2
  | qMeasure : FixedRequest p tag b (.qMeasure p tag b) ⟨34, tag, b⟩ 1
  | qBand : FixedRequest p tag b (.qBand p tag b) ⟨35, tag, b⟩ 0
  | qPre : FixedRequest p tag b (.qPre p tag b) ⟨36, tag, b⟩ 0
  | qFault : FixedRequest p tag b (.qFault p tag b) ⟨37, tag, b⟩ 0
  | qAlert : FixedRequest p tag b (.qAlert p tag b) ⟨38, tag, b⟩ 0

/-- A command that carries a request, of whatever body, and its frame. -/
inductive Carries (p : PortId) (tag : Byte) (b : List Byte) : Instr → Frame → Prop where
  | fixed (c : Instr) (f : Frame) (n : Nat) (h : FixedRequest p tag b c f n) : Carries p tag b c f
  | vectorSet : Carries p tag b (.vectorSet p tag b) ⟨20, tag, b⟩
  | alertClear : Carries p tag b (.alertClear p tag b) ⟨26, tag, b⟩
  | unknown (kind : Byte) (h : kind.toNat = 0 ∨ 38 < kind.toNat) : Carries p tag b (.unknownKind p kind tag b) ⟨kind, tag, b⟩

end Sys2Proof.Machine

open Sys2Proof Sys2Proof.Machine

/-! ### The step and the queue -/

/-- A step runs the command at the front of the queue, on the state with the queue's rest. -/
def Obligations.StepRunsFrontCommand : Prop :=
  ∀ (s : State) (c : Instr) (rest : List Instr), step { s with pending := c :: rest } = exec c { s with pending := rest }

/-- No command touches the queue of waiting commands. -/
def Obligations.CommandsKeepQueue : Prop :=
  ∀ (c : Instr) (s t : State), exec c s = .next t → t.pending = s.pending

/-- Without supply nothing but POWER_ON and the level of an input pin changes the part. This is the model's choice: the manual says
nothing of a command that reaches a part without supply (assumptions 4 and 21). -/
def Obligations.UnpoweredPartIsInert : Prop :=
  ∀ (c : Instr) (s : State), s.powered = false → c ≠ .powerOn → (∀ l h t, c ≠ .lineInputChange l h t) → exec c s = .next s

/-! ### Taking a request -/

/-- Taking a request and the checks made before the owning block (R179, R180). With supply a port without a request in progress can take
its oldest complete frame, and an empty one a frame that arrives with the command (assumption 6). A request whose port has another one in
progress, or that is not the oldest complete frame, is not taken and changes nothing, nor does UNKNOWN_KIND of a request kind
(assumption 4). Of one that is taken: a kind that is 0 or above 38 is answered UNKNOWN_KIND; a body that does not fit its kind, from
either sender class, BAD_FORMAT; a FIELD sender's request that needs SUPERVISORY class, CLASS. Each changes nothing but its port. A
reply's kind is the request's kind plus 128; for a kind above 127 it is open (assumption 8). -/
def Obligations.ChecksBeforeTheOwner : Prop :=
  (∀ (s : State) (p : PortId) (f : Frame), s.powered = true → (s.port p).inProgress = none →
    (∀ rest, (s.port p).frames = f :: rest → s.CanTake p f { s.port p with frames := rest }) ∧
    ((s.port p).frames = [] → (s.port p).receiving = [] → f.body.length ≤ 248 → s.CanTake p f (s.port p))) ∧
  (∀ (s : State) (p : PortId) (tag : Byte) (b : List Byte) (c : Instr) (f : Frame), Carries p tag b c f →
    ((s.port p).inProgress.isSome = true ∨ (∃ g rest, (s.port p).frames = g :: rest ∧ g ≠ f) ∨
      (s.port p).frames = [] ∧ ((s.port p).receiving ≠ [] ∨ 248 < b.length)) →
    exec c s = .next s) ∧
  (∀ (s : State) (p : PortId) (kind tag : Byte) (b : List Byte), 1 ≤ kind.toNat ∧ kind.toNat ≤ 38 →
    exec (.unknownKind p kind tag b) s = .next s) ∧
  (∀ (s : State) (p : PortId) (kind tag : Byte) (b : List Byte) (q : Port),
    (kind.toNat = 0 ∨ 38 < kind.toNat) → s.CanTake p ⟨kind, tag, b⟩ q →
      ∃ k, (kind.toNat < 128 → k = kind + 128) ∧
        exec (.unknownKind p kind tag b) s = .next (s.setPort p { q with
          inProgress := some
            { kind, tag, cls := s.senderClass p, reply := { kind := k, tag, code := .unknownKind, result := [] } } })) ∧
  (∀ (s : State) (p : PortId) (tag : Byte) (b : List Byte) (c : Instr) (f : Frame) (n : Nat) (q : Port),
    FixedRequest p tag b c f n → b.length ≠ n → s.CanTake p f q →
      exec c s = .next (s.replying p q f (s.senderClass p) .badFormat [])) ∧
  (∀ (s : State) (p : PortId) (tag : Byte) (b : List Byte) (q : Port),
    ((∀ v c h1 h0 n l, b = v :: c :: h1 :: h0 :: n :: l → l.length ≠ 2 * n.toNat) → s.CanTake p ⟨20, tag, b⟩ q →
      exec (.vectorSet p tag b) s = .next (s.replying p q ⟨20, tag, b⟩ (s.senderClass p) .badFormat [])) ∧
    ((∀ n l, b = n :: l → l.length ≠ n.toNat) → s.CanTake p ⟨26, tag, b⟩ q →
      exec (.alertClear p tag b) s = .next (s.replying p q ⟨26, tag, b⟩ (s.senderClass p) .badFormat []))) ∧
  ∀ (s : State) (tag : Byte) (c : Instr) (f : Frame) (q : Port),
    SupervisoryRequest .field tag c f → s.ctl.keyLine.active = false → s.CanTake .field f q →
      exec c s = .next (s.replying .field q f .field .senderClass [])

/-! ### The Chain Table -/

/-- CHAIN-LINK (R4): the class, the ranges, the master states, the length replaced and written through, and nothing else. That the
length stands in the body high byte first is the model's reading (assumption 41). -/
def Obligations.ChainLinkRule : Prop :=
  ∀ (s : State) (p : PortId) (tag l hi lo : Byte) (q : Port), s.CanTake p ⟨1, tag, [l, hi, lo]⟩ q →
    let n := hi.toNat * 256 + lo.toNat
    let answer := fun (t : State) code => t.replying p q ⟨1, tag, [l, hi, lo]⟩ (s.senderClass p) code []
    exec (.chainLink p tag [l, hi, lo]) s = .next
      (if s.senderClass p = .field then answer s .senderClass
      else if h : 1 ≤ l.toNat ∧ l.toNat ≤ 23 then
        let k : LinkIx := ⟨l.toNat - 1, by omega⟩
        if ¬(n = 0 ∨ 30 ≤ n ∧ n ≤ 3000) then answer s .badValue
        else if s.ctl.master ≠ .idle ∧ s.ctl.master ≠ .fallback then answer s .state
        else if (s.linkRec k).length = n then answer s .ok
        else
          answer
            ({ s with links := s.links.set k.val { s.linkRec k with length := n } k.isLt }.written p
              { s.store with lengths := s.store.lengths.set k.val n k.isLt }) .ok
      else answer s .badValue)

/-- The checks of ENROL in their order, each refusal with its code and no other change (R6). `wouldSpan` is the span with the
position enrolled. -/
def Obligations.EnrolChecks : Prop :=
  ∀ (s : State) (port : PortId) (tag a d : Byte) (q : Port), s.CanTake port ⟨2, tag, [a, d]⟩ q →
    s.senderClass port = .supervisory →
    let refuse := fun code => Host.Outcome.next (s.replying port q ⟨2, tag, [a, d]⟩ .supervisory code [])
    (¬(1 ≤ a.toNat ∧ a.toNat ≤ 24) ∨ 31 < d.toNat → exec (.enrol port tag [a, d]) s = refuse .badValue) ∧
    ∀ p : Pos, a.toNat = p.val + 1 → d.toNat ≤ 31 →
      let e := (s.posRec p).enrolment
      let taken := d.toNat ≠ 0 ∧ ∃ o, o ≠ p ∧ (s.posRec o).enrolment.drop = some d.toNat
      let covered := (s.plans.entryOf s.plans.active p).isSome = true ∧
        ∀ i, s.plans.pendingSlot = some i → (s.plans.entryOf i p).isSome = true
      let wouldSpan := s.spanComplete (allPos.filter fun o => s.isEnrolled o || o == p) = true
      (e = .vacant ∧ d.toNat = 0 ∨ taken → exec (.enrol port tag [a, d]) s = refuse .badValue) ∧
      (¬(e = .vacant ∧ d.toNat = 0) → ¬taken →
        (∀ held, e = .enrolled held → exec (.enrol port tag [a, d]) s =
          refuse (if d.toNat ≠ 0 ∧ d.toNat ≠ held then .state else .ok)) ∧
        (e.isEnrolled = false → ¬covered ∨ s.ctl.master.runs = true ∧ ¬wouldSpan →
          exec (.enrol port tag [a, d]) s = refuse .mismatch) ∧
        (e.isEnrolled = false → covered → (s.ctl.master.runs = true → wouldSpan) →
          ∃ t, exec (.enrol port tag [a, d]) s = .next t ∧
            (t.port port).inProgress.map (·.reply) = some ⟨130, tag, .ok, []⟩))

/-- An accepted ENROL (R7, R11, R113, R119): the position is ENROLLED at the address given or kept, its seek, health and
availability start afresh, the membership generation is incremented, the change is written through, a computation is
triggered; no other position changes, nor any part but the Band Computer and the Fault and Alert Unit. That the enrolment of a LOST
position raises JUNCTION, as a change of health from LOST to ONLINE, is the model's reading (assumption 19). -/
def Obligations.EnrolAccepted : Prop :=
  ∀ (s : State) (port : PortId) (tag a d : Byte) (q : Port) (p : Pos) (drop : Nat),
    s.CanTake port ⟨2, tag, [a, d]⟩ q → s.senderClass port = .supervisory → a.toNat = p.val + 1 → d.toNat ≤ 31 →
    (d.toNat ≠ 0 → s.dropTaken p d.toNat = false) →
    ((s.posRec p).enrolment = .vacant ∧ d.toNat = drop ∧ drop ≠ 0 ∨
      ∃ held c, (s.posRec p).enrolment = .excluded held c ∧ drop = if d.toNat = 0 then held else d.toNat) →
    s.mayEnrol p = true →
    ∃ t, exec (.enrol port tag [a, d]) s = .next t ∧
      (let r := t.posRec p
       r.enrolment = .enrolled drop ∧ r.misses = 0 ∧ r.health = .online ∧ r.available = false ∧ r.target = none ∧
        r.running = none ∧ r.travel = none ∧ r.reload = true ∧ r.tagSeen = none ∧ r.correction = 0 ∧
        r.seek = (if s.ctl.master.runs then .seeking else .idle) ∧ r.mode = (s.posRec p).mode ∧
        r.owner = (s.posRec p).owner ∧ r.claims = (s.posRec p).claims ∧ r.spent = (s.posRec p).spent ∧
        r.sent = (s.posRec p).sent) ∧
      (∀ o, o ≠ p → t.posRec o = s.posRec o) ∧ (∀ r, r ≠ port → t.port r = s.port r) ∧ t.memGen = s.memGen + 1 ∧
      t.store = { s.store with chain := s.store.chain.set p.val (.enrolled drop) p.isLt } ∧
      t.unfinished = some { before := s.store, port := some port } ∧
      Triggered s.ctl.master [] (fun c => c = .junction ∧ (s.posRec p).health = .lost) s t ∧
      t.port port = { q with
        inProgress := some ⟨2, tag, .supervisory, ⟨130, tag, .ok, []⟩⟩ } ∧
      t.links = s.links ∧ t.plans = s.plans ∧ t.clock = s.clock ∧ t.meas = s.meas ∧ t.trunk = s.trunk ∧ t.pre = s.pre ∧
      t.ctl = s.ctl ∧ t.powered = s.powered ∧ t.now = s.now ∧ t.pending = s.pending

/-- The checks of EXCLUDE in their order, each refusal with its code and no other change (R8). -/
def Obligations.ExcludeChecks : Prop :=
  ∀ (s : State) (port : PortId) (tag a v : Byte) (q : Port), s.CanTake port ⟨3, tag, [a, v]⟩ q →
    s.senderClass port = .supervisory →
    let refuse := fun code => Host.Outcome.next (s.replying port q ⟨3, tag, [a, v]⟩ .supervisory code [])
    (¬(1 ≤ a.toNat ∧ a.toNat ≤ 24) ∨ 1 < v.toNat → exec (.exclude port tag [a, v]) s = refuse .badValue) ∧
    ∀ p : Pos, a.toNat = p.val + 1 → v.toNat ≤ 1 →
      let r := s.posRec p
      (r.enrolment = .vacant → v.toNat = 0 → exec (.exclude port tag [a, v]) s = refuse .state) ∧
      (r.enrolment.isEnrolled = true →
        r.owner.isSome = true ∨ s.ctl.master.runs = true ∧ s.enrolledCount < 3 →
        exec (.exclude port tag [a, v]) s = refuse .state) ∧
      (¬(r.enrolment = .vacant ∧ v.toNat = 0) →
        ¬(r.enrolment.isEnrolled = true ∧
          (r.owner.isSome = true ∨ s.ctl.master.runs = true ∧ s.enrolledCount < 3)) →
        ∃ t, exec (.exclude port tag [a, v]) s = .next t ∧
          (t.port port).inProgress.map (·.reply) = some ⟨131, tag, .ok, []⟩)

/-- An accepted EXCLUDE by the five rows of R9 (with R113, R119). ENROLLED: EXCLUDED by the operator with the address kept, or VACANT;
the seek cleared, available no, the miss count and health kept or (VACANT) started afresh, the order kept or (VACANT) removed, the
generation incremented, the change written through, a computation triggered. EXCLUDED, vacate no: a cause LOST becomes OPERATOR,
written through; a cause OPERATOR changes nothing. EXCLUDED, vacate yes: VACANT, written through, the miss count and health started
afresh, the order removed, the generation kept. VACANT, vacate yes: nothing. No other position changes, nor any other part. That
vacating a LOST position raises JUNCTION, as a change of health from LOST to ONLINE, is the model's reading (assumption 19). -/
def Obligations.ExcludeAccepted : Prop :=
  ∀ (s : State) (port : PortId) (tag a v : Byte) (q : Port) (p : Pos),
    s.CanTake port ⟨3, tag, [a, v]⟩ q → s.senderClass port = .supervisory → a.toNat = p.val + 1 → v.toNat ≤ 1 →
    let r := s.posRec p
    let answer := fun (t : State) => Host.Outcome.next (t.replying port q ⟨3, tag, [a, v]⟩ .supervisory .ok [])
    let stored := fun (e : Enrolment) (t : State) =>
      t.written port { s.store with chain := s.store.chain.set p.val e p.isLt }
    let fresh := fun (c : AlertClass) => c = .junction ∧ v.toNat = 1 ∧ r.health = .lost
    (∀ drop, r.enrolment = .enrolled drop → r.owner = none → (s.ctl.master.runs = true → 3 ≤ s.enrolledCount) →
      let e : Enrolment := if v.toNat = 1 then .vacant else .excluded drop .operator
      let r' : PosRec := { r with
        enrolment := e, available := false, target := none, running := none, travel := none, seek := .idle, correction := 0
        misses := if v.toNat = 1 then 0 else r.misses, health := if v.toNat = 1 then .online else r.health }
      ∃ t, exec (.exclude port tag [a, v]) s = answer t ∧
        t.pos = s.pos.set p.val r' p.isLt ∧
        t.trunk = { s.trunk with
          orders := if v.toNat = 1 then s.trunk.orders.set p.val none p.isLt else s.trunk.orders } ∧
        Triggered s.ctl.master [] fresh s t ∧ t.pre = s.pre ∧ t.ctl = s.ctl ∧
        t.kept =
          (stored e { s.setPort port q with pos := t.pos, memGen := s.memGen + 1 }).kept) ∧
    (∀ drop, r.enrolment = .excluded drop .operator → v.toNat = 0 → exec (.exclude port tag [a, v]) s = answer s) ∧
    (∀ drop, r.enrolment = .excluded drop .lost → v.toNat = 0 →
      exec (.exclude port tag [a, v]) s = answer (stored (.excluded drop .operator)
        { s with pos := s.pos.set p.val { r with enrolment := .excluded drop .operator } p.isLt })) ∧
    (∀ drop cause, r.enrolment = .excluded drop cause → v.toNat = 1 →
      ∃ t, exec (.exclude port tag [a, v]) s = answer t ∧
        t.pos = s.pos.set p.val
          { r with enrolment := .vacant, available := false, misses := 0, health := .online } p.isLt ∧
        t.trunk = { s.trunk with orders := s.trunk.orders.set p.val none p.isLt } ∧
        Raises [] fresh s t ∧ t.band = s.band ∧ t.pre = s.pre ∧ t.ctl = s.ctl ∧
        t.kept = (stored .vacant { s.setPort port q with pos := t.pos }).kept) ∧
    (r.enrolment = .vacant → v.toNat = 1 → exec (.exclude port tag [a, v]) s = answer s)

/-! ### The Plan Store -/

namespace Sys2Proof.Machine

/-- The body of a PLAN-OPEN has every field in range and the conditions across fields hold (R19; R22, check 1). The numbers of the
enumerated bytes are assumption 42. -/
structure OpenBody.Legal (o : OpenBody) : Prop where
  count : 1 ≤ o.count ∧ o.count ≤ 24
  c : 300 ≤ o.c ∧ o.c ≤ 2400
  mode : o.mode.toNat ≤ 2
  tidal : if o.mode.toNat = 2 then o.tidalStart ≤ 1 else o.tidalStart = 2
  speedMin : 10 ≤ o.speedMin ∧ o.speedMin ≤ 100
  speedMax : 10 ≤ o.speedMax ∧ o.speedMax ≤ 100
  speedIn : 15 ≤ o.speedIn ∧ o.speedIn ≤ 90 ∧ o.speedMin ≤ o.speedIn ∧ o.speedIn ≤ o.speedMax
  speedOut : 15 ≤ o.speedOut ∧ o.speedOut ≤ 90 ∧ o.speedMin ≤ o.speedOut ∧ o.speedOut ≤ o.speedMax
  headway : 10 ≤ o.headway ∧ o.headway ≤ 40
  slideStep : 1 ≤ o.slideStep ∧ o.slideStep ≤ 50
  origin : o.origin < o.c
  adaptive : o.adaptive ≤ 1
  lengthen : o.lengthen ≤ 30
  shorten : o.shorten ≤ 20

/-- The header an accepted PLAN-OPEN writes, its run starting at `base` (R19, R22). -/
structure Header.FromBody (h : Header) (o : OpenBody) (base : Nat) : Prop where
  c : h.c = o.c
  mode : h.mode.code = o.mode
  tidal : h.tidalStart.map Dir.code = if o.tidalStart = 2 then none else some (byte o.tidalStart)
  speeds : h.speedIn = o.speedIn ∧ h.speedOut = o.speedOut ∧ h.speedMin = o.speedMin ∧ h.speedMax = o.speedMax
  headway : h.headway = o.headway
  slideStep : h.slideStep = o.slideStep
  origin : h.origin = o.origin
  adaptive : h.adaptive = true ↔ o.adaptive = 0
  limits : h.lengthen = o.lengthen ∧ h.shorten = o.shorten
  run : h.base = base ∧ h.count = o.count

/-- The run of `n` pool entries from `base` lies in the pool and meets the run of no slot but slot `i` (R21; R22, check 5). -/
def PlanStore.Fits (ps : PlanStore) (i : SlotIx) (n base : Nat) : Prop :=
  base + n ≤ 256 ∧ ∀ j, j ≠ i → ∀ r, (ps.slot j).body.run = some r → base + n ≤ r.base ∨ r.base + r.count ≤ base

/-- What is wrong with entry `k` of a load, by the checks of PLAN-CLOSE in their order (R24). -/
def entryFault (c : Nat) (es : List (Option Entry)) (k : Nat) : Option CloseFailure :=
  match es[k]? with
  | none => none
  | some none => some .unwritten
  | some (some e) =>
    let green := fun (w : Window) => 100 ≤ greenLength w.s w.e c ∧ greenLength w.s w.e c + 100 ≤ c
    if ¬green e.inb ∨ ¬green e.outb then some .green
    else
      match k with
      | 0 => none
      | j + 1 =>
        match es[j]? with
        | some (some f) => if e.position ≤ f.position then some .order else none
        | _ => none

/-- `s` with slot `i` replaced. -/
def State.withSlot (s : State) (i : SlotIx) (x : Slot) : State :=
  { s with plans := { s.plans with slots := s.plans.slots.set i.val x i.isLt } }

/-- `s` with slot `i` of the store written as EMPTY by port `p` (R35). -/
def State.storesEmpty (s : State) (p : PortId) (i : SlotIx) : State :=
  s.written p { s.store with
    slots := s.store.slots.set i.val
      { locked := (s.plans.slot i).locked, gen := (s.plans.slot i).gen, plan := none } i.isLt }

end Sys2Proof.Machine

/-- PLAN-OPEN (R22): the five checks in order; the run placed first-fit; the header, the OPEN state and the unwritten marks; the
slot written through as EMPTY when it was READY; the reply with the base; nothing else. That C and the band origin stand in the body
high byte first, and the numbers of its enumerated bytes, are the model's reading (assumptions 41 and 42). -/
def Obligations.PlanOpenRule : Prop :=
  ∀ (s : State) (p : PortId) (tag : Byte) (b : List Byte) (o : OpenBody) (q : Port),
    openBody b = some o → s.CanTake p ⟨4, tag, b⟩ q → s.senderClass p = .supervisory →
    let answer := fun (t : State) code result =>
      Host.Outcome.next (t.replying p q ⟨4, tag, b⟩ .supervisory code result)
    (¬(o.slot < 16) ∨ ¬o.Legal → exec (.planOpen p tag b) s = answer s .badValue []) ∧
    ∀ i : SlotIx, o.slot = i.val → o.Legal →
      let x := s.plans.slot i
      let used := s.plans.active = i ∨ s.plans.pendingSlot = some i
      let busy := ∃ h r es, x.body = .loading h r es ∧ r ≠ p
      (x.locked = true → exec (.planOpen p tag b) s = answer s .locked []) ∧
      (x.locked = false → used → exec (.planOpen p tag b) s = answer s .state []) ∧
      (x.locked = false → ¬used → busy → exec (.planOpen p tag b) s = answer s .busy []) ∧
      (x.locked = false → ¬used → ¬busy → (∀ base, ¬s.plans.Fits i o.count base) →
        exec (.planOpen p tag b) s = answer s .noRoom []) ∧
      ∀ base, x.locked = false → ¬used → ¬busy → s.plans.Fits i o.count base →
        (∀ lower, lower < base → ¬s.plans.Fits i o.count lower) →
        ∃ h : Header, h.FromBody o base ∧
          exec (.planOpen p tag b) s =
            answer
              ((if x.body.isReady then s.storesEmpty p i else s).withSlot i
                { x with body := .loading h p (List.replicate o.count none) })
              .ok [byte base]

/-- PLAN-ENTRY (R23): the four checks in order, the entry written, and nothing else; no store write. That the window ends stand in the
body high byte first is the model's reading (assumption 41). -/
def Obligations.PlanEntryRule : Prop :=
  ∀ (s : State) (p : PortId) (tag : Byte) (b : List Byte) (o : EntryBody) (q : Port),
    entryBody b = some o → s.CanTake p ⟨5, tag, b⟩ q → s.senderClass p = .supervisory →
    let answer := fun (t : State) code => Host.Outcome.next (t.replying p q ⟨5, tag, b⟩ .supervisory code [])
    (16 ≤ o.slot → exec (.planEntry p tag b) s = answer s .badValue) ∧
    ∀ i : SlotIx, o.slot = i.val →
      let x := s.plans.slot i
      ((∀ h r es, x.body ≠ .loading h r es) → exec (.planEntry p tag b) s = answer s .state) ∧
      ∀ h r es, x.body = .loading h r es →
        let legal := o.index < h.count ∧ 1 ≤ o.position ∧ o.position ≤ 24 ∧ o.inb.s < h.c ∧ o.inb.e < h.c ∧
          o.outb.s < h.c ∧ o.outb.e < h.c
        (r ≠ p → exec (.planEntry p tag b) s = answer s .busy) ∧
        (r = p → ¬legal → exec (.planEntry p tag b) s = answer s .badValue) ∧
        (r = p → legal →
          exec (.planEntry p tag b) s =
            answer
              (s.withSlot i
                { x with body := .loading h p (es.set o.index (some ⟨o.position, o.inb, o.outb⟩)) })
              .ok)

/-- PLAN-CLOSE (R24): checks 1 to 3 of R23; the first failing entry and its reason, with the slot left OPEN; otherwise the slot
READY, its generation one up, the plan written through, the PLAN alert, the reply with the new generation; nothing else. The reason
bytes 0 (not written), 1 (green) and 2 (order) are the model's reading (assumption 29). -/
def Obligations.PlanCloseRule : Prop :=
  ∀ (s : State) (p : PortId) (tag n : Byte) (q : Port), s.CanTake p ⟨6, tag, [n]⟩ q →
    s.senderClass p = .supervisory →
    let answer := fun (t : State) code result =>
      Host.Outcome.next (t.replying p q ⟨6, tag, [n]⟩ .supervisory code result)
    (16 ≤ n.toNat → exec (.planClose p tag [n]) s = answer s .badValue []) ∧
    ∀ i : SlotIx, n.toNat = i.val →
      let x := s.plans.slot i
      ((∀ h r es, x.body ≠ .loading h r es) → exec (.planClose p tag [n]) s = answer s .state []) ∧
      ∀ h r es, x.body = .loading h r es →
        (r ≠ p → exec (.planClose p tag [n]) s = answer s .busy []) ∧
        (∀ k f, r = p → entryFault h.c es k = some f → (∀ j, j < k → entryFault h.c es j = none) →
          exec (.planClose p tag [n]) s =
            answer s .badValue [byte k, match f with | .unwritten => 0 | .green => 1 | .order => 2]) ∧
        (r = p → (∀ k, entryFault h.c es k = none) →
          let plan := es.filterMap id
          es = plan.map some ∧
          exec (.planClose p tag [n]) s =
            answer
              (((s.withSlot i ⟨x.locked, x.gen + 1, .ready h plan⟩).written p
                { s.store with slots := s.store.slots.set i.val ⟨x.locked, x.gen + 1, some ⟨h, plan⟩⟩ i.isLt }).alert .plan)
              .ok [x.gen + 1])

/-- PLAN-DROP (R25): the three checks in order, and the effect by the slot's state, the generation kept, nothing else. -/
def Obligations.PlanDropRule : Prop :=
  ∀ (s : State) (p : PortId) (tag n : Byte) (q : Port), s.CanTake p ⟨7, tag, [n]⟩ q →
    s.senderClass p = .supervisory →
    let answer := fun (t : State) code => Host.Outcome.next (t.replying p q ⟨7, tag, [n]⟩ .supervisory code [])
    (16 ≤ n.toNat → exec (.planDrop p tag [n]) s = answer s .badValue) ∧
    ∀ i : SlotIx, n.toNat = i.val →
      let x := s.plans.slot i
      let used := s.plans.active = i ∨ s.plans.pendingSlot = some i
      (x.locked = true → exec (.planDrop p tag [n]) s = answer s .locked) ∧
      (x.locked = false → used → exec (.planDrop p tag [n]) s = answer s .state) ∧
      (x.locked = false → ¬used → x.body = .empty → exec (.planDrop p tag [n]) s = answer s .ok) ∧
      (∀ h r es, x.locked = false → ¬used → x.body = .loading h r es →
        exec (.planDrop p tag [n]) s = answer (s.withSlot i { x with body := .empty }) .ok) ∧
      ∀ h es, x.locked = false → ¬used → x.body = .ready h es →
        exec (.planDrop p tag [n]) s = answer ((s.storesEmpty p i).withSlot i { x with body := .empty }) .ok

/-- PLAN-LOCK and PLAN-UNLOCK (R26): the refusals, the flag, its write through when it changes, nothing else. -/
def Obligations.PlanLockRule : Prop :=
  ∀ (s : State) (p : PortId) (tag n : Byte) (q : Port),
    s.senderClass p = .supervisory →
    let answer := fun (k : Byte) (t : State) code =>
      Host.Outcome.next (t.replying p q ⟨k, tag, [n]⟩ .supervisory code [])
    let turned := fun (i : SlotIx) (b : Bool) =>
      (s.withSlot i { s.plans.slot i with locked := b }).written p
        { s.store with slots := s.store.slots.set i.val { s.store.slots.get i with locked := b } i.isLt }
    (s.CanTake p ⟨8, tag, [n]⟩ q →
      (16 ≤ n.toNat → exec (.planLock p tag [n]) s = answer 8 s .badValue) ∧
      ∀ i : SlotIx, n.toNat = i.val →
        let x := s.plans.slot i
        (x.body.isReady = false → exec (.planLock p tag [n]) s = answer 8 s .state) ∧
        (x.body.isReady = true → exec (.planLock p tag [n]) s =
          if x.locked then answer 8 s .ok else answer 8 (turned i true) .ok)) ∧
    (s.CanTake p ⟨9, tag, [n]⟩ q →
      (16 ≤ n.toNat → exec (.planUnlock p tag [n]) s = answer 9 s .badValue) ∧
      ∀ i : SlotIx, n.toNat = i.val →
        (i = 0 → exec (.planUnlock p tag [n]) s = answer 9 s .locked) ∧
        (i ≠ 0 → exec (.planUnlock p tag [n]) s =
          if (s.plans.slot i).locked then answer 9 (turned i false) .ok else answer 9 s .ok))

/-- PLAN-SELECT (R29): the three checks in order, the pending slot, no store write, nothing else. -/
def Obligations.PlanSelectRule : Prop :=
  ∀ (s : State) (p : PortId) (tag n : Byte) (q : Port), s.CanTake p ⟨10, tag, [n]⟩ q →
    s.senderClass p = .supervisory →
    let answer := fun (t : State) code => Host.Outcome.next (t.replying p q ⟨10, tag, [n]⟩ .supervisory code [])
    (16 ≤ n.toNat → exec (.planSelect p tag [n]) s = answer s .badValue) ∧
    ∀ i : SlotIx, n.toNat = i.val →
      let covered := ∀ o, s.isEnrolled o = true → ∃ e, s.plans.entryOf i o = some e ∧ e.position = o.val + 1
      ((s.plans.slot i).body.isReady = false → exec (.planSelect p tag [n]) s = answer s .state) ∧
      ((s.plans.slot i).body.isReady = true → ¬covered → exec (.planSelect p tag [n]) s = answer s .mismatch) ∧
      ((s.plans.slot i).body.isReady = true → covered →
        exec (.planSelect p tag [n]) s =
          answer { s with plans := { s.plans with pendingSlot := if i = s.plans.active then none else some i } } .ok)

/-! ### The master state -/

namespace Sys2Proof.Machine

/-- The causes of class TRANSIT end when the master leaves COORDINATING: `old` is the state it leaves (R152). -/
def State.endsBy (s : State) (old : Master) (v : VecIx) : Bool :=
  decide (old = .coordinating) && decide ((s.pre.vectors.get v).cls = .transit)

/-- The owner and the pending causes of position `o`, in rank order, that are left when those causes have ended (R148, R152). -/
def State.left (s : State) (old : Master) (o : Pos) : List VecIx :=
  ((s.posRec o).owner.toList ++ (s.posRec o).claims).filter fun v => !s.endsBy old v

/-- The owner of position `o` is one of those causes. -/
def State.losesOwner (s : State) (old : Master) (o : Pos) : Bool :=
  match (s.posRec o).owner with
  | some v => s.endsBy old v
  | none => false

/-- From `s` to `t` the TRANSIT causes end as the master leaves `old` (R152, R148): the cause records, the last ends, and of every
position that loses its owner the new owner, the pending set, the mode and the order: a PREEMPT of the highest cause left, or a
RELEASE. That owners and pending causes stand in rank order is `CauseLaw`. -/
structure TransitEnds (old : Master) (s t : State) : Prop where
  causes : ∀ v, t.pre.causes.get v = if s.endsBy old v then none else s.pre.causes.get v
  ends : ∀ v, t.pre.lastEnd.get v =
    if s.endsBy old v ∧ (s.pre.causes.get v).isSome = true then some .master else s.pre.lastEnd.get v
  settings : t.pre.vectors = s.pre.vectors ∧ t.pre.lines = s.pre.lines
  holders : ∀ o, (t.posRec o).owner = (s.left old o).head? ∧ (t.posRec o).claims = (s.left old o).tail ∧
    (t.posRec o).mode =
      if s.losesOwner old o then (if s.left old o = [] then .coordinated else .preempted) else (s.posRec o).mode
  orders : ∀ o, t.trunk.orders.get o =
    if s.losesOwner old o then
      match s.left old o with
      | [] => some ⟨.release, 0, false, false⟩
      | w :: _ => some ⟨.preempt w (s.pre.vectors.get w).cls ((s.pre.vectors.get w).phaseAt o), 0, false, false⟩
    else s.trunk.orders.get o

/-- The alert classes of a change of master state: STATE, PREEMPT when a TRANSIT cause ends by it, SEEK when a position enters IN_STEP
(R115, R143, R148, R165). -/
def MasterAlerts (old : Master) (s t : State) (c : AlertClass) : Prop :=
  c = .state ∨ c = .preempt ∧ (∃ v, s.endsBy old v = true ∧ (s.pre.causes.get v).isSome = true) ∨ c = .seek ∧ EntersStep s t

/-- From `s` to `t` the positions take the fall of the master from `old` to IDLE or FALLBACK (R112, R152): every target, direction and
remaining is gone, every round correction 0, an owned position SUSPENDED with return state IDLE, every other one IDLE; the TRANSIT
causes end; running offsets and every other field are kept. -/
structure SeeksFall (old : Master) (s t : State) : Prop where
  transit : TransitEnds old s t
  seeks : ∀ o, t.posRec o = { s.posRec o with
    owner := (t.posRec o).owner, claims := (t.posRec o).claims, mode := (t.posRec o).mode
    target := none, travel := none, correction := 0
    seek :=
      match (s.posRec o).seek with
      | .suspended _ => if s.left old o = [] then .idle else .suspended .idle
      | _ => .idle }

/-- From `s` to `t` the master falls to IDLE or FALLBACK (`m`) and the other blocks take the change; the faults `fs` are offered (R74,
R112, R152, R165). -/
structure FallsTo (m : Master) (fs : List FaultInfo) (s t : State) : Prop where
  ctl : t.ctl = { s.ctl with master := m }
  positions : SeeksFall s.ctl.master s t
  band : t.band = { s.band with
    recompute := false
    inFlight := s.band.inFlight.map fun x =>
      { x with interrupted := x.interrupted || decide (s.ctl.master = .coordinating) } }
  raised : Raises fs (MasterAlerts s.ctl.master s t) s t
  trunk : { t.trunk with orders := s.trunk.orders } = s.trunk
  kept : t.kept = s.kept

end Sys2Proof.Machine

/-- START (R157): the three checks in order; HOLD when a HOLD source is present, COORDINATING otherwise; every ENROLLED IDLE
position seeks, through the seek evaluation, and every SUSPENDED one takes return state SEEKING (R112); an entry into COORDINATING is a
trigger (R74); the reply names the state. The bytes 1 and 2 that name COORDINATING and HOLD are the model's reading (assumption 29).
That an IDLE position has no target or direction is `SeekLaw`. -/
def Obligations.StartRule : Prop :=
  ∀ (s : State) (p : PortId) (tag : Byte) (q : Port), s.CanTake p ⟨11, tag, []⟩ q →
    s.senderClass p = .supervisory →
    let answer := fun (t : State) code result =>
      Host.Outcome.next (t.replying p q ⟨11, tag, []⟩ .supervisory code result)
    let rest := s.ctl.master = .idle ∨ s.ctl.master = .fallback
    (¬rest → exec (.start p tag []) s = answer s .state []) ∧
    (rest → s.enrolledCount < 2 → exec (.start p tag []) s = answer s .mismatch []) ∧
    (rest → 2 ≤ s.enrolledCount → s.spanComplete s.enrolledList = false →
      exec (.start p tag []) s = answer s .mismatch []) ∧
    (rest → 2 ≤ s.enrolledCount → s.spanComplete s.enrolledList = true →
      let source := s.ctl.holdLine.active = true ∨ s.ctl.held = true
      ∃ t m, (source → m = .hold) ∧ (¬source → m = .coordinating) ∧
        exec (.start p tag []) s = answer t .ok [if m = .hold then 2 else 1] ∧
        t.ctl = { s.ctl with master := m } ∧
        (∀ o, let r := s.posRec o
          let r' := t.posRec o
          (r.seek = .idle → r.enrolment.isEnrolled = true → r'.travel = r.seekTravel s.plan ∧
            r'.seek = if r.target.isSome = true ∧ r.target = r.running then .inStep else .seeking) ∧
          (r.seek = .idle → r.enrolment.isEnrolled = false → r'.seek = .idle ∧ r'.travel = r.travel) ∧
          (∀ x, r.seek = .suspended x → r'.seek = .suspended .seeking ∧ r'.travel = r.travel) ∧
          (r.seek = .seeking ∨ r.seek = .inStep → r'.seek = r.seek ∧ r'.travel = r.travel) ∧
          r'.correction = r'.owed s.plan ∧
          { r' with seek := r.seek, travel := r.travel, correction := r.correction } = r) ∧
        (m = .hold → t.band = s.band ∧ Raises [] (MasterAlerts s.ctl.master s t) s t) ∧
        (m = .coordinating → Triggered m [] (MasterAlerts s.ctl.master s t) s t) ∧ t.pre = s.pre ∧ t.trunk = s.trunk ∧
        t.kept = (s.setPort p q).kept)

/-- STOP (R158): COORDINATING or HOLD falls to IDLE, IDLE is answered OK, FALLBACK and DETACHED refuse STATE. The held flag is
kept, and no fault is recorded. `CauseLaw` holds in every run. -/
def Obligations.StopRule : Prop :=
  ∀ (s : State) (p : PortId) (tag : Byte) (q : Port), s.CanTake p ⟨12, tag, []⟩ q →
    s.senderClass p = .supervisory →
    let answer := fun (t : State) code => Host.Outcome.next (t.replying p q ⟨12, tag, []⟩ .supervisory code [])
    (s.ctl.master = .idle → exec (.stop p tag []) s = answer s .ok) ∧
    (s.ctl.master = .fallback ∨ (∃ r, s.ctl.master = .detached r) → exec (.stop p tag []) s = answer s .state) ∧
    (s.ctl.master = .coordinating ∨ s.ctl.master = .hold →
      CauseLaw s → ∃ t, exec (.stop p tag []) s = answer t .ok ∧ FallsTo .idle [] (s.setPort p q) t)

/-- The FALLBACK request (R161): IDLE, COORDINATING and HOLD fall to FALLBACK with the fault FALLBACK_ENTERED, cause REQUEST;
FALLBACK is answered OK and DETACHED refuses STATE. `CauseLaw` holds in every run. -/
def Obligations.FallbackRule : Prop :=
  ∀ (s : State) (p : PortId) (tag : Byte) (q : Port), s.CanTake p ⟨15, tag, []⟩ q →
    s.senderClass p = .supervisory →
    let answer := fun (t : State) code => Host.Outcome.next (t.replying p q ⟨15, tag, []⟩ .supervisory code [])
    (s.ctl.master = .fallback → exec (.fallback p tag []) s = answer s .ok) ∧
    ((∃ r, s.ctl.master = .detached r) → exec (.fallback p tag []) s = answer s .state) ∧
    (s.ctl.master = .idle ∨ s.ctl.master = .coordinating ∨ s.ctl.master = .hold →
      CauseLaw s → ∃ t, exec (.fallback p tag []) s = answer t .ok ∧
        FallsTo .fallback [.fallbackEntered .request] (s.setPort p q) t)

namespace Sys2Proof.Machine

/-- From `s` to `t` a COORDINATING master enters HOLD or DETACHED (`m`): a computation in flight is interrupted and the TRANSIT causes
end. A position that no cause owns any more leaves its suspension, to IDLE or to the seek evaluation (R111); every other seek, and
every other field, is kept (R74, R112, R152, R159, R163). -/
structure Pauses (m : Master) (s t : State) : Prop where
  ctl : t.ctl = { s.ctl with master := m }
  band : t.band = { s.band with inFlight := s.band.inFlight.map fun x => { x with interrupted := true } }
  transit : TransitEnds .coordinating s t
  untouched : ∀ o, s.losesOwner .coordinating o = false → t.posRec o = { s.posRec o with claims := (t.posRec o).claims }
  lost : ∀ o, s.losesOwner .coordinating o = true →
    let r := s.posRec o
    let r' := t.posRec o
    r' = { r with owner := r'.owner, claims := r'.claims, mode := r'.mode, seek := r'.seek, travel := r'.travel
                  correction := r'.owed s.plan } ∧
      (s.left .coordinating o ≠ [] → r'.seek = r.seek ∧ r'.travel = r.travel) ∧
      ∀ ret, s.left .coordinating o = [] → r.seek = .suspended ret →
        (ret = .idle → r'.seek = .idle ∧ r'.travel = none) ∧
        (ret = .seeking → r'.travel = r.seekTravel s.plan ∧
          r'.seek = if r.target.isSome = true ∧ r.target = r.running then .inStep else .seeking)
  raised : Raises [] (MasterAlerts .coordinating s t) s t
  trunk : t.trunk = { s.trunk with
    orders := t.trunk.orders
    exchange := if m.isDetached then s.trunk.exchange.map fun x => { x with cut := true } else s.trunk.exchange }
  kept : t.kept = s.kept

/-- From `s` to `t` the master enters COORDINATING from HOLD: a trigger, and nothing else changes (R74, R160). -/
structure Resumes (s t : State) : Prop where
  ctl : t.ctl = { s.ctl with master := .coordinating }
  band : Triggered .coordinating [] (· = .state) s t
  others : t.pos = s.pos ∧ t.trunk = s.trunk ∧ t.pre = s.pre
  kept : t.kept = s.kept

/-- `s` with the held flag at `b`. -/
def State.withHeld (s : State) (b : Bool) : State := { s with ctl := { s.ctl with held := b } }

end Sys2Proof.Machine

/-- HOLD and RESUME (R159, R160), from either sender class: the held flag; COORDINATING enters HOLD; HOLD without a HOLD source
left enters COORDINATING; in every other case nothing else changes. `CauseLaw` holds in every run. -/
def Obligations.HoldResumeRule : Prop :=
  ∀ (s : State) (p : PortId) (tag : Byte) (q : Port),
    let answer := fun (k : Byte) (t : State) =>
      Host.Outcome.next (t.replying p q ⟨k, tag, []⟩ (s.senderClass p) .ok [])
    (s.CanTake p ⟨13, tag, []⟩ q →
      (s.ctl.master ≠ .coordinating → exec (.hold p tag []) s = answer 13 (s.withHeld true)) ∧
      (s.ctl.master = .coordinating →
        CauseLaw s → ∃ t, exec (.hold p tag []) s = answer 13 t ∧ Pauses .hold ((s.setPort p q).withHeld true) t)) ∧
    (s.CanTake p ⟨14, tag, []⟩ q →
      (s.ctl.master ≠ .hold ∨ s.ctl.holdLine.active = true →
        exec (.resume p tag []) s = answer 14 (s.withHeld false)) ∧
      (s.ctl.master = .hold → s.ctl.holdLine.active = false →
        ∃ t, exec (.resume p tag []) s = answer 14 t ∧ Resumes ((s.setPort p q).withHeld false) t))

/-- POLICY, BEACON-SET and TIMEBASE (R166, R51, R43): the value checks, the setting replaced and written through when it changes,
the timebase state as the table of R43 gives; nothing else. The layout of the bodies is the model's reading (assumption 30). -/
def Obligations.SettingsRule : Prop :=
  (∀ (s : State) (p : PortId) (tag : Byte) (q : Port), s.senderClass p = .supervisory →
    let answer := fun (f : Frame) (t : State) code => Host.Outcome.next (t.replying p q f .supervisory code [])
    (∀ n : Byte, s.CanTake p ⟨16, tag, [n]⟩ q →
      exec (.policy p tag [n]) s =
        if 1 < n.toNat then answer ⟨16, tag, [n]⟩ s .badValue
        else
          let x : Policy := if n.toNat = 0 then .strict else .tolerant
          if s.ctl.policy = x then answer ⟨16, tag, [n]⟩ s .ok
          else
            answer ⟨16, tag, [n]⟩
              ({ s with ctl := { s.ctl with policy := x } }.written p { s.store with policy := x }) .ok) ∧
    ∀ hi lo : Byte, s.CanTake p ⟨18, tag, [hi, lo]⟩ q →
      let n := hi.toNat * 256 + lo.toNat
      exec (.beaconSet p tag [hi, lo]) s =
        if n < 50 ∨ 600 < n then answer ⟨18, tag, [hi, lo]⟩ s .badValue
        else if s.clock.beaconInterval = n then answer ⟨18, tag, [hi, lo]⟩ s .ok
        else
          answer ⟨18, tag, [hi, lo]⟩
            ({ s with clock := { s.clock with beaconInterval := n } }.written p { s.store with beaconInterval := n }) .ok) ∧
  ∀ (s : State) (p : PortId) (tag n : Byte) (q : Port), s.CanTake p ⟨17, tag, [n]⟩ q →
      s.senderClass p = .supervisory →
      let answer := fun (t : State) code => Host.Outcome.next (t.replying p q ⟨17, tag, [n]⟩ .supervisory code [])
      let pref : Preference := if n.toNat = 0 then .preferReference else .internalOnly
      let moved := fun tb ds =>
        (({ s with clock := { s.clock with pref, tb, dsLength := ds } }.written p { s.store with pref }).alert .timebase)
      (1 < n.toNat → exec (.timebase p tag [n]) s = answer s .badValue) ∧
      (n.toNat = 1 → s.clock.tb = .internal → exec (.timebase p tag [n]) s = answer s .ok) ∧
      (n.toNat = 1 → s.clock.tb ≠ .internal → exec (.timebase p tag [n]) s = answer (moved .internal 1000) .ok) ∧
      (n.toNat = 0 → s.clock.tb = .internal →
        exec (.timebase p tag [n]) s = answer (moved (.acquiring 0 none) s.clock.dsLength) .ok) ∧
      (n.toNat = 0 → s.clock.tb ≠ .internal → exec (.timebase p tag [n]) s = answer s .ok)

namespace Sys2Proof.Machine

/-- `n` is the snapshot of state `s`, item by item (R77, R67, R58, R13): the active plan and its tag; the direction in force, the policy,
the membership generation and the cycle number; of each ENROLLED position the peak and the counter window by the direction in force, and
the queue of its peak-direction record when that is current, 0 otherwise; of each link between the innermost and the outermost of them the
length and both qualities. -/
structure Snapshot.Of (n : Snapshot) (s : State) : Prop where
  tag : n.slot = s.plans.active ∧ n.gen = (s.plans.slot s.plans.active).gen
  plan : ∀ h es, (s.plans.slot s.plans.active).body = .ready h es →
    n.c = h.c ∧ n.mode = h.mode ∧ n.speedIn = h.speedIn ∧ n.speedOut = h.speedOut ∧ n.speedMin = h.speedMin ∧
      n.speedMax = h.speedMax ∧ n.headway = h.headway ∧ n.slideStep = h.slideStep ∧ n.origin = h.origin
  values : n.dir = s.meas.dir ∧ n.policy = s.ctl.policy ∧ n.memGen = s.memGen ∧ n.cycleNo = s.clock.cycleNo
  enrolled : n.positions.map (·.pos) = (List.finRange 24).filter fun p => (s.posRec p).enrolment.isEnrolled
  windows : ∀ h es x e, (s.plans.slot s.plans.active).body = .ready h es → x ∈ n.positions → e ∈ es →
    e.position = x.pos.val + 1 → (∀ f, f ∈ es → f.position = e.position → f = e) →
      match s.meas.dir with
      | .inbound => x.peak = e.inb ∧ x.counter = e.outb
      | .outbound => x.peak = e.outb ∧ x.counter = e.inb
  queues : ∀ x, x ∈ n.positions →
    x.queue =
      match (match s.meas.dir with
        | .inbound => (s.meas.pos.get x.pos).queueIn
        | .outbound => (s.meas.pos.get x.pos).queueOut) with
      | some r => if r.round = s.clock.cycleNo ∨ r.round = s.clock.cycleNo - 1 then r.value else 0
      | none => 0
  span : n.links.map (·.link) = (List.finRange 23).filter fun l =>
    ((List.finRange 24).any fun p => (s.posRec p).enrolment.isEnrolled && decide (p.val ≤ l.val)) &&
      (List.finRange 24).any fun p => (s.posRec p).enrolment.isEnrolled && decide (l.val < p.val)
  links : ∀ x, x ∈ n.links → x.length = (s.linkRec x.link).length ∧ x.inb = (s.linkRec x.link).inb.quality ∧
    x.outb = (s.linkRec x.link).outb.quality

end Sys2Proof.Machine

/-- COMPUTE (R75): STATE out of COORDINATING; STARTED with the new number; DEFERRED with the number in flight. The byte 0 for STARTED
and 1 for DEFERRED are the model's reading (assumption 29). And the snapshot of any state, which every start of a computation takes, holds
the items of R77 as R67 offers them. -/
def Obligations.ComputeRule : Prop :=
  (∀ s : State, s.snapshot.Of s) ∧
  ∀ (s : State) (p : PortId) (tag : Byte) (q : Port), s.CanTake p ⟨19, tag, []⟩ q →
    let answer := fun (t : State) code result =>
      Host.Outcome.next (t.replying p q ⟨19, tag, []⟩ (s.senderClass p) code result)
    let number := fun (k : Half) => [byte (k.toNat / 256), byte k.toNat]
    (s.senderClass p = .field → exec (.compute p tag []) s = answer s .senderClass []) ∧
    (s.senderClass p = .supervisory → s.ctl.master ≠ .coordinating →
      exec (.compute p tag []) s = answer s .state []) ∧
    (s.senderClass p = .supervisory → s.ctl.master = .coordinating → s.band.inFlight = none →
      ∃ t, exec (.compute p tag []) s = answer t .ok (0 :: number (s.band.number + 1)) ∧ Triggered .coordinating [] (fun _ => False) s t ∧
        t.pos = s.pos ∧ t.trunk = s.trunk ∧ t.pre = s.pre ∧ t.ctl = s.ctl ∧ t.kept = (s.setPort p q).kept) ∧
    ∀ x, s.senderClass p = .supervisory → s.ctl.master = .coordinating → s.band.inFlight = some x →
      exec (.compute p tag []) s =
        answer { s with band := { s.band with recompute := true } } .ok (1 :: number x.number)

/-! ### Preemption -/

namespace Sys2Proof.Machine

/-- The bytes of a list whose entries hold two bytes each. -/
def pairsOf : List Byte → List (Byte × Byte)
  | a :: b :: rest => (a, b) :: pairsOf rest
  | _ => []

/-- From `s` to `t` the cause of vector `v` starts (R143, R145, R110): its cause record; each listed position that is ENROLLED and not
LOST is taken, with a PREEMPT order, from no owner (and is SUSPENDED) or from an owner below (which becomes the first pending cause;
the seek is kept), or is left to its owner with `v` pending in its place by rank; every other position, and every other block, stays as
it is. -/
structure Starts (v : VecIx) (src : Source) (s t : State) : Prop where
  cause : t.pre = { s.pre with
    causes := s.pre.causes.set v.val (some ⟨(s.pre.vectors.get v).maxHold, src⟩) v.isLt }
  passed : ∀ o, (∀ z, z ∈ (s.pre.vectors.get v).list → z.pos ≠ o) ∨ (s.posRec o).enrolment.isEnrolled = false ∨
    (s.posRec o).health = .lost → t.posRec o = s.posRec o ∧ t.trunk.orders.get o = s.trunk.orders.get o
  ordered : ∀ z, z ∈ (s.pre.vectors.get v).list → (s.posRec z.pos).enrolment.isEnrolled = true →
    (s.posRec z.pos).health ≠ .lost → (∀ w, (s.posRec z.pos).owner = some w → s.pre.RanksAbove v w) →
    t.trunk.orders.get z.pos = some ⟨.preempt v (s.pre.vectors.get v).cls z.phase, 0, false, false⟩
  seized : ∀ z, z ∈ (s.pre.vectors.get v).list → (s.posRec z.pos).enrolment.isEnrolled = true →
    (s.posRec z.pos).health ≠ .lost → (s.posRec z.pos).owner = none →
    t.posRec z.pos = { s.posRec z.pos with
      owner := some v, claims := [], mode := .preempted, travel := none, correction := 0
      seek :=
        match (s.posRec z.pos).seek with
        | .idle => .suspended .idle
        | .seeking | .inStep => .suspended .seeking
        | .suspended r => .suspended r }
  displaced : ∀ z w, z ∈ (s.pre.vectors.get v).list → (s.posRec z.pos).enrolment.isEnrolled = true →
    (s.posRec z.pos).health ≠ .lost → (s.posRec z.pos).owner = some w → s.pre.RanksAbove v w →
    t.posRec z.pos = { s.posRec z.pos with
      owner := some v, claims := w :: (s.posRec z.pos).claims, mode := .preempted
      correction := (s.posRec z.pos).owed s.plan }
  queued : ∀ z w, z ∈ (s.pre.vectors.get v).list → (s.posRec z.pos).enrolment.isEnrolled = true →
    (s.posRec z.pos).health ≠ .lost → (s.posRec z.pos).owner = some w → ¬s.pre.RanksAbove v w →
    t.trunk.orders.get z.pos = s.trunk.orders.get z.pos ∧
      ∃ above below, (s.posRec z.pos).claims = above ++ below ∧ (∀ u, u ∈ above → s.pre.RanksAbove u v) ∧
        (∀ u, u ∈ below → s.pre.RanksAbove v u) ∧
        t.posRec z.pos = { s.posRec z.pos with claims := above ++ v :: below }
  raised : Raises [] (· = .preempt) s t
  trunk : { t.trunk with orders := s.trunk.orders } = s.trunk
  rest : t.band = s.band ∧ t.ctl = s.ctl ∧ t.kept = s.kept

/-- From `s` to `t` the cause of vector `v` ends (R148, R110, R111): its records; each position it owned goes to the highest pending
cause with a PREEMPT order, the seek kept, or back to the seek with a RELEASE; it leaves every pending set; nothing else changes. -/
structure Ends (v : VecIx) (reason : EndReason) (s t : State) : Prop where
  causes : t.pre.causes = s.pre.causes.set v.val none v.isLt
  lastEnd : t.pre.lastEnd = s.pre.lastEnd.set v.val (some reason) v.isLt
  vectors : t.pre.vectors = s.pre.vectors
  notOwned : ∀ o, (s.posRec o).owner ≠ some v →
    t.posRec o = { s.posRec o with claims := (s.posRec o).claims.filter fun w => w != v } ∧
      t.trunk.orders.get o = s.trunk.orders.get o
  released : ∀ o, (s.posRec o).owner = some v → (s.posRec o).claims = [] →
    let r := s.posRec o
    let r' := t.posRec o
    t.trunk.orders.get o = some ⟨.release, 0, false, false⟩ ∧
      r' = { r with
        owner := none, mode := .coordinated, seek := r'.seek, travel := r'.travel, correction := r'.owed s.plan } ∧
      ∀ ret, r.seek = .suspended ret →
        (ret = .idle ∨ s.ctl.master.runs = false → r'.seek = .idle ∧ r'.travel = none) ∧
        (¬(ret = .idle ∨ s.ctl.master.runs = false) → r'.travel = r.seekTravel s.plan ∧
          r'.seek = if r.target.isSome = true ∧ r.target = r.running then .inStep else .seeking)
  handed : ∀ o w rest, (s.posRec o).owner = some v → (s.posRec o).claims = w :: rest →
    t.posRec o = { s.posRec o with
      owner := some w, mode := .preempted, claims := rest.filter fun u => u != v
      correction := (s.posRec o).owed s.plan } ∧
      t.trunk.orders.get o =
        some ⟨.preempt w (s.pre.vectors.get w).cls ((s.pre.vectors.get w).phaseAt o), 0, false, false⟩
  trunk : { t.trunk with orders := s.trunk.orders } = s.trunk
  rest : t.band = s.band ∧ t.ctl = s.ctl ∧ t.kept = s.kept

/-- The alert classes of the end of a cause: PREEMPT, and SEEK when a position enters IN_STEP (R115, R148). -/
def EndAlerts (s t : State) (c : AlertClass) : Prop := c = .preempt ∨ c = .seek ∧ EntersStep s t

end Sys2Proof.Machine

/-- VECTOR-SET (R141): the class, the checks in order, the vector replaced whole and written through when it changes, an UNUSED
vector with an empty list and a maximum hold of 100 ds, nothing else. That an unchanged vector makes no store write (R167) and the
layout of the body are the model's reading (assumptions 31 and 30). -/
def Obligations.VectorSetRule : Prop :=
  ∀ (s : State) (p : PortId) (tag v c h1 h0 n : Byte) (l : List Byte) (q : Port),
    let f : Frame := ⟨20, tag, v :: c :: h1 :: h0 :: n :: l⟩
    l.length = 2 * n.toNat → s.CanTake p f q →
    let answer := fun (t : State) code => Host.Outcome.next (t.replying p q f (s.senderClass p) code [])
    (s.senderClass p = .field → exec (.vectorSet p tag f.body) s = answer s .senderClass) ∧
    (s.senderClass p = .supervisory →
      let hold := h1.toNat * 256 + h0.toNat
      let legal := c.toNat ≤ 3 ∧ (c.toNat ≠ 0 →
        1 ≤ n.toNat ∧ n.toNat ≤ 8 ∧ (∀ x, x ∈ pairsOf l → 1 ≤ x.1.toNat ∧ x.1.toNat ≤ 24 ∧ x.2.toNat ≤ 2) ∧
          (pairsOf l).Pairwise (fun a b => a.1.toNat < b.1.toNat) ∧ 100 ≤ hold ∧ hold ≤ 3000)
      (8 ≤ v.toNat ∨ ¬legal → exec (.vectorSet p tag f.body) s = answer s .badValue) ∧
      ∀ k : VecIx, v.toNat = k.val → legal →
        ((s.pre.causes.get k).isSome = true → exec (.vectorSet p tag f.body) s = answer s .state) ∧
        ((s.pre.causes.get k).isSome = false →
          ∃ x : VectorCfg, x.cls.code = c ∧ (c.toNat = 0 → x.list = [] ∧ x.maxHold = 100) ∧
            (c.toNat ≠ 0 → (x.list.map fun z => (byte (z.pos.val + 1), z.phase.code)) = pairsOf l ∧ x.maxHold = hold) ∧
            let t : State := { s with pre := { s.pre with vectors := s.pre.vectors.set k.val x k.isLt } }
            exec (.vectorSet p tag f.body) s =
              answer
                (if s.pre.vectors.get k = x then t
                 else t.written p { s.store with vectors := s.store.vectors.set k.val x k.isLt }) .ok))

/-- LINE-SET (R139): the class, the checks in order, the settings replaced and written through when they change, the line INACTIVE
with its armed field kept, the measurement restarted from the level present, nothing else. That the request carries the time at which it
is taken, and that the measurement restarts at the later of it and the latest time named before, is the model's choice (assumption 5);
that unchanged settings make no store write (R167) and the layout of the body are its reading (assumptions 31 and 30). -/
def Obligations.LineSetRule : Prop :=
  ∀ (s : State) (p : PortId) (tag k pol d1 d0 : Byte) (time : Nat) (q : Port),
    let f : Frame := ⟨21, tag, [k, pol, d1, d0]⟩
    let c : Instr := .lineSet p tag ⟨[k, pol, d1, d0], time⟩
    s.CanTake p f q →
    let answer := fun (t : State) code => Host.Outcome.next (t.replying p q f (s.senderClass p) code [])
    (s.senderClass p = .field → exec c s = answer s .senderClass) ∧
    (s.senderClass p = .supervisory →
      let d := d1.toNat * 256 + d0.toNat
      let legal := pol.toNat ≤ 1 ∧ d ≤ 500 ∧ d % 10 = 0
      (¬(1 ≤ k.toNat ∧ k.toNat ≤ 4) ∨ ¬legal → exec c s = answer s .badValue) ∧
      ∀ i : LineIx, k.toNat = i.val + 1 → legal →
        let old := s.pre.lines.get i
        let cfg : LineCfg := ⟨if pol.toNat = 0 then .activeHigh else .activeLow, d⟩
        ((s.pre.causes.get (vectorOfLine i)).isSome = true → exec c s = answer s .state) ∧
        ((s.pre.causes.get (vectorOfLine i)).isSome = false →
          let now := max s.now time
          let t : State := { s with now, pre := { s.pre with
            lines := s.pre.lines.set i.val ⟨cfg, false, old.armed, ⟨old.input.high, now, false⟩⟩ i.isLt } }
          exec c s =
            answer
              (if old.cfg = cfg then t
               else t.written p { s.store with lines := s.store.lines.set i.val cfg i.isLt }) .ok))

/-- PRE-CALL (R144): the checks in order; ALREADY_ACTIVE with nothing changed; STARTED with the start of the cause, source CALL.
`CauseLaw` holds in every run. The byte 0 for STARTED and 1 for ALREADY_ACTIVE are the model's reading (assumption 29). -/
def Obligations.PreCallRule : Prop :=
  ∀ (s : State) (p : PortId) (tag n : Byte) (q : Port), s.CanTake p ⟨22, tag, [n]⟩ q →
    let answer := fun (t : State) code result =>
      Host.Outcome.next (t.replying p q ⟨22, tag, [n]⟩ (s.senderClass p) code result)
    (8 ≤ n.toNat → exec (.preCall p tag [n]) s = answer s .badValue []) ∧
    ∀ v : VecIx, n.toNat = v.val →
      let cls := (s.pre.vectors.get v).cls
      (cls = .unused ∨ cls = .transit ∧ s.ctl.master ≠ .coordinating →
        exec (.preCall p tag [n]) s = answer s .state []) ∧
      (¬(cls = .unused ∨ cls = .transit ∧ s.ctl.master ≠ .coordinating) →
        ((s.pre.causes.get v).isSome = true → exec (.preCall p tag [n]) s = answer s .ok [1]) ∧
        (s.pre.causes.get v = none → CauseLaw s →
          ∃ t, exec (.preCall p tag [n]) s = answer t .ok [0] ∧ Starts v .call (s.setPort p q) t))

/-- PRE-CLEAR and the expiry of a cause (R149, R147): NOT_ACTIVE with nothing changed; ENDED with the end of the cause, reason
CLEAR; at the end of a hold the fault HOLD_EXPIRED, the vector's ACTIVE line disarmed, and the end with reason EXPIRY. The model's
choices: the byte 0 for ENDED and 1 for NOT_ACTIVE (assumption 29), and that CAUSE_EXPIRY acts at a remaining hold of at most 1 and
changes nothing above it (assumptions 4 and 13). -/
def Obligations.CauseEndRule : Prop :=
  (∀ (s : State) (p : PortId) (tag n : Byte) (q : Port), s.CanTake p ⟨23, tag, [n]⟩ q →
    let answer := fun (t : State) code result =>
      Host.Outcome.next (t.replying p q ⟨23, tag, [n]⟩ (s.senderClass p) code result)
    (8 ≤ n.toNat → exec (.preClear p tag [n]) s = answer s .badValue []) ∧
    ∀ v : VecIx, n.toNat = v.val →
      (s.pre.causes.get v = none → exec (.preClear p tag [n]) s = answer s .ok [1]) ∧
      ((s.pre.causes.get v).isSome = true →
        ∃ t, exec (.preClear p tag [n]) s = answer t .ok [0] ∧ Ends v .clear (s.setPort p q) t ∧
          Raises [] (EndAlerts s t) s t ∧ t.pre.lines = s.pre.lines)) ∧
  ∀ (s : State) (v : VecIx) (c : Cause), s.powered = true → s.pre.causes.get v = some c →
    (2 ≤ c.remaining → exec (.causeExpiry v) s = .next s) ∧
    (c.remaining ≤ 1 →
      ∃ t, exec (.causeExpiry v) s = .next t ∧ Ends v .expiry s t ∧ Raises [.holdExpired v] (EndAlerts s t) s t ∧
        ∀ k : LineIx, t.pre.lines.get k =
          if k.val = v.val ∧ (s.pre.lines.get k).active = true then { s.pre.lines.get k with armed := false }
          else s.pre.lines.get k)

/-! ### Faults and alerts -/

/-- A fault as the Fault and Alert Unit takes it (R171): it fills the empty record with the clock's reading, or its kind joins the
next-fault set once; in both cases FAULT is pending; nothing else changes. And an alert event (R173, R174): its class is pending, a
gain of the signalled set sets the ALERT-waiting mark, nothing else changes. -/
def Obligations.FaultIsTaken : Prop :=
  (∀ (s : State) (e : AlertClass),
    { s.alert e with faults := s.faults } = s ∧
    { (s.alert e).faults with pending := s.faults.pending, waiting := s.faults.waiting } = s.faults ∧
    (∀ c : AlertClass, (s.alert e).faults.pending.get c.ix = true ↔ s.faults.pending.get c.ix = true ∨ c = e) ∧
    ((s.alert e).faults.waiting = true ↔
      s.faults.waiting = true ∨ s.faults.pending.get e.ix = false ∧ s.faults.enabled.get e.ix = true)) ∧
  ∀ (s : State) (i : FaultInfo),
    { s.fault i with faults := s.faults } = s ∧
    (s.fault i).faults.enabled = s.faults.enabled ∧ (s.fault i).faults.seq = s.faults.seq ∧
    (s.fault i).faults.out = s.faults.out ∧ (s.fault i).faults.pending.get AlertClass.fault.ix = true ∧
    (∀ c, c ≠ AlertClass.fault → (s.fault i).faults.pending.get c.ix = s.faults.pending.get c.ix) ∧
    (s.faults.first = none → (s.fault i).faults.first = some ⟨i, s.clock.cycleNo, s.clock.cyclePos⟩ ∧
      (s.fault i).faults.next = s.faults.next) ∧
    (s.faults.first ≠ none → (s.fault i).faults.first = s.faults.first ∧
      (∀ k, k ∈ (s.fault i).faults.next ↔ k ∈ s.faults.next ∨ k = i.kind) ∧
      (s.faults.next.Nodup → (s.fault i).faults.next.Nodup)) ∧
    ((s.fault i).faults.waiting = true ↔
      s.faults.waiting = true ∨
        s.faults.pending.get AlertClass.fault.ix = false ∧ s.faults.enabled.get AlertClass.fault.ix = true)

/-- FAULT-CLEAR, ALERT-ENABLE, ALERT-CLEAR and the ALERT record (R172, R174, R175): the value checks; the fault state emptied; the
nine enable flags replaced and written through when any changes, with the ALERT-waiting mark set by a gain; the named classes
cleared. With the mark set and no reply in transmission the signalled set is read: an empty one clears the mark, otherwise the
next sequence number goes out with every class of the set. Nothing else. The model's choices: enabled 1 and disabled 0 (assumptions 11
and 30), a centre link without a request in progress as a free transmitter (assumption 14), and the order of the classes in an ALERT
(44). -/
def Obligations.FaultAndAlertRequests : Prop :=
  (∀ (s : State) (p : PortId) (tag : Byte) (q : Port),
    let answer := fun (f : Frame) (t : State) code =>
      Host.Outcome.next (t.replying p q f (s.senderClass p) code [])
    (s.CanTake p ⟨24, tag, []⟩ q → s.senderClass p = .supervisory →
      exec (.faultClear p tag []) s =
        answer ⟨24, tag, []⟩ { s with faults := { s.faults with first := none, next := [] } } .ok) ∧
    (∀ b : List Byte, b.length = 9 → s.CanTake p ⟨25, tag, b⟩ q → s.senderClass p = .supervisory →
      ((∃ x, x ∈ b ∧ 1 < x.toNat) → exec (.alertEnable p tag b) s = answer ⟨25, tag, b⟩ s .badValue) ∧
      ((∀ x, x ∈ b → x.toNat ≤ 1) →
        let e : Vector Bool 9 := Vector.ofFn fun i => decide ((b.getD i.val 0).toNat = 1)
        let gain := decide (∃ i, s.faults.pending.get i = true ∧ e.get i = true ∧ s.faults.enabled.get i = false)
        exec (.alertEnable p tag b) s =
          if s.faults.enabled = e then answer ⟨25, tag, b⟩ s .ok
          else
            answer ⟨25, tag, b⟩
              ({ s with faults := { s.faults with enabled := e, waiting := s.faults.waiting || gain } }.written p
                { s.store with enabled := e }) .ok)) ∧
    ∀ (n : Byte) (l : List Byte), l.length = n.toNat → s.CanTake p ⟨26, tag, n :: l⟩ q →
      (n.toNat = 0 ∨ (∃ x, x ∈ l ∧ 8 < x.toNat) →
        exec (.alertClear p tag (n :: l)) s = answer ⟨26, tag, n :: l⟩ s .badValue) ∧
      (n.toNat ≠ 0 → (∀ x, x ∈ l → x.toNat ≤ 8) →
        exec (.alertClear p tag (n :: l)) s =
          answer ⟨26, tag, n :: l⟩
            { s with faults := { s.faults with
              pending := Vector.ofFn fun i => s.faults.pending.get i && !(l.any fun x => x.toNat == i.val) } } .ok)) ∧
  ∀ s : State, s.powered = true →
    let signalled := AlertClass.all.filter fun c => s.faults.pending.get c.ix && s.faults.enabled.get c.ix
    exec .alertRecord s = .next
      (if s.faults.waiting = true ∧ s.centre.inProgress = none then
        if signalled = [] then { s with faults := { s.faults with waiting := false } }
        else
          { s with faults := { s.faults with
            waiting := false, seq := s.faults.seq + 1, out := some ⟨s.faults.seq + 1, signalled⟩ } }
      else s)

/-! ### Restart, erasure, loss of supply, reset -/

namespace Sys2Proof.Machine

/-- `t` is the part restarted from the store content `st` with the input levels of `s` (R168, with R17, R36, R45, R52, R70, R94, R117,
R135, R154, R176 and R177). That time is counted from the restart, so that every measurement starts at 0, is assumption 5; that the
passage to ACQUIRING with its alert event, and with the ALERT-waiting mark where TIMEBASE is enabled, falls in the same step is
assumption 23. -/
structure RestartedFrom (st : Store) (s t : State) : Prop where
  positions : ∀ o, t.posRec o =
    { enrolment := st.chain.get o, available := false, health := .online, misses := 0, target := none, running := none
      seek := .idle, travel := none, mode := .free, tagSeen := none, reload := true, correction := 0, spent := false
      sent := none, owner := none, claims := [] }
  links : ∀ l, t.linkRec l = ⟨st.lengths.get l, ⟨.none, none, 0, false⟩, ⟨.none, none, 0, false⟩⟩
  memGen : t.memGen = 0
  slots : ∀ i, t.plans.slot i =
    { locked := (st.slots.get i).locked, gen := (st.slots.get i).gen
      body := match (st.slots.get i).plan with | some x => .ready x.h x.entries | none => .empty }
  roles : t.plans.active = st.active ∧ t.plans.pendingSlot = none
  clock : t.clock =
    { tb := match st.pref with | .preferReference => .acquiring 0 none | .internalOnly => .internal
      pref := st.pref, dsLength := 1000, dsRunning := 1000, cyclePos := 0, cycleNo := 0, c := t.plan.c
      beaconInterval := st.beaconInterval }
  meas : (∀ o, t.meas.pos.get o = ⟨none, none, false, 0, 0⟩) ∧ t.meas.volIn = 0 ∧ t.meas.volOut = 0 ∧
    t.meas.tide = 0 ∧ t.meas.dir = t.plan.startDir
  band : t.band = ⟨none, false, 0, none, none, 0⟩
  orders : ∀ o, t.trunk.orders.get o = none
  trunk : t.trunk.waitingBeacon = some false ∧ t.trunk.roundOpen = false ∧ t.trunk.cursor = none ∧
    t.trunk.probeDone = true ∧ t.trunk.probePtr = 23 ∧ t.trunk.exchange = none ∧ t.trunk.badFrames = 0 ∧
    t.trunk.noAnswers = 0
  causes : ∀ v, t.pre.causes.get v = none ∧ t.pre.lastEnd.get v = none
  vectors : t.pre.vectors = st.vectors
  lines : ∀ k, t.pre.lines.get k =
    ⟨st.lines.get k, false, true, ⟨(s.pre.lines.get k).input.high, 0, false⟩⟩
  master : t.ctl.master = .idle ∧ t.ctl.held = false ∧ t.ctl.policy = st.policy
  ctlLines : t.ctl.holdLine = ⟨false, ⟨s.ctl.holdLine.input.high, 0, false⟩⟩ ∧
    t.ctl.detachLine = ⟨false, ⟨s.ctl.detachLine.input.high, 0, false⟩⟩ ∧
    t.ctl.keyLine = ⟨false, ⟨s.ctl.keyLine.input.high, 0, false⟩⟩
  faults : t.faults.first = none ∧ t.faults.next = [] ∧ t.faults.seq = 0 ∧ t.faults.enabled = st.enabled ∧
    (∀ c, t.faults.pending.get c.ix = decide (c = AlertClass.timebase ∧ st.pref = .preferReference)) ∧
    t.faults.waiting = decide (st.pref = .preferReference ∧ st.enabled.get AlertClass.timebase.ix = true)
  ports : ∀ p, (t.port p).frames = [] ∧ (t.port p).receiving = [] ∧ (t.port p).inProgress = none ∧ (t.port p).errors = 0
  rest : t.store = st ∧ t.unfinished = none ∧ t.powered = true ∧ t.now = 0 ∧ t.pending = s.pending

end Sys2Proof.Machine

/-- POWER_ON and RESTART (R168): the part restarts from its store; RESTART sends its reply OK first. The model's choices: ACQUIRING
and its TIMEBASE alert within the restart's own step (assumption 23), the reply sent within the command (28), the time counted from the
restart (5), POWER_ON of a part that has supply (21). -/
def Obligations.RestartRule : Prop :=
  (∀ s : State, ∃ t, exec .powerOn s = .next t ∧ RestartedFrom s.store s t) ∧
  ∀ (s : State) (p : PortId) (tag : Byte) (q : Port), s.CanTake p ⟨27, tag, []⟩ q →
    s.senderClass p = .supervisory →
    ∃ t, exec (.restart p tag []) s = .next t ∧ RestartedFrom s.store s t ∧
      (t.port p).out = some ⟨155, tag, .ok, []⟩

/-- ERASE and POWER_LOSS (R169, R167): ERASE writes the factory configuration in one write, sends OK and restarts from it, and the write
can then no longer be lost; a loss of supply keeps the store, but for a write that was not complete, which leaves the content from
before it, and the part is then without supply. The model's choices: the reply sent within the command (assumption 28), which write a
loss can still find incomplete (20), the ports cleared at the loss (21), and what the restart holds by assumptions 5 and 23. -/
def Obligations.EraseAndPowerLossRule : Prop :=
  (∀ (s : State) (p : PortId) (tag : Byte) (q : Port), s.CanTake p ⟨28, tag, []⟩ q →
    s.senderClass p = .supervisory →
    ∃ t, exec (.erase p tag []) s = .next t ∧ RestartedFrom Store.factory s t ∧
      (t.port p).out = some ⟨156, tag, .ok, []⟩) ∧
  ∀ (s : State) (torn : Bool), s.powered = true →
    exec (.powerLoss torn) s = .next
      { s with
        store := match s.unfinished with | some u => if torn then u.before else s.store | none => s.store
        unfinished := none, powered := false
        centre := ⟨[], [], none, 0, none⟩, field := ⟨[], [], none, 0, none⟩ }

/-- The reset state is the part restarted from the factory configuration of R18, R27, R37 and R169, and every law of Safety.lean
holds there; that the first store content is this one is the model's choice (assumption 2), as are the low input levels
(assumption 3). -/
def Obligations.ResetValues : Prop :=
  RestartedFrom Store.factory State.reset State.reset ∧
  (∀ o, Store.factory.chain.get o = .vacant) ∧ (∀ l, Store.factory.lengths.get l = 0) ∧
  Store.factory.active = 0 ∧
  (Store.factory.slots.get 0).locked = true ∧ (Store.factory.slots.get 0).gen = 0 ∧
  (Store.factory.slots.get 0).plan = some
    { h :=
        { c := 900, mode := .inbound, tidalStart := none, speedIn := 50, speedOut := 50, speedMin := 20, speedMax := 70
          headway := 20, slideStep := 10, origin := 0, adaptive := true, lengthen := 20, shorten := 10, base := 0
          count := 24 }
      entries := (List.range 24).map fun i => ⟨i + 1, ⟨0, 450⟩, ⟨0, 450⟩⟩ } ∧
  (∀ i, i ≠ 0 → Store.factory.slots.get i = ⟨false, 0, none⟩) ∧
  Store.factory.pref = .preferReference ∧ Store.factory.beaconInterval = 100 ∧
  (∀ v, Store.factory.vectors.get v = ⟨.unused, [], 100⟩) ∧ (∀ k, Store.factory.lines.get k = ⟨.activeHigh, 50⟩) ∧
  Store.factory.policy = .tolerant ∧ (∀ i, Store.factory.enabled.get i = false) ∧
  FaultLaw State.reset ∧ HealthLaw State.reset ∧ HoldLaw State.reset ∧ OwnerLaw State.reset ∧ CauseLaw State.reset ∧
  MembersLaw State.reset ∧ InStepLaw State.reset ∧ SeekLaw State.reset ∧ OffsetLaw State.reset ∧ SnapshotLaw State.reset ∧
  TimebaseLaw State.reset ∧ MirrorLaw State.reset ∧ ClockLaw State.reset ∧ ClockBase State.reset ∧ PlanLaw State.reset ∧
  DropLaw State.reset

/-! ### Queries -/

namespace Sys2Proof.Machine

/-! The records, field by field: `byte`, `half`, `signed`, `flag`, `optional` and `counted` are the scheme of R182, and an enumerated
value is written as its number in the table or list that defines it. -/

def healthByte (h : Health) : Byte := match h with | .online => 0 | .suspect => 1 | .lost => 2

def seekByte (x : SeekState) : Byte := match x with | .idle => 0 | .seeking => 1 | .inStep => 2 | .suspended _ => 3

def dirByte (d : Dir) : Byte := match d with | .inbound => 0 | .outbound => 1

def phaseByte (h : HoldPhase) : Byte := match h with | .inboundGreen => 0 | .outboundGreen => 1 | .allRed => 2

def classByte (c : VectorClass) : Byte := match c with | .unused => 0 | .rail => 1 | .emergency => 2 | .transit => 3

def kindByte (k : FaultKind) : Byte := match k with
  | .junctionLost => 0 | .poisonUsed => 1 | .bandRefused => 2 | .holdExpired => 3 | .referenceLost => 4
  | .preemptUndelivered => 5 | .fallbackEntered => 6

/-- Enrolment, drop address, exclusion cause (R15). -/
def enrolmentFields (e : Enrolment) : List Byte := match e with
  | .vacant => [0, 0, 0]
  | .enrolled d => [1, 1, byte d, 0]
  | .excluded d .operator => [2, 1, byte d, 1, 0]
  | .excluded d .lost => [2, 1, byte d, 1, 1]

/-- A last outcome, its number and its stale cause (R71). -/
def outcomeFields (x : Completion) : List Byte := match x.verdict with
  | .accepted => [0] ++ half x.number.toNat ++ [0]
  | .stale .plan => [1] ++ half x.number.toNat ++ [1, 0]
  | .stale .direction => [1] ++ half x.number.toNat ++ [1, 1]
  | .stale .membership => [1] ++ half x.number.toNat ++ [1, 2]
  | .stale .master => [1] ++ half x.number.toNat ++ [1, 3]
  | .refused => [2] ++ half x.number.toNat ++ [0]

/-- The record of Q-STATUS, group by group (R183). -/
def State.statusFields (s : State) : List Byte :=
  (match s.ctl.master with
    | .idle => [0, 0] | .coordinating => [1, 0] | .hold => [2, 0] | .fallback => [3, 0]
    | .detached .idle => [4, 1, 0] | .detached .coordinating => [4, 1, 1] | .detached .hold => [4, 1, 2]
    | .detached .fallback => [4, 1, 3]) ++
  [flag s.ctl.held, flag s.ctl.holdLine.active, flag s.ctl.detachLine.active, flag s.ctl.keyLine.active,
    match s.ctl.policy with | .strict => 0 | .tolerant => 1] ++
  ([match s.clock.tb with | .internal => 0 | .acquiring _ _ => 1 | .reference _ _ => 2,
    match s.clock.pref with | .preferReference => 0 | .internalOnly => 1] : List Byte) ++
  (match s.clock.tb with
    | .internal => [0, 0, 1] | .acquiring n _ => [byte n, 0, 1] | .reference _ last => [8, 1] ++ half last ++ [0]) ++
  half s.clock.cyclePos ++ half s.clock.cycleNo.toNat ++ half s.clock.c ++ half s.clock.beaconInterval ++
  [byte s.plans.active.val, (s.plans.slot s.plans.active).gen] ++
  (match s.plans.pendingSlot with | none => [0] | some i => [1, byte i.val, (s.plans.slot i).gen]) ++
  half s.memGen.toNat ++ [byte s.enrolledCount] ++ [dirByte s.meas.dir, byte s.meas.tide] ++
  (match s.band.inFlight with | none => [0] | some x => 1 :: half x.number.toNat) ++ [flag s.band.recompute] ++
  optional outcomeFields s.band.outcome ++ half s.band.staleCount ++
  half s.trunk.badFrames ++ half s.trunk.noAnswers ++ [flag s.trunk.roundOpen] ++
  (match s.trunk.exchange with
    | none => [0]
    | some x => [1, match x.kind with | .step => 2 | .preempt => 4 | .release => 5 | .probe => 7, byte (x.pos.val + 1)]) ++
  [s.faults.seq] ++ half s.centre.errors ++ half s.field.errors

/-- The record of Q-CHAIN (R15). -/
def State.chainFields (s : State) : List Byte :=
  ((List.finRange 24).flatMap fun p => enrolmentFields (s.posRec p).enrolment) ++
  ((List.finRange 23).flatMap fun l => half (s.linkRec l).length) ++ half s.memGen.toNat ++
  (List.finRange 24).flatMap fun p =>
    [healthByte (s.posRec p).health, flag (s.posRec p).available, seekByte (s.posRec p).seek]

/-- The record of Q-JUNCTION: the fields of R95 in the order of its table, the limits of R97, and the other owners' fields (R116). -/
def State.junctionFields (s : State) (p : Pos) : List Byte :=
  let r := s.posRec p
  optional half r.target ++ optional half r.running ++ [seekByte r.seek] ++
  (match r.travel with
    | none => [0, 0]
    | some x => [1, match x.dir with | .lengthen => 0 | .shorten => 1, 1] ++ half x.remaining) ++
  ([match r.mode with | .coordinated => 0 | .free => 1 | .preempted => 2 | .localHeld => 3] : List Byte) ++
  (match r.tagSeen with | none => [0] | some x => [1, byte x.slot.val, x.gen]) ++ [flag r.reload] ++
  (match r.seek with | .suspended .idle => [1, 0] | .suspended .seeking => [1, 1] | _ => [0]) ++
  signed r.correction ++ [flag r.spent] ++
  (match r.sent with | none => [0] | some x => 1 :: (signed x.value ++ half x.cycle.toNat)) ++
  half (s.plan.c * s.plan.lengthen / 100) ++ half (s.plan.c * s.plan.shorten / 100) ++
  enrolmentFields r.enrolment ++ [healthByte r.health, byte r.misses, flag r.available] ++
  optional (fun v => [byte v.val]) r.owner ++ counted (fun v => [byte v.val]) r.claims

/-- Every plan field, in the order of the table of R19. -/
def headerFields (h : Header) : List Byte :=
  half h.c ++ ([match h.mode with | .inbound => 0 | .outbound => 1 | .tidal => 2] : List Byte) ++
  optional (fun d => [dirByte d]) h.tidalStart ++
  [byte h.speedIn, byte h.speedOut, byte h.speedMin, byte h.speedMax, byte h.headway, byte h.slideStep] ++ half h.origin ++
  [if h.adaptive then 0 else 1, byte h.lengthen, byte h.shorten, byte h.base, byte h.count]

/-- The record of Q-PLAN (R34). -/
def State.planFields (s : State) (i : SlotIx) : List Byte :=
  let x := s.plans.slot i
  [match x.body with | .empty => 0 | .loading _ _ _ => 1 | .ready _ _ => 2, flag x.locked, x.gen,
    if s.plans.active = i then 1 else 0, if s.plans.pendingSlot = some i then 1 else 0] ++
  match x.body with
  | .empty => [0, 0]
  | .loading h r es =>
    [1] ++ headerFields h ++ [1, match r with | .centre => 0 | .field => 1, byte (es.countP fun e => e.isSome)]
  | .ready h _ => [1] ++ headerFields h ++ [0]

/-- One measure: quality, smoothed travel time, age, last raw sample, clamp count (R69, R53). -/
def measureFields (m : Measure) : List Byte :=
  (match m.quality with | .none => [0, 0, 0] | .fresh v a => [1, 1] ++ half v ++ [byte a] | .aged => [2, 0, 3] | .poisoned => [3, 0, 0]) ++
  optional half m.lastRaw ++ half m.clamps

/-- The record of Q-MEASURE of the link between positions `p` and `q` (R69; the order of the two
measures' fields, of the planned travel times and of the queue records is assumption 35). -/
def State.linkFields (s : State) (l : LinkIx) (p q : Pos) : List Byte :=
  let length := (s.linkRec l).length
  let time := fun v => if length = 0 then half 0 else half ((2 * (36 * length) + v) / (2 * v))
  let queue := fun (x : Option QueueRec) => match x with | none => [0] | some y => [1, byte y.value] ++ half y.round.toNat
  measureFields (s.linkRec l).inb ++ measureFields (s.linkRec l).outb ++ half length ++
  time s.plan.speedMax ++ time s.plan.speedMin ++ time s.plan.speedIn ++ time s.plan.speedOut ++
  queue (s.meas.pos.get p).queueIn ++ queue (s.meas.pos.get p).queueOut ++
  queue (s.meas.pos.get q).queueIn ++ queue (s.meas.pos.get q).queueOut ++
  half s.meas.volIn ++ half s.meas.volOut ++ [dirByte s.meas.dir, byte s.meas.tide]

/-- The record of Q-BAND (R93), with the fields of R92 in the order of its table. -/
def State.bandFields (s : State) : List Byte :=
  (match s.band.inFlight with | none => [0] | some x => 1 :: (half x.number.toNat ++ half x.snap.cycleNo.toNat)) ++
  [flag s.band.recompute] ++ half s.band.number.toNat ++ optional outcomeFields s.band.outcome ++ half s.band.staleCount ++
  match s.band.last with
  | none => [0]
  | some b =>
    [1] ++ half b.number.toNat ++ [byte b.slot.val, b.gen] ++ half b.c ++ half b.memGen.toNat ++ half b.startCycle.toNat ++
    [dirByte b.dir] ++ half b.w ++ half b.origin ++ half b.counterBand ++ optional half b.counterStart ++ [flag b.degraded] ++
    counted (fun e => [byte (e.pos.val + 1)] ++ half e.target ++ signed e.slide ++ half e.lead ++ half e.slack) b.entries

/-- The record of Q-PRE (R153): the vectors, the lines, the positions, the order table (R130; the order of its entries is
assumption 45). -/
def State.preFields (s : State) : List Byte :=
  ((List.finRange 8).flatMap fun v =>
    let c := s.pre.vectors.get v
    [classByte c.cls] ++ half c.maxHold ++ counted (fun z => [byte (z.pos.val + 1), phaseByte z.phase]) c.list ++
    (match s.pre.causes.get v with
      | none => [0, 0, 0]
      | some x => [1, 1] ++ half x.remaining ++ [1, match x.source with | .line => 0 | .call => 1]) ++
    ((match s.pre.lastEnd.get v with
      | none => [0] | some .line => [1, 0] | some .clear => [1, 1] | some .expiry => [1, 2]
      | some .master => [1, 3]) : List Byte)) ++
  ((List.finRange 4).flatMap fun k =>
    let l := s.pre.lines.get k
    ([match l.cfg.polarity with | .activeHigh => 0 | .activeLow => 1] : List Byte) ++ half l.cfg.debounce ++ [flag l.active, flag l.armed]) ++
  ((List.finRange 24).flatMap fun p =>
    optional (fun v => [byte v.val]) (s.posRec p).owner ++ counted (fun v => [byte v.val]) (s.posRec p).claims) ++
  counted
    (fun (x : Pos × OrderEntry) => [byte (x.1.val + 1)] ++
      (match x.2.order with
        | .preempt v c h => [0, 1, byte v.val, classByte c, phaseByte h]
        | .release => [1, 0]) ++
      [byte x.2.fails, flag x.2.resting])
    ((List.finRange 24).filterMap fun p => (s.trunk.orders.get p).map fun e => (p, e))

/-- The record of Q-FAULT: the first-fault record with the details of R170, and the next-fault set in the order of its table
(R171, R172). -/
def State.faultFields (s : State) : List Byte :=
  (match s.faults.first with
    | none => [0]
    | some r =>
      [1] ++
      (match r.info with
        | .junctionLost p => [0, 1, byte (p.val + 1), 0, 0, 0]
        | .poisonUsed l d => [1, 0, 1, byte (l.val + 1), dirByte d, 0, 0]
        | .bandRefused l d => [2, 0, 1, byte (l.val + 1), dirByte d, 0, 0]
        | .holdExpired v => [3, 0, 0, 1, byte v.val, 0]
        | .referenceLost .interval => [4, 0, 0, 0, 1, 0]
        | .referenceLost .silence => [4, 0, 0, 0, 1, 1]
        | .preemptUndelivered p none => [5, 1, byte (p.val + 1), 0, 0, 0]
        | .preemptUndelivered p (some v) => [5, 1, byte (p.val + 1), 0, 1, byte v.val, 0]
        | .fallbackEntered .request => [6, 0, 0, 0, 1, 0]
        | .fallbackEntered (.lost p) => [6, 1, byte (p.val + 1), 0, 0, 1, 1]
        | .fallbackEntered .membership => [6, 0, 0, 0, 1, 2]) ++
      half r.cycleNo.toNat ++ half r.cyclePos) ++
  counted (fun k => [kindByte k])
    ([FaultKind.junctionLost, .poisonUsed, .bandRefused, .holdExpired, .referenceLost, .preemptUndelivered,
      .fallbackEntered].filter fun k => decide (k ∈ s.faults.next))

/-- One entry of the pool: its number; its owner, 16 for a free entry; the written mark, of an OPEN slot's entry; position and windows
when there are any to read (R184). -/
def State.PoolFields (s : State) (e : Nat) (bytes : List Byte) : Prop :=
  let shown := fun (x : Entry) => [byte x.position] ++ half x.inb.s ++ half x.inb.e ++ half x.outb.s ++ half x.outb.e
  let inRun := fun (i : SlotIx) => (s.plans.slot i).body ≠ .empty ∧ (s.plans.header i).base ≤ e ∧
    e < (s.plans.header i).base + (s.plans.header i).count
  ((∀ i, ¬inRun i) → bytes = [byte e, 16, 0, 0]) ∧
  ∀ i, inRun i → (∀ j, inRun j → j = i) →
    (∀ h es, (s.plans.slot i).body = .ready h es →
      bytes = [byte e, byte i.val, 0] ++ (match es[e - h.base]? with | some x => 1 :: shown x | none => [0])) ∧
    ∀ h r es, (s.plans.slot i).body = .loading h r es →
      bytes = [byte e, byte i.val] ++
        (match es[e - h.base]? with | some (some x) => [1, 1, 1] ++ shown x | _ => [1, 0, 0])

/-- The queries but Q-POOL, with bodies that name what exists, the frame that carries each, and the record its reply carries. -/
inductive Query (p : PortId) (tag : Byte) : Instr → Frame → (State → List Byte) → Prop where
  | status : Query p tag (.qStatus p tag []) ⟨29, tag, []⟩ State.statusFields
  | chain : Query p tag (.qChain p tag []) ⟨30, tag, []⟩ State.chainFields
  | junction (a : Byte) (o : Pos) (h : a.toNat = o.val + 1) :
      Query p tag (.qJunction p tag [a]) ⟨31, tag, [a]⟩ fun s => s.junctionFields o
  | plan (a : Byte) (i : SlotIx) (h : a.toNat = i.val) :
      Query p tag (.qPlan p tag [a]) ⟨32, tag, [a]⟩ fun s => s.planFields i
  | measure (a : Byte) (l : LinkIx) (o u : Pos) (h : a.toNat = l.val + 1) (ho : o.val = l.val) (hu : u.val = l.val + 1) :
      Query p tag (.qMeasure p tag [a]) ⟨34, tag, [a]⟩ fun s => s.linkFields l o u
  | band : Query p tag (.qBand p tag []) ⟨35, tag, []⟩ State.bandFields
  | pre : Query p tag (.qPre p tag []) ⟨36, tag, []⟩ State.preFields
  | fault : Query p tag (.qFault p tag []) ⟨37, tag, []⟩ State.faultFields
  | alert : Query p tag (.qAlert p tag []) ⟨38, tag, []⟩ fun s =>
      ((List.finRange 9).flatMap fun i =>
        [if s.faults.pending.get i then 1 else 0, if s.faults.enabled.get i then 1 else 0]) ++
        [if s.faults.waiting then 1 else 0, s.faults.seq]

/-- A query whose body names nothing, and the frame that carries it. -/
inductive EmptyQuery (p : PortId) (tag : Byte) : Instr → Frame → Prop where
  | junction (a : Byte) (h : a.toNat = 0 ∨ 24 < a.toNat) : EmptyQuery p tag (.qJunction p tag [a]) ⟨31, tag, [a]⟩
  | plan (a : Byte) (h : 16 ≤ a.toNat) : EmptyQuery p tag (.qPlan p tag [a]) ⟨32, tag, [a]⟩
  | pool (a n : Byte) (h : n.toNat = 0 ∨ 16 < n.toNat ∨ 256 < a.toNat + n.toNat) :
      EmptyQuery p tag (.qPool p tag [a, n]) ⟨33, tag, [a, n]⟩
  | measure (a : Byte) (h : a.toNat = 0 ∨ 23 < a.toNat) : EmptyQuery p tag (.qMeasure p tag [a]) ⟨34, tag, [a]⟩

end Sys2Proof.Machine

/-- A query, from either sender class, is answered OK with its record and changes nothing but its port; one that names nothing is
refused BAD_VALUE. The records follow R182 to R184 and their owners' rules; the model's reading of that scheme is one presence byte for
fields that are present together (assumption 10), 1 and 0 for flags that are set or clear (11), and the leading count of Q-POOL (10). Its
choices are the order of the measures' fields, the planned travel times and the queue records of Q-MEASURE (35), the flags of Q-ALERT class
by class and the health, available flag and seek state of Q-CHAIN position by position (40), and the entries of the order table of Q-PRE
in ascending position order (45). -/
def Obligations.QueryRule : Prop :=
  (∀ (s : State) (p : PortId) (tag : Byte) (c : Instr) (f : Frame) (q : Port), s.CanTake p f q →
    (∀ record, Query p tag c f record →
      exec c s = .next (s.replying p q f (s.senderClass p) .ok (record s))) ∧
    (EmptyQuery p tag c f → exec c s = .next (s.replying p q f (s.senderClass p) .badValue []))) ∧
  ∀ (s : State) (p : PortId) (tag a n : Byte) (q : Port), s.CanTake p ⟨33, tag, [a, n]⟩ q →
    1 ≤ n.toNat ∧ n.toNat ≤ 16 ∧ a.toNat + n.toNat ≤ 256 →
    ∃ entries : List (List Byte), entries.length = n.toNat ∧
      exec (.qPool p tag [a, n]) s =
        .next (s.replying p q ⟨33, tag, [a, n]⟩ (s.senderClass p) .ok (n :: entries.flatten)) ∧
      ∀ i, i < n.toNat → s.PoolFields (a.toNat + i) (entries.getD i [])

/-! ### The ports -/

/-- The bytes of a frame with a good check and a body of at most 248 bytes, received by a HUNTING port with room for them, leave
exactly that frame as the newest complete frame, and change nothing else (R178, R179, R185): decoding inverts encoding. -/
def Obligations.ReceivedFrameIsKept : Prop :=
  ∀ (s : State) (p : PortId) (f : Frame), s.powered = true → f.body.length ≤ 248 → (s.port p).receiving = [] →
    (s.port p).held + f.body.length + 6 ≤ 256 →
    exec (.portFrame p f.bytes) s = .next (s.setPort p { s.port p with frames := (s.port p).frames ++ [f] })

/-- The same frame with any other check is discarded and counted, and changes nothing else (R178). And the reception of bytes, however
they are spread over commands (R178, R179): HUNTING, only C3 hexadecimal begins a frame, and another byte is not counted; a length byte
outside 2..250 discards and counts the frame; later bytes are collected up to the check, which keeps the frame or discards and counts it;
a byte at a full buffer discards and counts the frame being received, if any; nothing else changes. -/
def Obligations.DamagedFrameIsDiscarded : Prop :=
  (∀ (s : State) (p : PortId) (f : Frame) (c1 c0 : Byte), s.powered = true → f.body.length ≤ 248 →
    (s.port p).receiving = [] → (s.port p).held + f.body.length + 6 ≤ 256 → [c1, c0] ≠ checkBytes f.covered →
    exec (.portFrame p (syncByte :: f.covered ++ [c1, c0])) s =
      .next (s.setPort p { s.port p with
        errors := if (s.port p).errors < 65535 then (s.port p).errors + 1 else (s.port p).errors })) ∧
  ∀ (s : State) (p : PortId), s.powered = true →
    let q := s.port p
    let discarded := s.setPort p
      { q with receiving := [], errors := if q.errors < 65535 then q.errors + 1 else q.errors }
    let holds := fun (l : List Byte) => s.setPort p { q with receiving := l }
    exec (.portFrame p []) s = .next s ∧
    (∀ a b, ∃ t, exec (.portFrame p a) s = .next t ∧ exec (.portFrame p (a ++ b)) s = exec (.portFrame p b) t) ∧
    ∀ b : Byte,
      (256 ≤ q.held → exec (.portFrame p [b]) s = .next (if q.receiving = [] then s else discarded)) ∧
      (q.held < 256 → q.receiving = [] → exec (.portFrame p [b]) s = .next (if b = 0xC3 then holds [b] else s)) ∧
      (∀ y, q.held < 256 → q.receiving = [y] →
        exec (.portFrame p [b]) s = .next (if 2 ≤ b.toNat ∧ b.toNat ≤ 250 then holds [y, b] else discarded)) ∧
      (∀ y len rest, q.held < 256 → q.receiving = y :: len :: rest → rest.length + 1 ≠ len.toNat + 2 →
        exec (.portFrame p [b]) s = .next (holds (y :: len :: rest ++ [b]))) ∧
      ∀ y len kind tag body c1 c0, q.held < 256 → q.receiving ++ [b] = y :: len :: kind :: tag :: body ++ [c1, c0] →
        body.length + 2 = len.toNat →
        exec (.portFrame p [b]) s = .next
          (if [c1, c0] = checkBytes (len :: kind :: tag :: body) then
             s.setPort p { q with receiving := [], frames := q.frames ++ [⟨kind, tag, body⟩] }
           else discarded)

/-- PORT_PAUSE, RECEIVE_BUFFER_FULL and REPLY_END (R178, R179, R167): the frame being received is discarded and counted, complete
frames are kept; at the end of a reply the request in progress ends, and its store write can no longer be lost. The model's choices:
RECEIVE_BUFFER_FULL with room and REPLY_END without a request change nothing (assumption 4), and a request's store write is complete at
its REPLY_END (assumption 20). -/
def Obligations.PortEventRule : Prop :=
  ∀ (s : State) (p : PortId), s.powered = true →
    let q := s.port p
    let discarded := s.setPort p
      { q with receiving := [], errors := if q.errors < 65535 then q.errors + 1 else q.errors }
    exec (.portPause p) s = .next (if q.receiving = [] then s else discarded) ∧
    (∀ b, exec (.receiveBufferFull p b) s =
      .next (if q.held < 256 ∨ q.receiving = [] then s else discarded)) ∧
    exec (.replyEnd p) s = .next
      (match q.inProgress with
       | none => s
       | some r =>
         { s.setPort p { q with inProgress := none, out := some r.reply } with
           unfinished := match s.unfinished with
             | some u => if u.port = some p then none else some u
             | none => none })

/-! ### The clock and the timebase -/

namespace Sys2Proof.Machine

/-- The causes from `s` to `t` over the end of a decisecond (R147): every remaining hold one down, and a hold that was at 1 over,
with reason EXPIRY. -/
def CountsDown (s t : State) : Prop :=
  ∀ v, (s.pre.causes.get v = none → t.pre.causes.get v = none ∧ t.pre.lastEnd.get v = s.pre.lastEnd.get v) ∧
    ∀ c, s.pre.causes.get v = some c →
      if 2 ≤ c.remaining then
        t.pre.causes.get v = some { c with remaining := c.remaining - 1 } ∧ t.pre.lastEnd.get v = s.pre.lastEnd.get v
      else t.pre.causes.get v = none ∧ t.pre.lastEnd.get v = some .expiry

/-- Every active cause counted down by one (R147). -/
def Pre.counted (x : Pre) : Pre :=
  { x with causes := Vector.ofFn fun v => (x.causes.get v).map fun c => { c with remaining := c.remaining - 1 } }

/-- The vectors whose holds end at this end of a decisecond, ascending (R147). -/
def State.endingHolds (s : State) : List VecIx :=
  (List.finRange 8).filter fun v => match s.pre.causes.get v with | some c => decide (c.remaining ≤ 1) | none => false

/-- The line of vector `v`, if it has one and that is ACTIVE, is disarmed from `s` to `t`; no other line changes (R147). -/
def Disarms (v : VecIx) (s t : State) : Prop :=
  ∀ k : LineIx, t.pre.lines.get k =
    if k.val = v.val ∧ (s.pre.lines.get k).active = true then { s.pre.lines.get k with armed := false } else s.pre.lines.get k

/-- From `s` to `t` the holds of the vectors `vs` end one at a time in this order, each whole before the next: HOLD_EXPIRED at the
clock's reading then, the ACTIVE line disarmed, the cause ended with reason EXPIRY (R147, R148). -/
def Expires : List VecIx → State → State → Prop
  | [], s, t => t = s
  | v :: vs, s, t =>
    ∃ m, Ends v .expiry s m ∧ Disarms v s m ∧ Raises [.holdExpired v] (EndAlerts s m) s m ∧ Expires vs m t

end Sys2Proof.Machine

/-- A decisecond boundary at a position below C − 1 (R46, R39, R49, R147): the position one up, the decisecond that begins takes
the length in force, a beacon due at a multiple of the interval, every hold counted down. The holds that end do so one at a time in
ascending vector order, each whole before the next, as Expires says; nothing else changes. Whether that falls before or after the clock's
advance, so that HOLD_EXPIRED is recorded with the old or the new position, is the operand of the command (assumption 12). -/
def Obligations.DecisecondRule : Prop :=
  ∀ (s : State) (o : BoundaryOrder), s.powered = true → s.clock.cyclePos + 1 ≠ s.clock.c →
    ∃ t, exec (.decisecond o) s = .next t ∧
      t.clock = { s.clock with dsRunning := s.clock.dsLength, cyclePos := s.clock.cyclePos + 1 } ∧
      t.trunk.waitingBeacon =
        (if (s.clock.cyclePos + 1) % s.clock.beaconInterval = 0 then some (s.trunk.waitingBeacon.getD false)
         else s.trunk.waitingBeacon) ∧
      { t.trunk with waitingBeacon := s.trunk.waitingBeacon, orders := s.trunk.orders } = s.trunk ∧ CountsDown s t ∧
      { t.kept with clock := s.clock } = s.kept ∧ t.band = s.band ∧ t.ctl = s.ctl ∧
      let ticked := fun (x : State) =>
        ({ x with clock := t.clock, trunk := { x.trunk with waitingBeacon := t.trunk.waitingBeacon } } : State)
      let u : State := { s with pre := s.pre.counted }
      (s.endingHolds = [] → t = ticked u) ∧
      (o.hold = .beforeClock → ∃ w, Expires s.endingHolds u w ∧ t = ticked w) ∧
      (o.hold ≠ .beforeClock → Expires s.endingHolds (ticked u) t)

namespace Sys2Proof.Machine

/-- The seek state after an activation (R32). -/
def SeekState.afterActivation (x : SeekState) : SeekState := match x with
  | .idle => .idle
  | .seeking | .inStep => .seeking
  | .suspended _ => .suspended .seeking

/-- A position over a rollover under the plan `h` then active: at an activation its target, running offset, direction and remaining are
gone, reload needed is yes and its seek state follows the table of R32; the round spent mark clears and the round correction is
recomputed (R32, R101, R114). Every other field is kept. -/
def PosRec.afterRollover (h : Header) (activated : Bool) (r : PosRec) : PosRec :=
  let r1 : PosRec :=
    if activated then
      { r with target := none, running := none, travel := none, reload := true, seek := r.seek.afterActivation }
    else r
  { r1 with spent := false, correction := ({ r1 with spent := false } : PosRec).owed h }

/-- How many computation triggers a rollover brings: ADAPTIVE, activation, turn of the tide (R76). -/
def rolloverTriggers (adaptive activated turned : Bool) : Nat :=
  (if adaptive then 1 else 0) + (if activated then 1 else 0) + (if turned then 1 else 0)

/-- From `s` to `t` the Band Computer takes the triggers of a rollover: the first starts a computation when none is in flight and the
master is COORDINATING, every other one sets the recompute-pending flag. Its snapshot is that of the plan then active, with a direction
and with measures as they stood before or after the Measurement Unit took the rollover; the flag is yes as well when the activation
sets another direction (R73, R76, R67). -/
def BandTurns (triggers : Nat) (m : BandMoment) (s t : State) : Prop :=
  if 1 ≤ triggers ∧ s.ctl.master = .coordinating ∧ s.band.inFlight = none then
    ∃ x, t.band = { s.band with
        inFlight := some x, number := s.band.number + 1, recompute := decide (2 ≤ triggers ∨ x.snap.dir ≠ t.meas.dir) } ∧
      x.Begun (s.band.number + 1) ∧
      (∃ links, (links = s.links ∨ links = t.links) ∧
        x.snap = ({ t with meas := { t.meas with dir := x.snap.dir }, links } : State).snapshot) ∧
      (m = .afterBoth → x.snap = t.snapshot)
  else t.band = { s.band with recompute := s.band.recompute || decide (1 ≤ triggers) }

/-- The POISON_USED faults of the computation that starts between `s` and `t`, if one does. -/
def State.startFaults (s t : State) : List FaultInfo :=
  match s.band.inFlight, t.band.inFlight with
  | none, some x => x.poisonUsed
  | _, _ => []

end Sys2Proof.Machine

/-- The rollover, by either of its two names (R47, R31 to R33, R50, R60, R76, R126, R147): position 0 and the next cycle number; the
pending plan active and written through, with its C; the round closed and the rollover beacon waiting; the triggers of the Band
Computer, so that a computation on the plan and direction then in force follows in whatever order the blocks take the rollover; every
hold counted down. Every position record is that of R32 and R101, and the faults and alerts are the POISON_USED of a computation that
starts, PLAN and TIDE; the holds that end do so one at a time in ascending vector order, each whole before the next, as Expires says,
before or after the change of the position records and those faults, as the order names; nothing else changes. The model's choices:
ROLLOVER and a DECISECOND at C − 1 are one event (assumption 13), ROLLOVER at any other position changes nothing (assumption 4), and the
order of the blocks is an operand (assumption 12; for R76 assumption 39), and an activation gives an owned position return state SEEKING
in every master state (43). -/
def Obligations.RolloverRule : Prop :=
  ∀ (s : State) (o : BoundaryOrder), s.powered = true →
    (s.clock.cyclePos + 1 ≠ s.clock.c → exec (.rollover o) s = .next s) ∧
    (s.clock.cyclePos + 1 = s.clock.c →
      let activated := s.plans.pendingSlot.isSome
      ∃ t, exec (.rollover o) s = .next t ∧ exec (.decisecond o) s = .next t ∧
        t.plans = { s.plans with active := s.plans.pendingSlot.getD s.plans.active, pendingSlot := none } ∧
        t.clock = { s.clock with
          dsRunning := s.clock.dsLength, cyclePos := 0, cycleNo := s.clock.cycleNo + 1, c := t.plan.c } ∧
        (s.plans.pendingSlot = none → t.store = s.store ∧ t.unfinished = s.unfinished) ∧
        (∀ i, s.plans.pendingSlot = some i →
          t.store = { s.store with active := i } ∧ t.unfinished = some { before := s.store, port := none } ∧
          t.meas.tide = 0 ∧ t.meas.dir = t.plan.startDir ∧
          ∀ p, (t.posRec p).target = none ∧ (t.posRec p).running = none ∧ (t.posRec p).travel = none ∧
            (t.posRec p).reload = true ∧ (t.posRec p).seek ≠ .inStep) ∧
        (∀ p, (t.posRec p).spent = false ∧ (t.posRec p).correction = (t.posRec p).owed t.plan) ∧
        CountsDown s t ∧ t.trunk.waitingBeacon = some true ∧
        { t.trunk with waitingBeacon := s.trunk.waitingBeacon, orders := s.trunk.orders } =
          { s.trunk with roundOpen := false } ∧
        (let turned := !activated && decide (t.meas.dir ≠ s.meas.dir)
         let alerts := fun (c : AlertClass) => c = .plan ∧ activated = true ∨ c = .tide ∧ turned = true
         let early : State := { s with pre := s.pre.counted, clock := if o.hold = .beforeClock then s.clock else t.clock }
         let quiet : State := { t with
           pos := Vector.ofFn fun p => (s.posRec p).afterRollover t.plan activated
           pre := s.pre.counted, trunk := { t.trunk with orders := s.trunk.orders }, faults := s.faults }
         BandTurns (rolloverTriggers t.plan.adaptive activated turned) o.band s t ∧
         (s.endingHolds = [] → t = { quiet with faults := t.faults } ∧ Raises (s.startFaults t) alerts quiet t) ∧
         (o.hold = .beforeClock ∨ o.hold = .beforeSeeks →
           ∃ w, Expires s.endingHolds early w ∧
             (∀ p, t.posRec p = (w.posRec p).afterRollover t.plan activated) ∧ t.trunk.orders = w.trunk.orders ∧
             t.pre = w.pre ∧ Raises (s.startFaults t) alerts { w with clock := t.clock } t) ∧
         (o.hold = .beforeBand →
           ∃ w, Expires s.endingHolds quiet w ∧ t = { w with faults := t.faults } ∧ Raises (s.startFaults t) alerts w t) ∧
         (o.hold = .afterAll →
           ∃ w, w = { quiet with faults := w.faults } ∧ Raises (s.startFaults t) alerts quiet w ∧
             Expires s.endingHolds w t)) ∧
        t.ctl = s.ctl ∧
        { t.kept with
          links := s.links, plans := s.plans, clock := s.clock, meas := s.meas, store := s.store
          unfinished := s.unfinished } = s.kept)

namespace Sys2Proof.Machine

/-- A measure over a rollover (R61, and the mark cleared at step 4 of R60). -/
def Measure.afterRollover (m : Measure) : Measure :=
  { m with
    sampled := false
    quality :=
      match m.quality with
      | .fresh v a => if m.sampled = true then .fresh v a else if a + 1 < 3 then .fresh v (a + 1) else .aged
      | x => x }

end Sys2Proof.Machine

/-- At each rollover a FRESH measure without the mark ages by one and becomes AGED at 3, with no smoothed value; a FRESH measure
with the mark, and a NONE, AGED or POISONED one, keeps its quality (R61). The marks are then cleared, and no length changes. -/
def Obligations.MeasuresAge : Prop :=
  ∀ (s : State) (o : BoundaryOrder), s.powered = true → s.clock.cyclePos + 1 = s.clock.c →
    ∃ t, exec (.rollover o) s = .next t ∧
      ∀ l, t.linkRec l = ⟨(s.linkRec l).length, (s.linkRec l).inb.afterRollover, (s.linkRec l).outb.afterRollover⟩

/-- The volumes and the tide at a rollover (R60, R62 to R66): each volume smoothed when half of the ENROLLED positions reported;
the report marks cleared; under a TIDAL plan, at a rollover that activates none, the turn condition on the volumes counted or the
count back at 0, and at the third in a row the direction reversed, TIDE raised and a trigger; otherwise no change of either. -/
def Obligations.TideRule : Prop :=
  ∀ (s t : State) (o : BoundaryOrder), s.powered = true → s.clock.cyclePos + 1 = s.clock.c →
    exec (.rollover o) s = .next t →
    let reports := (List.finRange 24).filter fun p => (s.meas.pos.get p).reported
    let n := s.enrolledCount
    let enough := 1 ≤ n ∧ (n + 1) / 2 ≤ reports.length
    let smoothed := fun (old : Nat) (count : PosMeas → Nat) =>
      (3 * old + (reports.map fun p => count (s.meas.pos.get p)).sum + 2) / 4
    let turns := match s.meas.dir with
      | .inbound => 5 * t.meas.volIn ≤ 4 * t.meas.volOut ∧ 1 ≤ t.meas.volOut
      | .outbound => 5 * t.meas.volOut ≤ 4 * t.meas.volIn ∧ 1 ≤ t.meas.volIn
    (∀ p, t.meas.pos.get p = { s.meas.pos.get p with reported := false }) ∧
    (enough → t.meas.volIn = smoothed s.meas.volIn (·.countIn) ∧ t.meas.volOut = smoothed s.meas.volOut (·.countOut)) ∧
    (¬enough → t.meas.volIn = s.meas.volIn ∧ t.meas.volOut = s.meas.volOut) ∧
    (s.plans.pendingSlot = none → s.plan.mode ≠ .tidal → t.meas.dir = s.meas.dir ∧ t.meas.tide = s.meas.tide) ∧
    (s.plans.pendingSlot = none → s.plan.mode = .tidal →
      (¬turns → t.meas.dir = s.meas.dir ∧ t.meas.tide = 0) ∧
      (turns → s.meas.tide + 1 < 3 → t.meas.dir = s.meas.dir ∧ t.meas.tide = s.meas.tide + 1) ∧
      (turns → ¬s.meas.tide + 1 < 3 →
        t.meas.dir = (match s.meas.dir with | .inbound => .outbound | .outbound => .inbound) ∧ t.meas.tide = 0 ∧
          t.faults.pending.get AlertClass.tide.ix = true ∧
          (t.band.recompute = true ∨ s.ctl.master = .coordinating ∧
            ∃ x, t.band.inFlight = some x ∧ x.number = s.band.number + 1 ∧ x.snap.dir = t.meas.dir)))

/-- REF pulses and the silence limit (R40 to R42): the count, the entry into REFERENCE at the eighth good pulse, the length of the
decisecond, the two reference losses, and the pulses that change nothing; nothing else.
That an event is taken at the later of its own time and the latest time named before is the model's choice (assumption 5). -/
def Obligations.ReferenceRule : Prop :=
  ∀ (s : State) (time : Nat), s.powered = true →
    let now := max s.now time
    let moved := fun tb ds => { s with now, clock := { s.clock with tb, dsLength := ds } }
    let lost := fun cause prev =>
      let u := (({ s with now } : State).fault (.referenceLost cause))
      let v := ({ u with clock := { u.clock with tb := .internal, dsLength := 1000 } } : State).alert .timebase
      match s.clock.pref with
      | .internalOnly => v
      | .preferReference => ({ v with clock := { v.clock with tb := .acquiring 0 prev } } : State).alert .timebase
    let good := fun prev => 990 ≤ now - prev ∧ now - prev ≤ 1010
    (s.clock.tb = .internal → exec (.refPulse time) s = .next { s with now }) ∧
    (∀ n, s.clock.tb = .acquiring n none →
      exec (.refPulse time) s = .next (moved (.acquiring 0 (some now)) s.clock.dsLength)) ∧
    (∀ n prev, s.clock.tb = .acquiring n (some prev) →
      (¬good prev → exec (.refPulse time) s = .next (moved (.acquiring 0 (some now)) s.clock.dsLength)) ∧
      (good prev → n ≠ 7 →
        exec (.refPulse time) s = .next (moved (.acquiring (n + 1) (some now)) s.clock.dsLength)) ∧
      (good prev → n = 7 →
        exec (.refPulse time) s = .next ((moved (.reference now (now - prev)) (now - prev)).alert .timebase))) ∧
    (∀ prev last, s.clock.tb = .reference prev last →
      (good prev → exec (.refPulse time) s = .next (moved (.reference now (now - prev)) (now - prev))) ∧
      (¬good prev → exec (.refPulse time) s = .next (lost .interval (some now))) ∧
      exec (.silenceLimit time) s =
        .next (if prev + 1500 ≤ now then lost .silence none else { s with now })) ∧
    ((∀ prev last, s.clock.tb ≠ .reference prev last) → exec (.silenceLimit time) s = .next { s with now })

/-! ### The input lines -/

/-- An input change and the settle of a preemption line (R137, R138): the measurement restarts; a debounce of 0 settles at once; a
line settles once when its level has stood for its debounce; turning active it starts the cause of its vector when all
conditions hold, turning inactive it ends an active one and is armed. `CauseLaw` holds in every run. The model's choices: an event is
taken at the later of its own time and the latest time named before (assumption 5), and a line of debounce 0 settles within the input
change, also when the level named stands already and has not settled (assumption 25). -/
def Obligations.PreLineRule : Prop :=
  ∀ (s : State) (time : Nat), s.powered = true →
    let u : State := { s with now := max s.now time }
    (∀ l high, (s.input l).high = high →
      (∀ k, l = .preempt k → (s.pre.lines.get k).cfg.debounce ≠ 0) →
      exec (.lineInputChange l high time) s = .next u) ∧
    (∀ l high, (s.input l).high ≠ high →
      (∀ k, l = .preempt k → (s.pre.lines.get k).cfg.debounce ≠ 0) →
      exec (.lineInputChange l high time) s = .next (u.setInput l ⟨high, u.now, false⟩)) ∧
    (∀ k high, (s.pre.lines.get k).cfg.debounce = 0 →
      exec (.lineInputChange (.preempt k) high time) s =
        exec (.preLineSettle k time)
          (if (s.pre.lines.get k).input.high = high then s else u.setInput (.preempt k) ⟨high, u.now, false⟩)) ∧
    ∀ k,
      let l := s.pre.lines.get k
      let v := vectorOfLine k
      let due := l.input.settled = false ∧ l.input.since + l.cfg.debounce ≤ u.now
      let high := (l.cfg.polarity = .activeHigh ↔ l.input.high = true)
      let put := fun active armed => u.setLine k ⟨l.cfg, active, armed, { l.input with settled := true }⟩
      let starts := l.armed = true ∧ (s.pre.vectors.get v).cls ≠ .unused ∧ s.pre.causes.get v = none ∧
        ((s.pre.vectors.get v).cls = .transit → s.ctl.master = .coordinating)
      (¬due → exec (.preLineSettle k time) s = .next u) ∧
      (due → high → l.active = true → exec (.preLineSettle k time) s = .next (put true l.armed)) ∧
      (due → high → l.active = false → ¬starts → exec (.preLineSettle k time) s = .next (put true l.armed)) ∧
      (due → high → l.active = false → starts → CauseLaw s →
        ∃ t, exec (.preLineSettle k time) s = .next t ∧ Starts v .line (put true true) t) ∧
      (due → ¬high → l.active = false ∨ s.pre.causes.get v = none →
        exec (.preLineSettle k time) s = .next (put false true)) ∧
      (due → ¬high → l.active = true → (s.pre.causes.get v).isSome = true →
        ∃ t, exec (.preLineSettle k time) s = .next t ∧ Ends v .line (put false true) t ∧
          Raises [] (EndAlerts s t) s t ∧ t.pre.lines = (put false true).pre.lines)

namespace Sys2Proof.Machine

/-- The settle of a HOLD, DETACH or KEY line at level `high` is due at time `now` (R156). -/
def CtlLine.Due (l : CtlLine) (high : Bool) (now : Nat) : Prop :=
  l.input.high = high ∧ l.input.settled = false ∧ l.input.since + 50 ≤ now

/-- The line settled at level `high`. -/
def CtlLine.at (l : CtlLine) (high : Bool) : CtlLine := ⟨high, { l.input with settled := true }⟩

end Sys2Proof.Machine

/-- The HOLD and KEY lines (R156, R159, R160): the line takes the level it settles at; HOLD turning active takes a COORDINATING
master to HOLD, HOLD turning inactive takes a HOLD master without another source to COORDINATING; KEY sets the sender class of
the field port. `CauseLaw` holds in every run. That an event is taken at the later of its own time and the latest time named
before is the model's choice (assumption 5). -/
def Obligations.HoldAndKeyLineRule : Prop :=
  ∀ (s : State) (time : Nat), s.powered = true →
    let u : State := { s with now := max s.now time }
    let hold := fun b => ({ u with ctl := { u.ctl with holdLine := s.ctl.holdLine.at b } } : State)
    let key := fun b => ({ u with ctl := { u.ctl with keyLine := s.ctl.keyLine.at b } } : State)
    (¬s.ctl.holdLine.Due true u.now → exec (.holdLineActive time) s = .next u) ∧
    (s.ctl.holdLine.Due true u.now → s.ctl.holdLine.active = true ∨ s.ctl.master ≠ .coordinating →
      exec (.holdLineActive time) s = .next (hold true)) ∧
    (s.ctl.holdLine.Due true u.now → s.ctl.holdLine.active = false → s.ctl.master = .coordinating →
      CauseLaw s → ∃ t, exec (.holdLineActive time) s = .next t ∧ Pauses .hold (hold true) t) ∧
    (¬s.ctl.holdLine.Due false u.now → exec (.holdLineInactive time) s = .next u) ∧
    (s.ctl.holdLine.Due false u.now →
      s.ctl.holdLine.active = false ∨ s.ctl.master ≠ .hold ∨ s.ctl.held = true →
      exec (.holdLineInactive time) s = .next (hold false)) ∧
    (s.ctl.holdLine.Due false u.now → s.ctl.holdLine.active = true → s.ctl.master = .hold → s.ctl.held = false →
      ∃ t, exec (.holdLineInactive time) s = .next t ∧ Resumes (hold false) t) ∧
    (s.ctl.keyLine.Due true u.now →
      exec (.keyLineActive time) s = .next (key true) ∧ (key true).senderClass .field = .supervisory) ∧
    (¬s.ctl.keyLine.Due true u.now → exec (.keyLineActive time) s = .next u) ∧
    (s.ctl.keyLine.Due false u.now →
      exec (.keyLineInactive time) s = .next (key false) ∧ (key false).senderClass .field = .field) ∧
    (¬s.ctl.keyLine.Due false u.now → exec (.keyLineInactive time) s = .next u)

/-- The DETACH line (R163, R164, R134, R112, R74): turning active it takes the master to DETACHED, which keeps the state it left, and the
attempt in flight is the last of its exchange; turning inactive it takes the master to the landing state, with the miss counts
cleared; a landing in FALLBACK from a stay begun in COORDINATING or HOLD is a fall of the seeks as well. `CauseLaw` holds in every run.
That an event is taken at the later of its own time and the latest time named before is the model's choice (assumption 5). -/
def Obligations.DetachLineRule : Prop :=
  ∀ (s : State) (time : Nat), s.powered = true →
    let u : State := { s with now := max s.now time }
    let line := fun b => ({ u with ctl := { u.ctl with detachLine := s.ctl.detachLine.at b } } : State)
    let resume := fun (m : Master) => match m with
      | .idle => Resume.idle
      | .coordinating => .coordinating
      | .hold => .hold
      | .fallback => .fallback
      | .detached r => r
    (¬s.ctl.detachLine.Due true u.now → exec (.detachLineActive time) s = .next u) ∧
    (s.ctl.detachLine.Due true u.now → s.ctl.detachLine.active = true ∨ s.ctl.master.isDetached = true →
      exec (.detachLineActive time) s = .next (line true)) ∧
    (s.ctl.detachLine.Due true u.now → s.ctl.detachLine.active = false → s.ctl.master = .coordinating →
      CauseLaw s → ∃ t, exec (.detachLineActive time) s = .next t ∧ Pauses (.detached .coordinating) (line true) t) ∧
    (s.ctl.detachLine.Due true u.now → s.ctl.detachLine.active = false →
      s.ctl.master = .idle ∨ s.ctl.master = .hold ∨ s.ctl.master = .fallback →
      exec (.detachLineActive time) s =
        .next (({ line true with
          ctl := { (line true).ctl with master := .detached (resume s.ctl.master) }
          trunk := { s.trunk with exchange := s.trunk.exchange.map fun x => { x with cut := true } } } : State).alert .state)) ∧
    (¬s.ctl.detachLine.Due false u.now → exec (.detachLineInactive time) s = .next u) ∧
    (s.ctl.detachLine.Due false u.now → s.ctl.detachLine.active = false ∨ s.ctl.master.isDetached = false →
      exec (.detachLineInactive time) s = .next (line false)) ∧
    ∀ r, s.ctl.detachLine.Due false u.now → s.ctl.detachLine.active = true → s.ctl.master = .detached r →
      let m : Master :=
        match r with
        | .idle => .idle
        | .fallback => .fallback
        | .coordinating | .hold =>
          if s.enrolledCount < 2 then .fallback
          else if s.ctl.holdLine.active = true ∨ s.ctl.held = true then .hold
          else .coordinating
      let well : State := { line false with
        pos := Vector.ofFn fun o => { s.posRec o with misses := 0, health := .online } }
      let returned := fun (c : AlertClass) => c = .junction ∧ ∃ o, (s.posRec o).health = .lost
      ∃ t, exec (.detachLineInactive time) s = .next t ∧ t.ctl = { (line false).ctl with master := m } ∧
        t.kept = (line false).kept ∧
        (m = .coordinating → Triggered .coordinating [] (fun c => c = .state ∨ returned c) s t) ∧
        (m = .hold → t.band = s.band) ∧ (m = .idle ∨ m = .fallback → t.band = { s.band with recompute := false }) ∧
        (¬(r.runs = true ∧ m = .fallback) → t.pos = well.pos ∧ t.pre = s.pre ∧ t.trunk = s.trunk ∧
          (m ≠ .coordinating → Raises [] (fun c => c = .state ∨ returned c) s t)) ∧
        (r.runs = true → m = .fallback → CauseLaw s →
          let old : Master := if r = .coordinating then .coordinating else .hold
          SeeksFall old well t ∧ { t.trunk with orders := s.trunk.orders } = s.trunk ∧
            Raises [.fallbackEntered .membership] (fun c => MasterAlerts old well t c ∨ returned c) s t)

/-! ### The computation -/

/-- The completion (R88 to R91): the outcome by the checks in their order; ACCEPTED replaces the record, writes the targets, from which
every SEEKING or IN_STEP position is evaluated (R98 to R101), and raises BAND, and SEEK when a position enters IN_STEP (R115); REFUSED
offers BAND_REFUSED for the first poisoned member; STALE is counted; then the recompute-pending flag is read, and a computation it starts
offers its POISON_USED faults. The trunk, the preemption, the master and the configuration stay. That a snapshot lists each position
once is `SnapshotLaw`. That COMPUTATION_COMPLETION with nothing in flight changes nothing is the model's choice (assumption 4). -/
def Obligations.CompletionRule : Prop :=
  ∀ s : State, s.powered = true →
    (s.band.inFlight = none → exec .computationCompletion s = .next s) ∧
    ∀ x, s.band.inFlight = some x → x.snap.positions.Pairwise (fun a b => a.pos < b.pos) →
      let plan := s.plans.active = x.snap.slot ∧ s.planTag.gen = x.snap.gen
      let master := s.ctl.master = .coordinating ∧ x.interrupted = false
      let v : Verdict :=
        if ¬plan then .stale .plan
        else if s.meas.dir ≠ x.snap.dir then .stale .direction
        else if s.memGen ≠ x.snap.memGen then .stale .membership
        else if ¬master then .stale .master
        else if x.snap.policy = .strict ∧ x.poisoned ≠ [] then .refused
        else .accepted
      let refused : List FaultInfo := match v, x.poisoned with
        | .refused, m :: _ => [.bandRefused m.1 m.2]
        | _, _ => []
      let again := s.band.recompute = true ∧ s.ctl.master = .coordinating
      let alerts := fun (t : State) (c : AlertClass) => v = .accepted ∧ (c = .band ∨ c = .seek ∧ EntersStep s t)
      ∃ t, exec .computationCompletion s = .next t ∧ t.band.outcome = some ⟨v, x.number⟩ ∧
        t.band.last = (if v = .accepted then some x.record else s.band.last) ∧
        t.band.staleCount = (match v with
          | .stale _ => if s.band.staleCount < 65535 then s.band.staleCount + 1 else s.band.staleCount
          | _ => s.band.staleCount) ∧
        (¬again → t.band.inFlight = none ∧ t.band.recompute = s.band.recompute ∧ t.band.number = s.band.number ∧
          Raises refused (alerts t) s t) ∧
        (again → t.band.recompute = false ∧ t.band.number = s.band.number + 1 ∧
          ∃ y, t.band.inFlight = some y ∧ y.StartsAt (s.band.number + 1) t ∧
            Raises (refused ++ y.poisonUsed) (alerts t) s t) ∧
        (v ≠ .accepted → t.pos = s.pos) ∧
        (v = .accepted →
          (∀ o, (∀ e, e ∈ x.record.entries → e.pos ≠ o) → t.posRec o = s.posRec o) ∧
          ∀ e, e ∈ x.record.entries →
            let r := s.posRec e.pos
            let r' := t.posRec e.pos
            r' = { r with target := some e.target, seek := r'.seek, travel := r'.travel, correction := r'.owed s.plan } ∧
              (r.seek.isActive = true → r'.travel = r'.seekTravel s.plan ∧
                r'.seek = if r.running = some e.target then .inStep else .seeking) ∧
              (r.seek.isActive = false → r'.seek = r.seek ∧ r'.travel = r.travel)) ∧
        t.trunk = s.trunk ∧ t.pre = s.pre ∧ t.ctl = s.ctl ∧ t.kept = s.kept

/-! ### The trunk -/

namespace Sys2Proof.Machine

/-- The arbiter may grant: no exchange in flight and the master not DETACHED (R124, R134). -/
def State.LineFree (s : State) : Prop := s.trunk.exchange = none ∧ s.ctl.master.isDetached = false

/-- The order of position `o` waits, resting or not, with a drop address to send it to (R124). -/
def State.Waits (s : State) (o : Pos) (resting : Bool) (e : OrderEntry) (d : Nat) : Prop :=
  s.trunk.orders.get o = some e ∧ e.resting = resting ∧ (s.posRec o).enrolment.drop = some d

/-- No STEP of the open round waits: none is left above the cursor, or no round is open (R126). -/
def State.RoundDone (s : State) : Prop :=
  s.trunk.roundOpen = true → ∀ o, s.isEnrolled o = true → ∃ c, s.trunk.cursor = some c ∧ o ≤ c

/-- The trunk of `s` after a grant has ended the rest of every order (R124). -/
def State.awake (s : State) : Trunk :=
  { s.trunk with orders := Vector.ofFn fun o => (s.trunk.orders.get o).map fun e => { e with resting := false } }

/-- The correction of a STEP built now for `p`: the round correction in COORDINATING, to a junction that is neither PREEMPTED nor LOCAL;
otherwise 0 (R102, R121 and the table of section 7.9; assumption 38). -/
def State.stepCorrection (s : State) (p : Pos) : Int :=
  if s.ctl.master = .coordinating ∧ (s.posRec p).mode ≠ .preempted ∧ (s.posRec p).mode ≠ .localHeld then
    (s.posRec p).correction
  else 0

/-- The STEP frame built now for `p` at drop address `d`: order mode, C, plan tag, correction, and the split set of its timing entry
while reload needed is yes (R121, R186; no split set without a timing entry is assumption 36). -/
def State.stepOut (s : State) (p : Pos) (d : Nat) : TrunkFrame :=
  let order : Byte := if s.ctl.master = .coordinating ∨ s.ctl.master = .hold then 0 else 1
  { addr := byte d, kind := 2
    body := [order] ++ half s.plan.c ++ [byte s.plans.active.val, s.planTag.gen] ++ signed (s.stepCorrection p) ++
      match (s.posRec p).reload, s.plans.entryOf s.plans.active p with
      | true, some e => [1] ++ half e.inb.s ++ half e.inb.e ++ half e.outb.s ++ half e.outb.e
      | _, _ => [0] }

/-- The position records once a STEP is built for `p`: the value carried is recorded with the cycle number (R102). -/
def State.stepRecorded (s : State) (p : Pos) : Vector PosRec 24 :=
  s.pos.set p.val { s.posRec p with sent := some ⟨s.stepCorrection p, s.clock.cycleNo⟩ } p.isLt

end Sys2Proof.Machine

/-- The grants of a beacon and of a STEP (R124 to R126, R121, R102, R186): what goes out, field by field, and what it leaves
waiting, recorded and in flight; nothing else. With an exchange in flight, or while the master is DETACHED, nothing is granted, neither
these two nor an order nor a PROBE (R124, R134); nor is a beacon or a STEP when it is not its turn. The model's choices: a grant that is
not the arbiter's next changes nothing (assumption 4), a BEACON is sent whole in the event of its grant, so that the line
is free after it (assumption 14), what a STEP carries to a PREEMPTED or LOCAL junction, and without a timing entry (38 and 36), and the
bytes of two-byte and signed fields (41). -/
def Obligations.BeaconAndStepGrants : Prop :=
  (∀ s : State, ¬s.LineFree →
    exec .beacon s = .next s ∧ exec .stepFrame s = .next s ∧ exec .preemptFrame s = .next s ∧
      exec .releaseFrame s = .next s ∧ exec .probeFrame s = .next s) ∧
  (∀ s : State,
    ((∃ o e d, s.Waits o false e d) ∨ s.trunk.waitingBeacon = none → exec .beacon s = .next s) ∧
    ((∃ o e d, s.Waits o false e d) ∨ s.trunk.waitingBeacon ≠ none ∨ s.RoundDone → exec .stepFrame s = .next s)) ∧
  ∀ s : State, s.powered = true → s.LineFree → (∀ o e d, ¬s.Waits o false e d) →
    (∀ mark, s.trunk.waitingBeacon = some mark →
      exec .beacon s = .next { s with trunk := { s.awake with
        waitingBeacon := none
        roundOpen := s.trunk.roundOpen || mark
        cursor := if mark then none else s.trunk.cursor
        probeDone := s.trunk.probeDone && !mark
        out := some
          { addr := 0, kind := 1
            body := half s.clock.cyclePos ++ half s.clock.cycleNo.toNat ++ half s.clock.c } } }) ∧
    ∀ (p : Pos) (d : Nat), s.trunk.waitingBeacon = none → s.trunk.roundOpen = true →
      (s.posRec p).enrolment = .enrolled d → (∀ c, s.trunk.cursor = some c → c < p) →
      (∀ o, s.isEnrolled o = true → o < p → ∃ c, s.trunk.cursor = some c ∧ o ≤ c) →
      exec .stepFrame s = .next
        { s with
          pos := s.stepRecorded p
          trunk := { s.awake with
            cursor := some p
            exchange := some { kind := .step, pos := p, drop := d, second := false, cut := false }
            out := some (s.stepOut p d) } }

/-- The grants of a PREEMPT, a RELEASE and a PROBE (R124, R131, R132, R186): the lowest waiting order first, resting ones last; the
probe of the first candidate after the pointer, or the probe of the round done when there is none; nothing else. An order is not granted
when none waits, when only resting ones wait and a beacon, a STEP or the PROBE of the round does, or by the command of the other order; a
PROBE is not granted when it is not its turn: such a command changes nothing (assumption 4; with the line not free, BeaconAndStepGrants).
That a PROBE without a candidate ends the rest of every order as a grant does is the model's reading (assumption 15). -/
def Obligations.OrderAndProbeGrants : Prop :=
  (∀ s : State,
    ((∀ o resting e d, ¬s.Waits o resting e d) ∨
      (∀ o e d, ¬s.Waits o false e d) ∧
        (s.trunk.waitingBeacon ≠ none ∨ ¬s.RoundDone ∨ s.trunk.roundOpen = true ∧ s.trunk.probeDone = false) →
      exec .preemptFrame s = .next s ∧ exec .releaseFrame s = .next s) ∧
    ((∃ o e d, s.Waits o false e d) ∨ s.trunk.waitingBeacon ≠ none ∨ ¬s.RoundDone ∨ s.trunk.roundOpen = false ∨
        s.trunk.probeDone = true →
      exec .probeFrame s = .next s)) ∧
  ∀ s : State, s.powered = true → s.LineFree →
    (∀ (p : Pos) (e : OrderEntry) (d : Nat) (resting : Bool), s.Waits p resting e d →
      (∀ o e' d', s.Waits o resting e' d' → p ≤ o) →
      (resting = true → (∀ o e' d', ¬s.Waits o false e' d') ∧ s.trunk.waitingBeacon = none ∧ s.RoundDone ∧
        (s.trunk.roundOpen = true → s.trunk.probeDone = true)) →
      let sent := fun (kind : ExchangeKind) (k : Byte) (body : List Byte) =>
        Host.Outcome.next { s with trunk := { s.awake with
          orders := s.awake.orders.set p.val (some { e with resting := false, sent := true }) p.isLt
          exchange := some { kind, pos := p, drop := d, second := false, cut := false }
          out := some { addr := byte d, kind := k, body } } }
      (∀ v cls phase, e.order = .preempt v cls phase →
        exec .preemptFrame s = sent .preempt 4 [byte v.val, cls.code, phase.code] ∧ exec .releaseFrame s = .next s) ∧
      (e.order = .release → exec .releaseFrame s = sent .release 5 [] ∧ exec .preemptFrame s = .next s)) ∧
    ((∀ o e d, ¬s.Waits o false e d) → s.trunk.waitingBeacon = none → s.RoundDone → s.trunk.roundOpen = true →
      s.trunk.probeDone = false →
      ((∀ o, (s.posRec o).probeCandidate = false) →
        exec .probeFrame s = .next { s with trunk := { s.awake with probeDone := true } }) ∧
      ∀ (p : Pos) (d : Nat), (s.posRec p).probeCandidate = true → (s.posRec p).enrolment.drop = some d →
        (∀ o, (s.posRec o).probeCandidate = true →
          (p.val + 23 - s.trunk.probePtr.val) % 24 ≤ (o.val + 23 - s.trunk.probePtr.val) % 24) →
        exec .probeFrame s = .next { s with trunk := { s.awake with
          exchange := some { kind := .probe, pos := p, drop := d, second := false, cut := false }
          out := some { addr := byte d, kind := 7, body := [] } } })

namespace Sys2Proof.Machine

/-- From `m` to `m'` a measure takes one direction of a report: length of the link, speed bounds of the active plan, sample,
detector fault (R54 to R57). -/
def Measure.Takes (h : Header) (length sample : Nat) (fault : Bool) (m m' : Measure) : Prop :=
  let present := 1 ≤ sample ∧ sample ≤ 9999
  let low := travelTime length h.speedMax
  let high := travelTime length h.speedMin
  let clamped := length ≠ 0 ∧ (sample < low ∨ high < sample)
  let value := if length ≠ 0 ∧ sample < low then low else if length ≠ 0 ∧ high < sample then high else sample
  (fault = false → ¬present → m' = m) ∧
  (fault = false → present →
    m' =
      { lastRaw := some sample, sampled := true
        clamps := if clamped then (if m.clamps < 65535 then m.clamps + 1 else m.clamps) else m.clamps
        quality := match m.quality with
          | .fresh v _ => .fresh ((3 * v + value + 2) / 4) 0
          | _ => .fresh value 0 }) ∧
  (fault = true →
    m' = { m with quality := .poisoned, sampled := false, lastRaw := if present then some sample else m.lastRaw })

end Sys2Proof.Machine

/-- An accepted REPORT (R122, R127, R54 to R59, R103 to R105, R108, R109): the exchange over, the junction ONLINE, the measures of
its two links, its queues and counts, the tag and reload, the running offset, the mode, the seek with its direction and remaining (R98,
R99), the round and its correction (R101); JUNCTION for a junction that was LOST and SEEK for a position that enters IN_STEP (R115, R128);
nothing else. Any accepted or detector fault byte but 0 counts as set, and an absent tag's slot byte is not read (R186). The model's
reading: a presence byte above 1 is present (assumption 32), and two-byte fields stand high byte first (41). -/
def Obligations.ReportRule : Prop :=
  ∀ (s : State) (x : Exchange) (addr op o1 o0 acc tp sl gen mode ci co qi qo ti1 ti0 to1 to0 fi fo : Byte) (slot : SlotIx) (m : Mode),
    s.powered = true → s.trunk.exchange = some x → x.kind = .step → addr.toNat = x.drop → m.code = mode →
    (tp ≠ 0 → sl.toNat = slot.val) →
    let p := x.pos
    let r := s.posRec p
    let h := s.plan
    let tag := if tp ≠ 0 then some ({ slot, gen } : PlanTag) else none
    let offset := o1.toNat * 256 + o0.toNat
    let moved := match r.sent with | some c => if acc ≠ 0 then c.value else 0 | none => 0
    let running :=
      if op ≠ 0 ∧ offset < h.c ∧ tag = some s.planTag then some (modC ((offset : Int) + moved) h.c) else none
    let evaluated : SeekState := if r.target.isSome = true ∧ r.target = running then .inStep else .seeking
    let held := m = .preempted ∨ m = .localHeld
    ∃ t, exec (.report addr [op, o1, o0, acc, tp, sl, gen, mode, ci, co, qi, qo, ti1, ti0, to1, to0, fi, fo]) s = .next t ∧
      t.trunk = { s.trunk with exchange := none } ∧
      (let r' := t.posRec p
       r'.misses = 0 ∧ r'.health = .online ∧ r'.tagSeen = tag ∧ r'.reload = decide (tag ≠ some s.planTag) ∧
        r'.running = running ∧ r'.sent = none ∧
        r'.spent = (r.spent || match r.sent with | some c => decide (c.cycle = s.clock.cycleNo) | none => false) ∧
        r'.mode = (if r.owner.isSome then r.mode else m) ∧
        r'.seek =
          (match r.seek with
           | .idle => .idle
           | .seeking | .inStep => if r.owner = none ∧ held then .suspended .seeking else evaluated
           | .suspended ret =>
             if r.owner.isSome ∨ held then .suspended ret
             else if ret = .idle ∨ s.ctl.master.runs = false then .idle
             else evaluated) ∧
        (r'.seek = .seeking ∨ r'.seek = .inStep → r'.travel = r'.seekTravel h) ∧
        (r'.seek = .idle ∨ (∃ ret, r'.seek = .suspended ret) →
          r'.travel = if r'.seek = r.seek then r.travel else none) ∧ r'.correction = r'.owed h ∧
        r'.target = r.target ∧ r'.enrolment = r.enrolment ∧ r'.available = r.available ∧ r'.owner = r.owner ∧
        r'.claims = r.claims) ∧
      (∀ o, o ≠ p → t.posRec o = s.posRec o) ∧
      Raises [] (fun c => c = .junction ∧ r.health = .lost ∨ c = .seek ∧ EntersStep s t) s t ∧
      (∀ l : LinkIx, (t.linkRec l).length = (s.linkRec l).length ∧
        (if l.val = p.val then
           (s.linkRec l).inb.Takes h (s.linkRec l).length (ti1.toNat * 256 + ti0.toNat) (fi != 0) (t.linkRec l).inb
         else (t.linkRec l).inb = (s.linkRec l).inb) ∧
        (if l.val + 1 = p.val then
           (s.linkRec l).outb.Takes h (s.linkRec l).length (to1.toNat * 256 + to0.toNat) (fo != 0) (t.linkRec l).outb
         else (t.linkRec l).outb = (s.linkRec l).outb)) ∧
      t.meas = { s.meas with
        pos := (s.meas.pos.set p.val
          ⟨some ⟨min qi.toNat 60, s.clock.cycleNo⟩, some ⟨min qo.toNat 60, s.clock.cycleNo⟩, true, ci.toNat, co.toNat⟩
          p.isLt) } ∧
      t.band = s.band ∧ t.pre = s.pre ∧ t.ctl = s.ctl ∧
      { t.kept with links := s.links, meas := s.meas } = s.kept

/-- An accepted ACK and an accepted ANSWER (R122, R131, R132, R108): the order delivered, when not replaced since; the probe of the
round done, the junction available and its mode taken; in both the junction ONLINE with no miss; no other position, order or block
changes. -/
def Obligations.AckAndAnswerRule : Prop :=
  ∀ (s : State) (x : Exchange) (addr : Byte), s.powered = true → s.trunk.exchange = some x → addr.toNat = x.drop →
    let r := s.posRec x.pos
    (x.kind = .preempt ∨ x.kind = .release →
      ∃ t, exec (.ack addr [if x.kind = .preempt then 4 else 5]) s = .next t ∧
        t.trunk = { s.trunk with
          exchange := none
          orders := match s.trunk.orders.get x.pos with
            | some e => if e.sent then s.trunk.orders.set x.pos.val none x.pos.isLt else s.trunk.orders
            | none => s.trunk.orders } ∧
        t.pos = s.pos.set x.pos.val { r with misses := 0, health := .online } x.pos.isLt ∧
        Raises [] (fun c => c = .junction ∧ r.health = .lost) s t ∧
        t.band = s.band ∧ t.pre = s.pre ∧ t.ctl = s.ctl ∧ t.kept = s.kept) ∧
    ∀ (mode : Byte) (m : Mode), x.kind = .probe → m.code = mode →
      ∃ t, exec (.answer addr [mode]) s = .next t ∧
        t.trunk = { s.trunk with exchange := none, probePtr := x.pos, probeDone := true } ∧
        t.pos = s.pos.set x.pos.val
          { r with
            misses := 0, health := .online, available := true, mode := if r.owner.isSome then r.mode else m } x.pos.isLt ∧
        Raises [] (fun c => c = .junction ∧ (r.health = .lost ∨ r.available = false)) s t ∧
        t.band = s.band ∧ t.pre = s.pre ∧ t.ctl = s.ctl ∧ t.kept = s.kept

namespace Sys2Proof.Machine

/-- The command that receives a trunk frame with a good check from address `a`, of kind `k` and body `b` (R186). -/
inductive Receives (a : Byte) (b : List Byte) : Instr → Byte → Prop where
  | report : Receives a b (.report a b) 3
  | ack : Receives a b (.ack a b) 6
  | answer : Receives a b (.answer a b) 8
  | other (k : Byte) : Receives a b (.trunkBadFrame (.wellChecked a k b)) k

/-- The frame is the answer that exchange `x` awaits: its address, its kind, a body of the length of that kind with a junction mode and
a present slot in their ranges, and for an ACK the kind of the order (R122, R186). -/
def Exchange.Awaits (x : Exchange) (a k : Byte) (b : List Byte) : Prop :=
  a.toNat = x.drop ∧
    match x.kind with
    | .step => k = 3 ∧ b.length = 18 ∧ (b.getD 7 0).toNat ≤ 3 ∧ (b.getD 4 0 = 0 ∨ (b.getD 5 0).toNat ≤ 15)
    | .preempt => k = 6 ∧ b = [4]
    | .release => k = 6 ∧ b = [5]
    | .probe => k = 8 ∧ b.length = 1 ∧ (b.getD 0 0).toNat ≤ 3

/-- What leaves the attempt `x` in flight without its answer: the event, and the state with the count it raises (R122). -/
inductive Fails (s : State) (x : Exchange) : Instr → State → Prop where
  | expires : Fails s x .responseWindowExpiry
      { s with trunk := { s.trunk with
        noAnswers := if s.trunk.noAnswers < 65535 then s.trunk.noAnswers + 1 else s.trunk.noAnswers } }
  | badCheck : Fails s x (.trunkBadFrame .badCheck)
      { s with trunk := { s.trunk with
        badFrames := if s.trunk.badFrames < 65535 then s.trunk.badFrames + 1 else s.trunk.badFrames } }
  | wrong (a k : Byte) (b : List Byte) (c : Instr) (h : Receives a b c k) (hx : ¬x.Awaits a k b) :
      Fails s x c { s with trunk := { s.trunk with
        badFrames := if s.trunk.badFrames < 65535 then s.trunk.badFrames + 1 else s.trunk.badFrames } }

/-- A position after a STEP failure: after a correction other than 0 its running offset is gone, and a seek waits; the round is spent
when the correction was of this cycle; the correction sent is cleared and the round correction recomputed (R106). -/
def PosRec.afterStepFailure (h : Header) (cycleNo : Half) (r : PosRec) : PosRec :=
  let waits := r.seek = .seeking ∨ r.seek = .inStep
  let r1 : PosRec := match r.sent with
    | none => r
    | some y =>
      { r with
        running := if y.value = 0 then r.running else none
        seek := if y.value ≠ 0 ∧ waits then .seeking else r.seek
        travel := if y.value ≠ 0 ∧ waits then none else r.travel
        spent := r.spent || decide (y.cycle = cycleNo)
        sent := none }
  { r1 with correction := r1.owed h }

/-- The order table after the failed attempt of the order of position `p`: an entry that still has its sent mark counts the failure and
rests (R131). -/
def Trunk.ordersAfterFailure (t : Trunk) (p : Pos) : Vector (Option OrderEntry) 24 :=
  match t.orders.get p with
  | some e =>
    if e.sent then
      t.orders.set p.val
        (some { e with fails := if e.fails < 255 then e.fails + 1 else e.fails, resting := true, sent := false }) p.isLt
    else t.orders
  | none => t.orders

/-- PREEMPT_UNDELIVERED, with the position and the vector of a PREEMPT, when that failure is the order's third (R131, R170). -/
def Trunk.undelivered (t : Trunk) (p : Pos) : List FaultInfo :=
  match t.orders.get p with
  | some e =>
    if e.sent = true ∧ e.fails = 2 then
      [.preemptUndelivered p (match e.order with | .preempt v _ _ => some v | .release => none)]
    else []
  | none => []

end Sys2Proof.Machine

/-- An attempt that fails (R122, R123, R131, R132, R134, R106, R128): without an exchange only a bad check is counted; a first STEP or
PROBE attempt is made again, built afresh, unless the master is DETACHED or has been since the attempt was sent, or the position has no
drop address: then a STEP is a STEP failure without a miss, and a PROBE is over; a second PROBE attempt ends the probe of the round; an
order attempt rests the order, counts a miss, and at its third failure offers PREEMPT_UNDELIVERED; a second STEP attempt is a STEP failure
and counts a miss. A count of 5 stays, and the change to LOST offers JUNCTION_LOST and JUNCTION. A miss by which no loss is handed on (the
position not LOST by it, or not ENROLLED, or LOST before an order attempt) changes no other position, order or block; the others are
LossIsHandedOn. The model's choices: a PROBE without a second attempt sets the pointer all the same (assumption 16), the second attempt
is sent in the same event (17), an expiry or a frame without an exchange changes nothing (4) but for the count of a bad check (37),
PREEMPT_UNDELIVERED comes before JUNCTION_LOST (18), and what a STEP carries in the cases of assumptions 36 and 38. -/
def Obligations.FailedAttemptRule : Prop :=
  (∀ s : State, s.powered = true → s.trunk.exchange = none →
    exec .responseWindowExpiry s = .next s ∧
    (∀ a k b c, Receives a b c k → exec c s = .next s) ∧
    exec (.trunkBadFrame .badCheck) s = .next { s with trunk := { s.trunk with
      badFrames := if s.trunk.badFrames < 65535 then s.trunk.badFrames + 1 else s.trunk.badFrames } }) ∧
  ∀ (s : State) (x : Exchange) (c : Instr) (u : State), s.powered = true → s.trunk.exchange = some x → Fails s x c u →
    let r := s.posRec x.pos
    let last := x.cut = true ∨ s.ctl.master.isDetached = true ∨ r.enrolment.drop = none
    let count := if r.misses < 5 then r.misses + 1 else r.misses
    let health : Health := if count ≤ 1 then .online else if count ≤ 4 then .suspect else .lost
    let missed := fun (y : PosRec) => ({ y with misses := count, health } : PosRec)
    let lost : List FaultInfo := if health = .lost ∧ r.health ≠ .lost then [.junctionLost x.pos] else []
    let alerts := fun (c : AlertClass) =>
      c = .junction ∧ (health = .lost ∧ r.health ≠ .lost ∨ health = .online ∧ r.health = .lost)
    let handed := r.enrolment.isEnrolled = true ∧ health = .lost
    (∀ d, x.kind = .probe → x.second = false → ¬last → r.enrolment.drop = some d →
      exec c s = .next { u with trunk := { u.trunk with
        exchange := some { kind := .probe, pos := x.pos, drop := d, second := true, cut := false }
        out := some { addr := byte d, kind := 7, body := [] } } }) ∧
    (x.kind = .probe → x.second = true ∨ last →
      exec c s = .next { u with trunk := { u.trunk with exchange := none, probePtr := x.pos, probeDone := true } }) ∧
    (∀ d, x.kind = .step → x.second = false → ¬last → r.enrolment.drop = some d →
      exec c s = .next
        { u with
          pos := s.stepRecorded x.pos
          trunk := { u.trunk with
            exchange := some { kind := .step, pos := x.pos, drop := d, second := true, cut := false }
            out := some (s.stepOut x.pos d) } }) ∧
    (x.kind = .step → x.second = false → last →
      exec c s = .next
        { u with
          pos := s.pos.set x.pos.val (r.afterStepFailure s.plan s.clock.cycleNo) x.pos.isLt
          trunk := { u.trunk with exchange := none } }) ∧
    (x.kind = .preempt ∨ x.kind = .release → s.trunk.orders.get x.pos = none →
      exec c s = .next { u with trunk := { u.trunk with exchange := none } }) ∧
    (x.kind = .preempt ∨ x.kind = .release → (s.trunk.orders.get x.pos).isSome = true → ¬(handed ∧ r.health ≠ .lost) →
      ∃ t, exec c s = .next t ∧
        t.trunk = { u.trunk with exchange := none, orders := s.trunk.ordersAfterFailure x.pos } ∧
        t.pos = s.pos.set x.pos.val (missed r) x.pos.isLt ∧
        Raises (s.trunk.undelivered x.pos ++ lost) alerts s t ∧
        t.band = s.band ∧ t.pre = s.pre ∧ t.ctl = s.ctl ∧ t.kept = s.kept) ∧
    (x.kind = .step → x.second = true → ¬handed →
      ∃ t, exec c s = .next t ∧ t.trunk = { u.trunk with exchange := none } ∧
        t.pos = s.pos.set x.pos.val (missed (r.afterStepFailure s.plan s.clock.cycleNo)) x.pos.isLt ∧
        Raises lost alerts s t ∧
        t.band = s.band ∧ t.pre = s.pre ∧ t.ctl = s.ctl ∧ t.kept = s.kept)

/-- A loss is handed on (R128, R129, R10, R151, R162): by the failed second attempt of a STEP that makes the fifth miss in a row of an
ENROLLED position, or finds it LOST still, and by the failed attempt of an order that makes the fifth miss; by an expiry or by a wrong or
damaged frame alike. The fifth miss offers JUNCTION_LOST and JUNCTION. Under TOLERANT policy the position is EXCLUDED with cause LOST, its
seek, owner, pending causes and order gone, the generation one up, a computation triggered; when fewer than two positions are then
ENROLLED, a master that is not FALLBACK or DETACHED falls to FALLBACK. Under STRICT policy the position stays ENROLLED, and such a master
falls to FALLBACK. `CauseLaw` holds in every run. PREEMPT_UNDELIVERED before JUNCTION_LOST is the model's choice (assumption 18). -/
def Obligations.LossIsHandedOn : Prop :=
  ∀ (s : State) (x : Exchange) (c : Instr) (u : State) (d : Nat), s.powered = true → s.trunk.exchange = some x →
    Fails s x c u → (s.posRec x.pos).enrolment = .enrolled d → CauseLaw s →
    let r := s.posRec x.pos
    let step := x.kind = .step
    (if step then x.second = true else (s.trunk.orders.get x.pos).isSome = true ∧ x.kind ≠ .probe) →
    r.misses = 4 ∧ r.health ≠ .lost ∨ step ∧ r.misses = 5 ∧ r.health = .lost →
    let failed : PosRec := if step then r.afterStepFailure s.plan s.clock.cycleNo else r
    let orders := if step then s.trunk.orders else s.trunk.ordersAfterFailure x.pos
    let faults := (if step then [] else s.trunk.undelivered x.pos) ++
      (if r.misses = 4 then [FaultInfo.junctionLost x.pos] else [])
    let alerts := fun (c : AlertClass) => c = .junction ∧ r.misses = 4
    let out := s.ctl.master = .fallback ∨ s.ctl.master.isDetached = true
    let kept : State := { u with
      pos := s.pos.set x.pos.val { failed with misses := 5, health := .lost } x.pos.isLt
      trunk := { u.trunk with exchange := none, orders } }
    let excluded : State := { u with
      pos := s.pos.set x.pos.val
        { failed with
          misses := 5, health := .lost, enrolment := .excluded d .lost, available := false, target := none, running := none
          travel := none, seek := .idle, correction := 0, owner := none, claims := [] } x.pos.isLt
      trunk := { u.trunk with exchange := none, orders := orders.set x.pos.val none x.pos.isLt }
      memGen := s.memGen + 1
      store := { s.store with chain := s.store.chain.set x.pos.val (.excluded d .lost) x.pos.isLt }
      unfinished := some { before := s.store, port := none } }
    ∃ t, exec c s = .next t ∧
      (s.ctl.policy = .strict → out →
        t.pos = kept.pos ∧ t.trunk = kept.trunk ∧ t.band = s.band ∧ t.pre = s.pre ∧ t.ctl = s.ctl ∧
          t.kept = kept.kept ∧ Raises faults alerts s t) ∧
      (s.ctl.policy = .strict → ¬out →
        SeeksFall s.ctl.master kept t ∧ t.ctl = { s.ctl with master := .fallback } ∧ t.kept = kept.kept ∧
          { t.trunk with orders } = kept.trunk ∧
          t.band = { s.band with
            recompute := false
            inFlight := s.band.inFlight.map fun y =>
              { y with interrupted := y.interrupted || decide (s.ctl.master = .coordinating) } } ∧
          Raises (faults ++ [.fallbackEntered (.lost x.pos)]) (fun c => alerts c ∨ MasterAlerts s.ctl.master kept t c) s t) ∧
      (s.ctl.policy = .tolerant → out ∨ 3 ≤ s.enrolledCount →
        t.pos = excluded.pos ∧ t.trunk = excluded.trunk ∧ t.pre = s.pre ∧ t.ctl = s.ctl ∧ t.kept = excluded.kept ∧
          Triggered s.ctl.master faults alerts s t) ∧
      (s.ctl.policy = .tolerant → ¬out → s.enrolledCount < 3 →
        SeeksFall s.ctl.master excluded t ∧ t.ctl = { s.ctl with master := .fallback } ∧ t.kept = excluded.kept ∧
          { t.trunk with orders := excluded.trunk.orders } = excluded.trunk ∧
          t.band = { s.band with
            recompute := true
            inFlight := s.band.inFlight.map fun y =>
              { y with interrupted := y.interrupted || decide (s.ctl.master = .coordinating) } } ∧
          Raises (faults ++ [.fallbackEntered .membership]) (fun c => alerts c ∨ MasterAlerts s.ctl.master excluded t c) s t)

/-! ### The laws every step keeps -/

/-- Every step keeps the law of the fault record and the next-fault set, the law of the miss counts and the health, and the law of
the remaining holds (R171, R118, R147). -/
def Obligations.StepKeepsRecordLaws : Prop :=
  ∀ s t : State, step s = .next t →
    (FaultLaw s → FaultLaw t) ∧ (HealthLaw s → HealthLaw t) ∧ (HoldLaw s → HoldLaw t)

/-- Every step keeps the law of owned positions (R142, R145). -/
def Obligations.StepKeepsOwnerLaw : Prop := ∀ s t : State, step s = .next t → OwnerLaw s → OwnerLaw t

/-- Every step keeps the law that owners and pending causes are active causes, in rank order, each named once (R142, R145, R148). -/
def Obligations.StepKeepsCauseLaw : Prop := ∀ s t : State, step s = .next t → CauseLaw s → CauseLaw t

/-- Every step keeps the law that coordination runs over at least two ENROLLED positions (R155), the law of IN_STEP (R96), and the law of
direction, remaining and round correction (R95 to R101); and, with the laws of the clock and the active plan, the law that targets and
running offsets lie below C (R96). The last rests on the law of the snapshot in flight, which a step keeps unless it brings the snapshot's
slot back to the snapshot's generation: 256 loads of a slot within the 500 ms of R80, which the model does not measure (assumption 27). -/
def Obligations.StepKeepsCoordinationLaws : Prop :=
  ∀ s t : State, step s = .next t →
    (MembersLaw s → MembersLaw t) ∧ (InStepLaw s → InStepLaw t) ∧ (SeekLaw s → SeekLaw t) ∧
    (ClockBase s → ClockLaw s → SnapshotLaw s → OffsetLaw s → OffsetLaw t) ∧
    (SnapshotLaw s →
      (∀ x, s.band.inFlight = some x → (s.plans.slot x.snap.slot).gen ≠ x.snap.gen →
        (t.plans.slot x.snap.slot).gen ≠ x.snap.gen) →
      SnapshotLaw t)

/-- Every step keeps the law of the timebase (R38). -/
def Obligations.StepKeepsTimebaseLaw : Prop := ∀ s t : State, step s = .next t → TimebaseLaw s → TimebaseLaw t

/-- Every step keeps the configuration store equal to the configuration the blocks run with (R167). -/
def Obligations.StepKeepsMirrorLaw : Prop := ∀ s t : State, step s = .next t → MirrorLaw s → MirrorLaw t

/-- Every step keeps the laws of the cycle clock and the active plan, with what they rest on (R29, R48), and the laws of the plans: slot
0 is the factory plan, READY and locked (R27), the runs in the pool never overlap (R21), and the active and the pending plan have an entry
for every ENROLLED position (R29). -/
def Obligations.StepKeepsClockLaw : Prop :=
  ∀ s t : State, step s = .next t → ClockBase s → ClockLaw s → ClockBase t ∧ ClockLaw t ∧ (PlanLaw s → PlanLaw t)

/-- Every step keeps the drop addresses in range and each held by one position (R5). -/
def Obligations.StepKeepsDropLaw : Prop := ∀ s t : State, step s = .next t → DropLaw s → DropLaw t

/-! ### The progression band -/

/-- With at least one enrolled position and every peak green in 100..C − 100, the peak band is the least g − q, and lies in
50..C − 100 (R82). -/
def Obligations.PeakBandLaw : Prop :=
  ∀ n : Snapshot, n.positions ≠ [] →
    (∀ x, x ∈ n.positions → 100 ≤ n.peakGreen x ∧ n.peakGreen x + 100 ≤ n.c) →
    let queueLead := fun x => if n.peakGreen x / 2 < x.queue * n.headway then n.peakGreen x / 2 else x.queue * n.headway
    (∀ x, x ∈ n.positions → n.peakBand ≤ n.peakGreen x - queueLead x) ∧
    (∃ x, x ∈ n.positions ∧ n.peakBand = n.peakGreen x - queueLead x) ∧ 50 ≤ n.peakBand ∧ n.peakBand + 100 ≤ n.c

namespace Sys2Proof.Machine

/-- `t` is the first position of a run of `n` consecutive members of `mem`, taken circularly in a cycle of `c`, and no longer one
(R85). -/
structure RunAt (mem : Nat → Prop) (c t n : Nat) : Prop where
  inCycle : t < c
  some : 1 ≤ n
  first : ¬mem ((t + c - 1) % c)
  members : ∀ i, i < n → mem ((t + i) % c)
  whole : ¬mem ((t + n) % c)

/-- `b` and `start` are the partial band and the run start of the common set `mem`: the length of its longest run and the lowest first
position among the runs of that length; 0 and absent for an empty set (R85). -/
def PartialBand (mem : Nat → Prop) (c b : Nat) (start : Option Nat) : Prop :=
  (∀ t, t < c → ¬mem t) ∧ b = 0 ∧ start = none ∨
    ∃ t, start = some t ∧ RunAt mem c t b ∧ ∀ t' b', RunAt mem c t' b' → b' < b ∨ b' = b ∧ t ≤ t'

/-- The travel value between positions `a` and `b` in direction `d`: the sum over the links between them (R13, R81). -/
def Computation.between (x : Computation) (d : Dir) (a b : Pos) : Nat :=
  (x.travel.map fun v =>
    if min a.val b.val ≤ v.link.val ∧ v.link.val < max a.val b.val then
      (match d with | .inbound => v.inb | .outbound => v.outb)
    else 0).sum

/-- `as` are the arrivals of traffic of direction `d` at the positions `l`, in the order it meets them: 0 at the first, and at each later
one that of the one before plus the segment value (R81, R84). -/
def Computation.Arrive (x : Computation) (d : Dir) (l : List SnapPos) (as : List Nat) : Prop :=
  as.length = l.length ∧ (∀ a, as[0]? = some a → a = 0) ∧
    ∀ j y z a b, l[j]? = some y → l[j + 1]? = some z → as[j]? = some a → as[j + 1]? = some b →
      b = a + x.between d y.pos z.pos

/-- The peak offset θ, the queue lead q, the slack k = g − q − W and the counter window of position `y`, with peak arrival `a` and counter
arrival `b` (R82 to R84). -/
def Snapshot.rowOf (n : Snapshot) (y : SnapPos) (a b : Nat) : CounterRow :=
  let g := modC ((y.peak.e : Int) - y.peak.s) n.c
  let q := if g / 2 < y.queue * n.headway then g / 2 else y.queue * n.headway
  { pos := y.pos, theta := modC ((n.origin : Int) + a - q - y.peak.s) n.c, lead := q, slack := g - q - n.peakBand
    start := y.counter.s, green := modC ((y.counter.e : Int) - y.counter.s) n.c, arrival := b }

/-- The common set of these positions, each shifted by minus its number of slide steps: the departures that fall into every counter
green (R84, R85). -/
def Common (c step : Nat) (l : List (CounterRow × Nat)) (t : Nat) : Prop :=
  ∀ y, y ∈ l → modC ((t + y.1.arrival : Nat) - ((y.1.theta : Int) - (y.2 * step : Nat) + y.1.start)) c < y.1.green

end Sys2Proof.Machine

/-- The band record of a computation (R79, R81, R83 to R87, R92). Its head is that of the snapshot, with the peak band of PeakBandLaw, and
degraded says that the poisoned set is not empty. With the arrivals of both directions, the peak offset θ, the queue lead and the slack of
each position as R81 to R84 give them, each position in counter order takes, of the multiples of the slide step from 0 down to its slack,
the one of largest partial band with the choices before it, and the one nearest 0 among equals; the counter band and its start are the
partial band and the run start of all of them; the record holds one entry for each position of the snapshot, in its order, which ascends
by `SnapshotLaw`, with final target (θ + δ) mod C, slide, queue lead and slack. So every slide is a multiple of the slide step between −k
and 0, no final target is outside 0..C − 1, and the counter band exceeds no counter green. -/
def Obligations.SlideAndCounterBandLaw : Prop :=
  ∀ x : Computation, 0 < x.snap.c → 0 < x.snap.slideStep →
    (∀ e, e ∈ x.record.entries → e.target < x.snap.c ∧ ∃ i : Nat, e.slide = -((i * x.snap.slideStep : Nat) : Int) ∧
      i * x.snap.slideStep ≤ e.slack) ∧
    (∀ y, y ∈ x.snap.positions → x.record.counterBand ≤ x.snap.counterGreen y) ∧
    x.record.entries.map (·.pos) = x.snap.positions.map (·.pos) ∧
    (let r := x.record
     r.number = x.number ∧ r.slot = x.snap.slot ∧ r.gen = x.snap.gen ∧ r.c = x.snap.c ∧ r.memGen = x.snap.memGen ∧
       r.startCycle = x.snap.cycleNo ∧ r.dir = x.snap.dir ∧ r.w = x.snap.peakBand ∧ r.origin = x.snap.origin ∧
       (r.degraded = true ↔ x.poisoned ≠ [])) ∧
    let peak := match x.snap.dir with | .inbound => x.snap.positions.reverse | .outbound => x.snap.positions
    let back := match x.snap.dir with | .inbound => Dir.outbound | .outbound => .inbound
    ∃ (as bs steps : List Nat), x.Arrive x.snap.dir peak as ∧ x.Arrive back peak.reverse bs ∧
      let rows := (peak.reverse.zip (as.reverse.zip bs)).map fun y => x.snap.rowOf y.1 y.2.1 y.2.2
      steps.length = rows.length ∧
      (let entries := (rows.zip steps).map fun y =>
         ({ pos := y.1.pos, target := modC ((y.1.theta : Int) - (y.2 * x.snap.slideStep : Nat)) x.snap.c
            slide := -((y.2 * x.snap.slideStep : Nat) : Int), lead := y.1.lead, slack := y.1.slack } : BandEntry)
       x.record.entries = match x.snap.dir with | .inbound => entries | .outbound => entries.reverse) ∧
      (rows ≠ [] →
        PartialBand (Common x.snap.c x.snap.slideStep (rows.zip steps)) x.snap.c x.record.counterBand x.record.counterStart) ∧
      ∀ j row k, (rows.zip steps)[j]? = some (row, k) →
        let before := (rows.zip steps).take j
        let stage := fun n => Common x.snap.c x.snap.slideStep (before ++ [(row, n)])
        k * x.snap.slideStep ≤ row.slack ∧
          ∃ b start, PartialBand (stage k) x.snap.c b start ∧
            ∀ n b' start', n * x.snap.slideStep ≤ row.slack → PartialBand (stage n) x.snap.c b' start' →
              b' < b ∨ b' = b ∧ k ≤ n

/-- Whatever slides are chosen, the peak band stays whole: every departure from the peak anchor in origin..origin + W − 1 meets
usable green at every enrolled position under its final target (R83 and the section after it). -/
def Obligations.SlidesKeepThePeakBand : Prop :=
  ∀ x : Computation, 0 < x.snap.c → (∀ y, y ∈ x.snap.positions → x.snap.peakGreen y ≤ x.snap.c) →
    ∀ y a, (y, a) ∈ x.snap.peakOrder.zip (arrivals x.travel x.snap.dir 0 x.snap.peakOrder) →
      ∃ e, e ∈ x.record.entries ∧ e.pos = y.pos ∧ e.lead = x.snap.lead y ∧
        ∀ u, u < x.record.w →
          let phase := modC (((x.snap.origin + u + a : Nat) : Int) - (e.target + y.peak.s)) x.snap.c
          x.snap.lead y ≤ phase ∧ phase < x.snap.peakGreen y
end

