-- ==== Sys2Proof/Laws/State.lean ====
section
/-! SUPPORT. One lemma per field for each update of the state: what the field holds after it. -/

namespace Sys2Proof.Machine

variable (s : State)

/-! ### State.setPosRec -/

@[simp] theorem State.setPosRec_pos (p : Pos) (r : PosRec) : (s.setPosRec p r).pos = s.pos.set p.val r p.isLt := rfl
@[simp] theorem State.setPosRec_links (p : Pos) (r : PosRec) : (s.setPosRec p r).links = s.links := rfl
@[simp] theorem State.setPosRec_memGen (p : Pos) (r : PosRec) : (s.setPosRec p r).memGen = s.memGen := rfl
@[simp] theorem State.setPosRec_plans (p : Pos) (r : PosRec) : (s.setPosRec p r).plans = s.plans := rfl
@[simp] theorem State.setPosRec_clock (p : Pos) (r : PosRec) : (s.setPosRec p r).clock = s.clock := rfl
@[simp] theorem State.setPosRec_meas (p : Pos) (r : PosRec) : (s.setPosRec p r).meas = s.meas := rfl
@[simp] theorem State.setPosRec_band (p : Pos) (r : PosRec) : (s.setPosRec p r).band = s.band := rfl
@[simp] theorem State.setPosRec_trunk (p : Pos) (r : PosRec) : (s.setPosRec p r).trunk = s.trunk := rfl
@[simp] theorem State.setPosRec_pre (p : Pos) (r : PosRec) : (s.setPosRec p r).pre = s.pre := rfl
@[simp] theorem State.setPosRec_ctl (p : Pos) (r : PosRec) : (s.setPosRec p r).ctl = s.ctl := rfl
@[simp] theorem State.setPosRec_faults (p : Pos) (r : PosRec) : (s.setPosRec p r).faults = s.faults := rfl
@[simp] theorem State.setPosRec_centre (p : Pos) (r : PosRec) : (s.setPosRec p r).centre = s.centre := rfl
@[simp] theorem State.setPosRec_field (p : Pos) (r : PosRec) : (s.setPosRec p r).field = s.field := rfl
@[simp] theorem State.setPosRec_store (p : Pos) (r : PosRec) : (s.setPosRec p r).store = s.store := rfl
@[simp] theorem State.setPosRec_unfinished (p : Pos) (r : PosRec) : (s.setPosRec p r).unfinished = s.unfinished := rfl
@[simp] theorem State.setPosRec_powered (p : Pos) (r : PosRec) : (s.setPosRec p r).powered = s.powered := rfl
@[simp] theorem State.setPosRec_now (p : Pos) (r : PosRec) : (s.setPosRec p r).now = s.now := rfl
@[simp] theorem State.setPosRec_pending (p : Pos) (r : PosRec) : (s.setPosRec p r).pending = s.pending := rfl

/-! ### State.setLinkRec -/

@[simp] theorem State.setLinkRec_pos (l : LinkIx) (r : LinkRec) : (s.setLinkRec l r).pos = s.pos := rfl
@[simp] theorem State.setLinkRec_links (l : LinkIx) (r : LinkRec) :
    (s.setLinkRec l r).links = s.links.set l.val r l.isLt := rfl
@[simp] theorem State.setLinkRec_memGen (l : LinkIx) (r : LinkRec) : (s.setLinkRec l r).memGen = s.memGen := rfl
@[simp] theorem State.setLinkRec_plans (l : LinkIx) (r : LinkRec) : (s.setLinkRec l r).plans = s.plans := rfl
@[simp] theorem State.setLinkRec_clock (l : LinkIx) (r : LinkRec) : (s.setLinkRec l r).clock = s.clock := rfl
@[simp] theorem State.setLinkRec_meas (l : LinkIx) (r : LinkRec) : (s.setLinkRec l r).meas = s.meas := rfl
@[simp] theorem State.setLinkRec_band (l : LinkIx) (r : LinkRec) : (s.setLinkRec l r).band = s.band := rfl
@[simp] theorem State.setLinkRec_trunk (l : LinkIx) (r : LinkRec) : (s.setLinkRec l r).trunk = s.trunk := rfl
@[simp] theorem State.setLinkRec_pre (l : LinkIx) (r : LinkRec) : (s.setLinkRec l r).pre = s.pre := rfl
@[simp] theorem State.setLinkRec_ctl (l : LinkIx) (r : LinkRec) : (s.setLinkRec l r).ctl = s.ctl := rfl
@[simp] theorem State.setLinkRec_faults (l : LinkIx) (r : LinkRec) : (s.setLinkRec l r).faults = s.faults := rfl
@[simp] theorem State.setLinkRec_centre (l : LinkIx) (r : LinkRec) : (s.setLinkRec l r).centre = s.centre := rfl
@[simp] theorem State.setLinkRec_field (l : LinkIx) (r : LinkRec) : (s.setLinkRec l r).field = s.field := rfl
@[simp] theorem State.setLinkRec_store (l : LinkIx) (r : LinkRec) : (s.setLinkRec l r).store = s.store := rfl
@[simp] theorem State.setLinkRec_unfinished (l : LinkIx) (r : LinkRec) :
    (s.setLinkRec l r).unfinished = s.unfinished := rfl
@[simp] theorem State.setLinkRec_powered (l : LinkIx) (r : LinkRec) : (s.setLinkRec l r).powered = s.powered := rfl
@[simp] theorem State.setLinkRec_now (l : LinkIx) (r : LinkRec) : (s.setLinkRec l r).now = s.now := rfl
@[simp] theorem State.setLinkRec_pending (l : LinkIx) (r : LinkRec) : (s.setLinkRec l r).pending = s.pending := rfl

/-! ### State.setBand -/

@[simp] theorem State.setBand_pos (x : Band) : (s.setBand x).pos = s.pos := rfl
@[simp] theorem State.setBand_links (x : Band) : (s.setBand x).links = s.links := rfl
@[simp] theorem State.setBand_memGen (x : Band) : (s.setBand x).memGen = s.memGen := rfl
@[simp] theorem State.setBand_plans (x : Band) : (s.setBand x).plans = s.plans := rfl
@[simp] theorem State.setBand_clock (x : Band) : (s.setBand x).clock = s.clock := rfl
@[simp] theorem State.setBand_meas (x : Band) : (s.setBand x).meas = s.meas := rfl
@[simp] theorem State.setBand_band (x : Band) : (s.setBand x).band = x := rfl
@[simp] theorem State.setBand_trunk (x : Band) : (s.setBand x).trunk = s.trunk := rfl
@[simp] theorem State.setBand_pre (x : Band) : (s.setBand x).pre = s.pre := rfl
@[simp] theorem State.setBand_ctl (x : Band) : (s.setBand x).ctl = s.ctl := rfl
@[simp] theorem State.setBand_faults (x : Band) : (s.setBand x).faults = s.faults := rfl
@[simp] theorem State.setBand_centre (x : Band) : (s.setBand x).centre = s.centre := rfl
@[simp] theorem State.setBand_field (x : Band) : (s.setBand x).field = s.field := rfl
@[simp] theorem State.setBand_store (x : Band) : (s.setBand x).store = s.store := rfl
@[simp] theorem State.setBand_unfinished (x : Band) : (s.setBand x).unfinished = s.unfinished := rfl
@[simp] theorem State.setBand_powered (x : Band) : (s.setBand x).powered = s.powered := rfl
@[simp] theorem State.setBand_now (x : Band) : (s.setBand x).now = s.now := rfl
@[simp] theorem State.setBand_pending (x : Band) : (s.setBand x).pending = s.pending := rfl

/-! ### State.setTrunk -/

@[simp] theorem State.setTrunk_pos (x : Trunk) : (s.setTrunk x).pos = s.pos := rfl
@[simp] theorem State.setTrunk_links (x : Trunk) : (s.setTrunk x).links = s.links := rfl
@[simp] theorem State.setTrunk_memGen (x : Trunk) : (s.setTrunk x).memGen = s.memGen := rfl
@[simp] theorem State.setTrunk_plans (x : Trunk) : (s.setTrunk x).plans = s.plans := rfl
@[simp] theorem State.setTrunk_clock (x : Trunk) : (s.setTrunk x).clock = s.clock := rfl
@[simp] theorem State.setTrunk_meas (x : Trunk) : (s.setTrunk x).meas = s.meas := rfl
@[simp] theorem State.setTrunk_band (x : Trunk) : (s.setTrunk x).band = s.band := rfl
@[simp] theorem State.setTrunk_trunk (x : Trunk) : (s.setTrunk x).trunk = x := rfl
@[simp] theorem State.setTrunk_pre (x : Trunk) : (s.setTrunk x).pre = s.pre := rfl
@[simp] theorem State.setTrunk_ctl (x : Trunk) : (s.setTrunk x).ctl = s.ctl := rfl
@[simp] theorem State.setTrunk_faults (x : Trunk) : (s.setTrunk x).faults = s.faults := rfl
@[simp] theorem State.setTrunk_centre (x : Trunk) : (s.setTrunk x).centre = s.centre := rfl
@[simp] theorem State.setTrunk_field (x : Trunk) : (s.setTrunk x).field = s.field := rfl
@[simp] theorem State.setTrunk_store (x : Trunk) : (s.setTrunk x).store = s.store := rfl
@[simp] theorem State.setTrunk_unfinished (x : Trunk) : (s.setTrunk x).unfinished = s.unfinished := rfl
@[simp] theorem State.setTrunk_powered (x : Trunk) : (s.setTrunk x).powered = s.powered := rfl
@[simp] theorem State.setTrunk_now (x : Trunk) : (s.setTrunk x).now = s.now := rfl
@[simp] theorem State.setTrunk_pending (x : Trunk) : (s.setTrunk x).pending = s.pending := rfl

/-! ### State.setPre -/

@[simp] theorem State.setPre_pos (x : Pre) : (s.setPre x).pos = s.pos := rfl
@[simp] theorem State.setPre_links (x : Pre) : (s.setPre x).links = s.links := rfl
@[simp] theorem State.setPre_memGen (x : Pre) : (s.setPre x).memGen = s.memGen := rfl
@[simp] theorem State.setPre_plans (x : Pre) : (s.setPre x).plans = s.plans := rfl
@[simp] theorem State.setPre_clock (x : Pre) : (s.setPre x).clock = s.clock := rfl
@[simp] theorem State.setPre_meas (x : Pre) : (s.setPre x).meas = s.meas := rfl
@[simp] theorem State.setPre_band (x : Pre) : (s.setPre x).band = s.band := rfl
@[simp] theorem State.setPre_trunk (x : Pre) : (s.setPre x).trunk = s.trunk := rfl
@[simp] theorem State.setPre_pre (x : Pre) : (s.setPre x).pre = x := rfl
@[simp] theorem State.setPre_ctl (x : Pre) : (s.setPre x).ctl = s.ctl := rfl
@[simp] theorem State.setPre_faults (x : Pre) : (s.setPre x).faults = s.faults := rfl
@[simp] theorem State.setPre_centre (x : Pre) : (s.setPre x).centre = s.centre := rfl
@[simp] theorem State.setPre_field (x : Pre) : (s.setPre x).field = s.field := rfl
@[simp] theorem State.setPre_store (x : Pre) : (s.setPre x).store = s.store := rfl
@[simp] theorem State.setPre_unfinished (x : Pre) : (s.setPre x).unfinished = s.unfinished := rfl
@[simp] theorem State.setPre_powered (x : Pre) : (s.setPre x).powered = s.powered := rfl
@[simp] theorem State.setPre_now (x : Pre) : (s.setPre x).now = s.now := rfl
@[simp] theorem State.setPre_pending (x : Pre) : (s.setPre x).pending = s.pending := rfl

/-! ### State.setCtl -/

@[simp] theorem State.setCtl_pos (x : Ctl) : (s.setCtl x).pos = s.pos := rfl
@[simp] theorem State.setCtl_links (x : Ctl) : (s.setCtl x).links = s.links := rfl
@[simp] theorem State.setCtl_memGen (x : Ctl) : (s.setCtl x).memGen = s.memGen := rfl
@[simp] theorem State.setCtl_plans (x : Ctl) : (s.setCtl x).plans = s.plans := rfl
@[simp] theorem State.setCtl_clock (x : Ctl) : (s.setCtl x).clock = s.clock := rfl
@[simp] theorem State.setCtl_meas (x : Ctl) : (s.setCtl x).meas = s.meas := rfl
@[simp] theorem State.setCtl_band (x : Ctl) : (s.setCtl x).band = s.band := rfl
@[simp] theorem State.setCtl_trunk (x : Ctl) : (s.setCtl x).trunk = s.trunk := rfl
@[simp] theorem State.setCtl_pre (x : Ctl) : (s.setCtl x).pre = s.pre := rfl
@[simp] theorem State.setCtl_ctl (x : Ctl) : (s.setCtl x).ctl = x := rfl
@[simp] theorem State.setCtl_faults (x : Ctl) : (s.setCtl x).faults = s.faults := rfl
@[simp] theorem State.setCtl_centre (x : Ctl) : (s.setCtl x).centre = s.centre := rfl
@[simp] theorem State.setCtl_field (x : Ctl) : (s.setCtl x).field = s.field := rfl
@[simp] theorem State.setCtl_store (x : Ctl) : (s.setCtl x).store = s.store := rfl
@[simp] theorem State.setCtl_unfinished (x : Ctl) : (s.setCtl x).unfinished = s.unfinished := rfl
@[simp] theorem State.setCtl_powered (x : Ctl) : (s.setCtl x).powered = s.powered := rfl
@[simp] theorem State.setCtl_now (x : Ctl) : (s.setCtl x).now = s.now := rfl
@[simp] theorem State.setCtl_pending (x : Ctl) : (s.setCtl x).pending = s.pending := rfl

/-! ### State.setClock -/

@[simp] theorem State.setClock_pos (x : Clock) : (s.setClock x).pos = s.pos := rfl
@[simp] theorem State.setClock_links (x : Clock) : (s.setClock x).links = s.links := rfl
@[simp] theorem State.setClock_memGen (x : Clock) : (s.setClock x).memGen = s.memGen := rfl
@[simp] theorem State.setClock_plans (x : Clock) : (s.setClock x).plans = s.plans := rfl
@[simp] theorem State.setClock_clock (x : Clock) : (s.setClock x).clock = x := rfl
@[simp] theorem State.setClock_meas (x : Clock) : (s.setClock x).meas = s.meas := rfl
@[simp] theorem State.setClock_band (x : Clock) : (s.setClock x).band = s.band := rfl
@[simp] theorem State.setClock_trunk (x : Clock) : (s.setClock x).trunk = s.trunk := rfl
@[simp] theorem State.setClock_pre (x : Clock) : (s.setClock x).pre = s.pre := rfl
@[simp] theorem State.setClock_ctl (x : Clock) : (s.setClock x).ctl = s.ctl := rfl
@[simp] theorem State.setClock_faults (x : Clock) : (s.setClock x).faults = s.faults := rfl
@[simp] theorem State.setClock_centre (x : Clock) : (s.setClock x).centre = s.centre := rfl
@[simp] theorem State.setClock_field (x : Clock) : (s.setClock x).field = s.field := rfl
@[simp] theorem State.setClock_store (x : Clock) : (s.setClock x).store = s.store := rfl
@[simp] theorem State.setClock_unfinished (x : Clock) : (s.setClock x).unfinished = s.unfinished := rfl
@[simp] theorem State.setClock_powered (x : Clock) : (s.setClock x).powered = s.powered := rfl
@[simp] theorem State.setClock_now (x : Clock) : (s.setClock x).now = s.now := rfl
@[simp] theorem State.setClock_pending (x : Clock) : (s.setClock x).pending = s.pending := rfl

/-! ### State.setPlans -/

@[simp] theorem State.setPlans_pos (x : PlanStore) : (s.setPlans x).pos = s.pos := rfl
@[simp] theorem State.setPlans_links (x : PlanStore) : (s.setPlans x).links = s.links := rfl
@[simp] theorem State.setPlans_memGen (x : PlanStore) : (s.setPlans x).memGen = s.memGen := rfl
@[simp] theorem State.setPlans_plans (x : PlanStore) : (s.setPlans x).plans = x := rfl
@[simp] theorem State.setPlans_clock (x : PlanStore) : (s.setPlans x).clock = s.clock := rfl
@[simp] theorem State.setPlans_meas (x : PlanStore) : (s.setPlans x).meas = s.meas := rfl
@[simp] theorem State.setPlans_band (x : PlanStore) : (s.setPlans x).band = s.band := rfl
@[simp] theorem State.setPlans_trunk (x : PlanStore) : (s.setPlans x).trunk = s.trunk := rfl
@[simp] theorem State.setPlans_pre (x : PlanStore) : (s.setPlans x).pre = s.pre := rfl
@[simp] theorem State.setPlans_ctl (x : PlanStore) : (s.setPlans x).ctl = s.ctl := rfl
@[simp] theorem State.setPlans_faults (x : PlanStore) : (s.setPlans x).faults = s.faults := rfl
@[simp] theorem State.setPlans_centre (x : PlanStore) : (s.setPlans x).centre = s.centre := rfl
@[simp] theorem State.setPlans_field (x : PlanStore) : (s.setPlans x).field = s.field := rfl
@[simp] theorem State.setPlans_store (x : PlanStore) : (s.setPlans x).store = s.store := rfl
@[simp] theorem State.setPlans_unfinished (x : PlanStore) : (s.setPlans x).unfinished = s.unfinished := rfl
@[simp] theorem State.setPlans_powered (x : PlanStore) : (s.setPlans x).powered = s.powered := rfl
@[simp] theorem State.setPlans_now (x : PlanStore) : (s.setPlans x).now = s.now := rfl
@[simp] theorem State.setPlans_pending (x : PlanStore) : (s.setPlans x).pending = s.pending := rfl

/-! ### State.setMeas -/

@[simp] theorem State.setMeas_pos (x : Meas) : (s.setMeas x).pos = s.pos := rfl
@[simp] theorem State.setMeas_links (x : Meas) : (s.setMeas x).links = s.links := rfl
@[simp] theorem State.setMeas_memGen (x : Meas) : (s.setMeas x).memGen = s.memGen := rfl
@[simp] theorem State.setMeas_plans (x : Meas) : (s.setMeas x).plans = s.plans := rfl
@[simp] theorem State.setMeas_clock (x : Meas) : (s.setMeas x).clock = s.clock := rfl
@[simp] theorem State.setMeas_meas (x : Meas) : (s.setMeas x).meas = x := rfl
@[simp] theorem State.setMeas_band (x : Meas) : (s.setMeas x).band = s.band := rfl
@[simp] theorem State.setMeas_trunk (x : Meas) : (s.setMeas x).trunk = s.trunk := rfl
@[simp] theorem State.setMeas_pre (x : Meas) : (s.setMeas x).pre = s.pre := rfl
@[simp] theorem State.setMeas_ctl (x : Meas) : (s.setMeas x).ctl = s.ctl := rfl
@[simp] theorem State.setMeas_faults (x : Meas) : (s.setMeas x).faults = s.faults := rfl
@[simp] theorem State.setMeas_centre (x : Meas) : (s.setMeas x).centre = s.centre := rfl
@[simp] theorem State.setMeas_field (x : Meas) : (s.setMeas x).field = s.field := rfl
@[simp] theorem State.setMeas_store (x : Meas) : (s.setMeas x).store = s.store := rfl
@[simp] theorem State.setMeas_unfinished (x : Meas) : (s.setMeas x).unfinished = s.unfinished := rfl
@[simp] theorem State.setMeas_powered (x : Meas) : (s.setMeas x).powered = s.powered := rfl
@[simp] theorem State.setMeas_now (x : Meas) : (s.setMeas x).now = s.now := rfl
@[simp] theorem State.setMeas_pending (x : Meas) : (s.setMeas x).pending = s.pending := rfl

/-! ### State.setFaults -/

@[simp] theorem State.setFaults_pos (x : FaultUnit) : (s.setFaults x).pos = s.pos := rfl
@[simp] theorem State.setFaults_links (x : FaultUnit) : (s.setFaults x).links = s.links := rfl
@[simp] theorem State.setFaults_memGen (x : FaultUnit) : (s.setFaults x).memGen = s.memGen := rfl
@[simp] theorem State.setFaults_plans (x : FaultUnit) : (s.setFaults x).plans = s.plans := rfl
@[simp] theorem State.setFaults_clock (x : FaultUnit) : (s.setFaults x).clock = s.clock := rfl
@[simp] theorem State.setFaults_meas (x : FaultUnit) : (s.setFaults x).meas = s.meas := rfl
@[simp] theorem State.setFaults_band (x : FaultUnit) : (s.setFaults x).band = s.band := rfl
@[simp] theorem State.setFaults_trunk (x : FaultUnit) : (s.setFaults x).trunk = s.trunk := rfl
@[simp] theorem State.setFaults_pre (x : FaultUnit) : (s.setFaults x).pre = s.pre := rfl
@[simp] theorem State.setFaults_ctl (x : FaultUnit) : (s.setFaults x).ctl = s.ctl := rfl
@[simp] theorem State.setFaults_faults (x : FaultUnit) : (s.setFaults x).faults = x := rfl
@[simp] theorem State.setFaults_centre (x : FaultUnit) : (s.setFaults x).centre = s.centre := rfl
@[simp] theorem State.setFaults_field (x : FaultUnit) : (s.setFaults x).field = s.field := rfl
@[simp] theorem State.setFaults_store (x : FaultUnit) : (s.setFaults x).store = s.store := rfl
@[simp] theorem State.setFaults_unfinished (x : FaultUnit) : (s.setFaults x).unfinished = s.unfinished := rfl
@[simp] theorem State.setFaults_powered (x : FaultUnit) : (s.setFaults x).powered = s.powered := rfl
@[simp] theorem State.setFaults_now (x : FaultUnit) : (s.setFaults x).now = s.now := rfl
@[simp] theorem State.setFaults_pending (x : FaultUnit) : (s.setFaults x).pending = s.pending := rfl

/-! ### State.alert -/

@[simp] theorem State.alert_pos (c : AlertClass) : (s.alert c).pos = s.pos := rfl
@[simp] theorem State.alert_links (c : AlertClass) : (s.alert c).links = s.links := rfl
@[simp] theorem State.alert_memGen (c : AlertClass) : (s.alert c).memGen = s.memGen := rfl
@[simp] theorem State.alert_plans (c : AlertClass) : (s.alert c).plans = s.plans := rfl
@[simp] theorem State.alert_clock (c : AlertClass) : (s.alert c).clock = s.clock := rfl
@[simp] theorem State.alert_meas (c : AlertClass) : (s.alert c).meas = s.meas := rfl
@[simp] theorem State.alert_band (c : AlertClass) : (s.alert c).band = s.band := rfl
@[simp] theorem State.alert_trunk (c : AlertClass) : (s.alert c).trunk = s.trunk := rfl
@[simp] theorem State.alert_pre (c : AlertClass) : (s.alert c).pre = s.pre := rfl
@[simp] theorem State.alert_ctl (c : AlertClass) : (s.alert c).ctl = s.ctl := rfl
@[simp] theorem State.alert_faults (c : AlertClass) : (s.alert c).faults = s.faults.alert c := rfl
@[simp] theorem State.alert_centre (c : AlertClass) : (s.alert c).centre = s.centre := rfl
@[simp] theorem State.alert_field (c : AlertClass) : (s.alert c).field = s.field := rfl
@[simp] theorem State.alert_store (c : AlertClass) : (s.alert c).store = s.store := rfl
@[simp] theorem State.alert_unfinished (c : AlertClass) : (s.alert c).unfinished = s.unfinished := rfl
@[simp] theorem State.alert_powered (c : AlertClass) : (s.alert c).powered = s.powered := rfl
@[simp] theorem State.alert_now (c : AlertClass) : (s.alert c).now = s.now := rfl
@[simp] theorem State.alert_pending (c : AlertClass) : (s.alert c).pending = s.pending := rfl

/-! ### State.fault -/

@[simp] theorem State.fault_pos (i : FaultInfo) : (s.fault i).pos = s.pos := rfl
@[simp] theorem State.fault_links (i : FaultInfo) : (s.fault i).links = s.links := rfl
@[simp] theorem State.fault_memGen (i : FaultInfo) : (s.fault i).memGen = s.memGen := rfl
@[simp] theorem State.fault_plans (i : FaultInfo) : (s.fault i).plans = s.plans := rfl
@[simp] theorem State.fault_clock (i : FaultInfo) : (s.fault i).clock = s.clock := rfl
@[simp] theorem State.fault_meas (i : FaultInfo) : (s.fault i).meas = s.meas := rfl
@[simp] theorem State.fault_band (i : FaultInfo) : (s.fault i).band = s.band := rfl
@[simp] theorem State.fault_trunk (i : FaultInfo) : (s.fault i).trunk = s.trunk := rfl
@[simp] theorem State.fault_pre (i : FaultInfo) : (s.fault i).pre = s.pre := rfl
@[simp] theorem State.fault_ctl (i : FaultInfo) : (s.fault i).ctl = s.ctl := rfl
@[simp] theorem State.fault_faults (i : FaultInfo) :
    (s.fault i).faults = s.faults.take i s.clock.cycleNo s.clock.cyclePos := rfl
@[simp] theorem State.fault_centre (i : FaultInfo) : (s.fault i).centre = s.centre := rfl
@[simp] theorem State.fault_field (i : FaultInfo) : (s.fault i).field = s.field := rfl
@[simp] theorem State.fault_store (i : FaultInfo) : (s.fault i).store = s.store := rfl
@[simp] theorem State.fault_unfinished (i : FaultInfo) : (s.fault i).unfinished = s.unfinished := rfl
@[simp] theorem State.fault_powered (i : FaultInfo) : (s.fault i).powered = s.powered := rfl
@[simp] theorem State.fault_now (i : FaultInfo) : (s.fault i).now = s.now := rfl
@[simp] theorem State.fault_pending (i : FaultInfo) : (s.fault i).pending = s.pending := rfl

/-! ### State.at -/

@[simp] theorem State.at_pos (t : Nat) : (s.at t).pos = s.pos := rfl
@[simp] theorem State.at_links (t : Nat) : (s.at t).links = s.links := rfl
@[simp] theorem State.at_memGen (t : Nat) : (s.at t).memGen = s.memGen := rfl
@[simp] theorem State.at_plans (t : Nat) : (s.at t).plans = s.plans := rfl
@[simp] theorem State.at_clock (t : Nat) : (s.at t).clock = s.clock := rfl
@[simp] theorem State.at_meas (t : Nat) : (s.at t).meas = s.meas := rfl
@[simp] theorem State.at_band (t : Nat) : (s.at t).band = s.band := rfl
@[simp] theorem State.at_trunk (t : Nat) : (s.at t).trunk = s.trunk := rfl
@[simp] theorem State.at_pre (t : Nat) : (s.at t).pre = s.pre := rfl
@[simp] theorem State.at_ctl (t : Nat) : (s.at t).ctl = s.ctl := rfl
@[simp] theorem State.at_faults (t : Nat) : (s.at t).faults = s.faults := rfl
@[simp] theorem State.at_centre (t : Nat) : (s.at t).centre = s.centre := rfl
@[simp] theorem State.at_field (t : Nat) : (s.at t).field = s.field := rfl
@[simp] theorem State.at_store (t : Nat) : (s.at t).store = s.store := rfl
@[simp] theorem State.at_unfinished (t : Nat) : (s.at t).unfinished = s.unfinished := rfl
@[simp] theorem State.at_powered (t : Nat) : (s.at t).powered = s.powered := rfl
@[simp] theorem State.at_now (t : Nat) : (s.at t).now = max s.now t := rfl
@[simp] theorem State.at_pending (t : Nat) : (s.at t).pending = s.pending := rfl

/-! ### State.mapPosRec -/

@[simp] theorem State.mapPosRec_links (f : PosRec → PosRec) : (s.mapPosRec f).links = s.links := by
  simp only [State.mapPosRec]
@[simp] theorem State.mapPosRec_memGen (f : PosRec → PosRec) : (s.mapPosRec f).memGen = s.memGen := by
  simp only [State.mapPosRec]
@[simp] theorem State.mapPosRec_plans (f : PosRec → PosRec) : (s.mapPosRec f).plans = s.plans := by
  simp only [State.mapPosRec]
@[simp] theorem State.mapPosRec_clock (f : PosRec → PosRec) : (s.mapPosRec f).clock = s.clock := by
  simp only [State.mapPosRec]
@[simp] theorem State.mapPosRec_meas (f : PosRec → PosRec) : (s.mapPosRec f).meas = s.meas := by
  simp only [State.mapPosRec]
@[simp] theorem State.mapPosRec_band (f : PosRec → PosRec) : (s.mapPosRec f).band = s.band := by
  simp only [State.mapPosRec]
@[simp] theorem State.mapPosRec_trunk (f : PosRec → PosRec) : (s.mapPosRec f).trunk = s.trunk := by
  simp only [State.mapPosRec]
@[simp] theorem State.mapPosRec_pre (f : PosRec → PosRec) : (s.mapPosRec f).pre = s.pre := by
  simp only [State.mapPosRec]
@[simp] theorem State.mapPosRec_ctl (f : PosRec → PosRec) : (s.mapPosRec f).ctl = s.ctl := by
  simp only [State.mapPosRec]
@[simp] theorem State.mapPosRec_faults (f : PosRec → PosRec) : (s.mapPosRec f).faults = s.faults := by
  simp only [State.mapPosRec]
@[simp] theorem State.mapPosRec_centre (f : PosRec → PosRec) : (s.mapPosRec f).centre = s.centre := by
  simp only [State.mapPosRec]
@[simp] theorem State.mapPosRec_field (f : PosRec → PosRec) : (s.mapPosRec f).field = s.field := by
  simp only [State.mapPosRec]
@[simp] theorem State.mapPosRec_store (f : PosRec → PosRec) : (s.mapPosRec f).store = s.store := by
  simp only [State.mapPosRec]
@[simp] theorem State.mapPosRec_unfinished (f : PosRec → PosRec) : (s.mapPosRec f).unfinished = s.unfinished := by
  simp only [State.mapPosRec]
@[simp] theorem State.mapPosRec_powered (f : PosRec → PosRec) : (s.mapPosRec f).powered = s.powered := by
  simp only [State.mapPosRec]
@[simp] theorem State.mapPosRec_now (f : PosRec → PosRec) : (s.mapPosRec f).now = s.now := by
  simp only [State.mapPosRec]
@[simp] theorem State.mapPosRec_pending (f : PosRec → PosRec) : (s.mapPosRec f).pending = s.pending := by
  simp only [State.mapPosRec]

/-! ### State.writeStore -/

@[simp] theorem State.writeStore_pos (p : Option PortId) (f : Store → Store) : (s.writeStore p f).pos = s.pos := rfl
@[simp] theorem State.writeStore_links (p : Option PortId) (f : Store → Store) :
    (s.writeStore p f).links = s.links := rfl
@[simp] theorem State.writeStore_memGen (p : Option PortId) (f : Store → Store) :
    (s.writeStore p f).memGen = s.memGen := rfl
@[simp] theorem State.writeStore_plans (p : Option PortId) (f : Store → Store) :
    (s.writeStore p f).plans = s.plans := rfl
@[simp] theorem State.writeStore_clock (p : Option PortId) (f : Store → Store) :
    (s.writeStore p f).clock = s.clock := rfl
@[simp] theorem State.writeStore_meas (p : Option PortId) (f : Store → Store) : (s.writeStore p f).meas = s.meas := rfl
@[simp] theorem State.writeStore_band (p : Option PortId) (f : Store → Store) : (s.writeStore p f).band = s.band := rfl
@[simp] theorem State.writeStore_trunk (p : Option PortId) (f : Store → Store) :
    (s.writeStore p f).trunk = s.trunk := rfl
@[simp] theorem State.writeStore_pre (p : Option PortId) (f : Store → Store) : (s.writeStore p f).pre = s.pre := rfl
@[simp] theorem State.writeStore_ctl (p : Option PortId) (f : Store → Store) : (s.writeStore p f).ctl = s.ctl := rfl
@[simp] theorem State.writeStore_faults (p : Option PortId) (f : Store → Store) :
    (s.writeStore p f).faults = s.faults := rfl
@[simp] theorem State.writeStore_centre (p : Option PortId) (f : Store → Store) :
    (s.writeStore p f).centre = s.centre := rfl
@[simp] theorem State.writeStore_field (p : Option PortId) (f : Store → Store) :
    (s.writeStore p f).field = s.field := rfl
@[simp] theorem State.writeStore_store (p : Option PortId) (f : Store → Store) :
    (s.writeStore p f).store = f s.store := rfl
@[simp] theorem State.writeStore_unfinished (p : Option PortId) (f : Store → Store) :
    (s.writeStore p f).unfinished = some { before := s.store, port := p } := rfl
@[simp] theorem State.writeStore_powered (p : Option PortId) (f : Store → Store) :
    (s.writeStore p f).powered = s.powered := rfl
@[simp] theorem State.writeStore_now (p : Option PortId) (f : Store → Store) : (s.writeStore p f).now = s.now := rfl
@[simp] theorem State.writeStore_pending (p : Option PortId) (f : Store → Store) :
    (s.writeStore p f).pending = s.pending := rfl

/-! ### State.setPort -/

@[simp] theorem State.setPort_pos (p : PortId) (q : Port) : (s.setPort p q).pos = s.pos := by cases p <;> rfl
@[simp] theorem State.setPort_links (p : PortId) (q : Port) : (s.setPort p q).links = s.links := by cases p <;> rfl
@[simp] theorem State.setPort_memGen (p : PortId) (q : Port) : (s.setPort p q).memGen = s.memGen := by cases p <;> rfl
@[simp] theorem State.setPort_plans (p : PortId) (q : Port) : (s.setPort p q).plans = s.plans := by cases p <;> rfl
@[simp] theorem State.setPort_clock (p : PortId) (q : Port) : (s.setPort p q).clock = s.clock := by cases p <;> rfl
@[simp] theorem State.setPort_meas (p : PortId) (q : Port) : (s.setPort p q).meas = s.meas := by cases p <;> rfl
@[simp] theorem State.setPort_band (p : PortId) (q : Port) : (s.setPort p q).band = s.band := by cases p <;> rfl
@[simp] theorem State.setPort_trunk (p : PortId) (q : Port) : (s.setPort p q).trunk = s.trunk := by cases p <;> rfl
@[simp] theorem State.setPort_pre (p : PortId) (q : Port) : (s.setPort p q).pre = s.pre := by cases p <;> rfl
@[simp] theorem State.setPort_ctl (p : PortId) (q : Port) : (s.setPort p q).ctl = s.ctl := by cases p <;> rfl
@[simp] theorem State.setPort_faults (p : PortId) (q : Port) : (s.setPort p q).faults = s.faults := by cases p <;> rfl
@[simp] theorem State.setPort_store (p : PortId) (q : Port) : (s.setPort p q).store = s.store := by cases p <;> rfl
@[simp] theorem State.setPort_unfinished (p : PortId) (q : Port) : (s.setPort p q).unfinished = s.unfinished := by
  cases p <;> rfl
@[simp] theorem State.setPort_powered (p : PortId) (q : Port) : (s.setPort p q).powered = s.powered := by
  cases p <;> rfl
@[simp] theorem State.setPort_now (p : PortId) (q : Port) : (s.setPort p q).now = s.now := by cases p <;> rfl
@[simp] theorem State.setPort_pending (p : PortId) (q : Port) : (s.setPort p q).pending = s.pending := by
  cases p <;> rfl

@[simp] theorem State.port_setPort (p : PortId) (q : Port) : (s.setPort p q).port p = q := by cases p <;> rfl

@[simp] theorem State.setPort_setPort (p : PortId) (q r : Port) : (s.setPort p q).setPort p r = s.setPort p r := by
  cases p <;> rfl

@[simp] theorem State.setPort_port (p : PortId) : s.setPort p (s.port p) = s := by cases p <;> rfl

theorem State.port_setPort_ne {p p' : PortId} (q : Port) (h : p' ≠ p) : (s.setPort p q).port p' = s.port p' := by
  cases p <;> cases p' <;> simp_all [State.port, State.setPort]

/-! ### Vectors -/

/-- Reading a vector after one entry is written. -/
@[simp] theorem get_set {α : Type} {n : Nat} (v : Vector α n) (i j : Fin n) (x : α) :
    (v.set i.val x i.isLt).get j = if i = j then x else v.get j := by
  simp [Vector.get_eq_getElem, Vector.getElem_set, Fin.ext_iff]

@[simp] theorem get_ofFn {α : Type} {n : Nat} (f : Fin n → α) (i : Fin n) : (Vector.ofFn f).get i = f i := by
  simp [Vector.get_eq_getElem]

@[simp] theorem get_replicate {α : Type} {n : Nat} (x : α) (i : Fin n) : (Vector.replicate n x).get i = x := by
  simp [Vector.get_eq_getElem]

/-- Two vectors with equal entries are equal. -/
theorem ext_get {α : Type} {n : Nat} {v w : Vector α n} (h : ∀ i : Fin n, v.get i = w.get i) : v = w := by
  ext i hi
  simpa [Vector.get_eq_getElem] using h ⟨i, hi⟩

/-! ### The position records and their map -/

@[simp] theorem State.posRec_setPosRec (p q : Pos) (r : PosRec) :
    (s.setPosRec p r).posRec q = if p = q then r else s.posRec q := by simp [State.posRec]

@[simp] theorem State.posRec_mapPosRec (f : PosRec → PosRec) (q : Pos) : (s.mapPosRec f).posRec q = f (s.posRec q) := by
  simp [State.posRec, State.mapPosRec]

@[simp] theorem State.linkRec_setLinkRec (l m : LinkIx) (r : LinkRec) :
    (s.setLinkRec l r).linkRec m = if l = m then r else s.linkRec m := by simp [State.linkRec]

end Sys2Proof.Machine
end

