-- ==== Sys2Proof/Laws/Frames.lean ====
section
/-! SUPPORT. What the shared operations of the coordinating blocks leave alone, said once per operation: none of them touches the
ports, the store, the plans, the clock, the measures, the membership generation, the queue, the configuration of any block,
an enrolment, or an input line. -/

namespace Sys2Proof.Machine

/-- A fold keeps what each of its steps keeps. -/
theorem foldl_keeps {α β : Type} (g : State → β) (f : State → α → State) (h : ∀ s a, g (f s a) = g s) (l : List α)
    (s : State) : g (l.foldl f s) = g s := by
  induction l generalizing s with
  | nil => rfl
  | cons a l ih => simp [ih, h]

/-! ### Faults and alerts -/

@[simp] theorem FaultUnit.alert_enabled (c : AlertClass) (f : FaultUnit) : (f.alert c).enabled = f.enabled := rfl

@[simp] theorem FaultUnit.take_enabled (i : FaultInfo) (n : Half) (p : Nat) (f : FaultUnit) :
    (f.take i n p).enabled = f.enabled := by
  unfold FaultUnit.take; split <;> rfl

@[simp] theorem State.kept_alert (c : AlertClass) (s : State) : (s.alert c).kept = s.kept := by
  simp [State.kept, State.posRec]

@[simp] theorem State.kept_fault (i : FaultInfo) (s : State) : (s.fault i).kept = s.kept := by
  simp [State.kept, State.posRec]

/-! ### Position records -/

theorem State.kept_setPosRec {p : Pos} {r : PosRec} {s : State} (h : r.enrolment = (s.posRec p).enrolment) :
    (s.setPosRec p r).kept = s.kept := by
  have hc : (Vector.ofFn fun q => ((s.setPosRec p r).posRec q).enrolment) =
      Vector.ofFn fun q => (s.posRec q).enrolment := by
    apply ext_get
    intro q
    simp only [get_ofFn, State.posRec_setPosRec]
    split
    · next e => rw [h, e]
    · rfl
  simp only [State.kept, hc]
  simp

theorem State.kept_mapPosRec {f : PosRec → PosRec} {s : State} (h : ∀ r, (f r).enrolment = r.enrolment) :
    (s.mapPosRec f).kept = s.kept := by
  simp [State.kept, h]

theorem State.kept_putSeek {p : Pos} {r : PosRec} {s : State} (h : r.enrolment = (s.posRec p).enrolment) :
    (s.putSeek p r).kept = s.kept := by
  unfold State.putSeek
  have e : (s.setPosRec p (r.recorrect s.plan)).kept = s.kept := State.kept_setPosRec h
  simp only
  split
  · rw [State.kept_alert]; exact e
  · exact e

/-! The position record's own operations keep the enrolment. -/

@[simp] theorem PosRec.evaluate_enrolment (h : Header) (r : PosRec) : (r.evaluate h).enrolment = r.enrolment := by
  unfold PosRec.evaluate
  split
  · split <;> rfl
  · rfl

@[simp] theorem PosRec.reevaluate_enrolment (h : Header) (r : PosRec) : (r.reevaluate h).enrolment = r.enrolment := by
  unfold PosRec.reevaluate; split <;> simp

@[simp] theorem PosRec.recorrect_enrolment (h : Header) (r : PosRec) : (r.recorrect h).enrolment = r.enrolment := rfl

@[simp] theorem PosRec.endSuspension_enrolment (h : Header) (off : Bool) (r : PosRec) :
    (r.endSuspension h off).enrolment = r.enrolment := by
  unfold PosRec.endSuspension
  split
  · split <;> simp
  · rfl

@[simp] theorem PosRec.takeTag_enrolment (a : PlanTag) (t : Option PlanTag) (r : PosRec) :
    (r.takeTag a t).enrolment = r.enrolment := rfl

@[simp] theorem PosRec.takeOffset_enrolment (h : Header) (a : PlanTag) (rep : Report) (r : PosRec) :
    (r.takeOffset h a rep).enrolment = r.enrolment := by
  unfold PosRec.takeOffset
  split
  · split <;> rfl
  · rfl

@[simp] theorem PosRec.takeMode_enrolment (h : Header) (off : Bool) (m : Mode) (r : PosRec) :
    (r.takeMode h off m).enrolment = r.enrolment := by
  unfold PosRec.takeMode
  split
  · rfl
  · split
    · split <;> rfl
    · simp

@[simp] theorem PosRec.closeRound_enrolment (n : Half) (r : PosRec) : (r.closeRound n).enrolment = r.enrolment := by
  unfold PosRec.closeRound; split <;> rfl

@[simp] theorem PosRec.loseOffset_enrolment (h : Header) (r : PosRec) : (r.loseOffset h).enrolment = r.enrolment := by
  unfold PosRec.loseOffset
  split
  · split <;> simp
  · rfl

@[simp] theorem PosRec.seized_enrolment (r : PosRec) : r.seized.enrolment = r.enrolment := rfl
@[simp] theorem PosRec.handedOver_enrolment (r : PosRec) : r.handedOver.enrolment = r.enrolment := rfl
@[simp] theorem PosRec.released_enrolment (h : Header) (off : Bool) (r : PosRec) :
    (r.released h off).enrolment = r.enrolment := by simp [PosRec.released]
@[simp] theorem PosRec.dropped_enrolment (r : PosRec) : r.dropped.enrolment = r.enrolment := by
  unfold PosRec.dropped; split <;> rfl
@[simp] theorem PosRec.masterRises_enrolment (h : Header) (r : PosRec) : (r.masterRises h).enrolment = r.enrolment := by
  unfold PosRec.masterRises
  split
  · split <;> simp
  · rfl
  · rfl
@[simp] theorem PosRec.masterFalls_enrolment (r : PosRec) : r.masterFalls.enrolment = r.enrolment := rfl
@[simp] theorem PosRec.enrols_enrolment (b : Bool) (r : PosRec) : (r.enrols b).enrolment = r.enrolment := rfl
@[simp] theorem PosRec.leaves_enrolment (r : PosRec) : r.leaves.enrolment = r.enrolment := rfl
@[simp] theorem PosRec.activates_enrolment (r : PosRec) : r.activates.enrolment = r.enrolment := rfl
@[simp] theorem PosRec.answerMode_enrolment (m : Mode) (r : PosRec) : (r.answerMode m).enrolment = r.enrolment := by
  unfold PosRec.answerMode; split <;> rfl

/-! ### Transition Unit -/

@[simp] theorem State.kept_targetEvent (p : Pos) (t : Nat) (s : State) : (s.targetEvent p t).kept = s.kept :=
  State.kept_putSeek (by simp)

@[simp] theorem State.kept_reportSeek (p : Pos) (rep : Report) (s : State) : (s.reportSeek p rep).kept = s.kept :=
  State.kept_putSeek (by simp)

@[simp] theorem State.kept_stepFailure (p : Pos) (s : State) : (s.stepFailure p).kept = s.kept :=
  State.kept_putSeek (by simp)

@[simp] theorem State.kept_seekMaster (old new : Master) (s : State) : (s.seekMaster old new).kept = s.kept := by
  have rises : (allPos.foldl (fun s p => s.putSeek p ((s.posRec p).masterRises s.plan)) s).kept = s.kept :=
    foldl_keeps State.kept (fun s p => s.putSeek p ((s.posRec p).masterRises s.plan))
      (fun s p => State.kept_putSeek (PosRec.masterRises_enrolment s.plan (s.posRec p))) _ _
  have falls : (allPos.foldl (fun s p => s.putSeek p (s.posRec p).masterFalls) s).kept = s.kept :=
    foldl_keeps State.kept (fun s p => s.putSeek p (s.posRec p).masterFalls)
      (fun s p => State.kept_putSeek (PosRec.masterFalls_enrolment (s.posRec p))) _ _
  unfold State.seekMaster
  split
  iterate 4 exact rises
  iterate 5 exact falls
  rfl

@[simp] theorem State.kept_seekActivation (s : State) : s.seekActivation.kept = s.kept :=
  State.kept_mapPosRec fun _ => rfl

@[simp] theorem State.kept_seekRollover (s : State) : s.seekRollover.kept = s.kept :=
  State.kept_mapPosRec fun _ => rfl

/-! ### Band Computer -/

@[simp] theorem State.kept_setBand (b : Band) (s : State) : (s.setBand b).kept = s.kept := by
  simp [State.kept, State.posRec]

@[simp] theorem State.kept_faults (l : List FaultInfo) (s : State) :
    (l.foldl (fun s i => s.fault i) s).kept = s.kept := foldl_keeps State.kept _ (fun s i => State.kept_fault i s) l s

@[simp] theorem State.kept_startComputation (s : State) : s.startComputation.kept = s.kept := by
  have h (x : Computation) (b : Band) : (x.startFaults.foldl (fun s i => s.fault i) (s.setBand b)).kept = s.kept := by
    rw [State.kept_faults, State.kept_setBand]
  exact h _ _

@[simp] theorem State.kept_trigger (s : State) : s.trigger.kept = s.kept := by
  unfold State.trigger; split <;> simp

@[simp] theorem State.kept_bandMaster (old new : Master) (s : State) : (s.bandMaster old new).kept = s.kept := by
  unfold State.bandMaster
  simp only
  split <;> split <;> simp

@[simp] theorem State.kept_targetEvents (l : List BandEntry) (s : State) : (s.targetEvents l).kept = s.kept :=
  foldl_keeps State.kept _ (fun _ _ => State.kept_targetEvent _ _ _) _ _

@[simp] theorem State.kept_completeComputation (s : State) : s.completeComputation.kept = s.kept := by
  have read (t : State) : t.readRecompute.kept = t.kept := by unfold State.readRecompute; split <;> simp
  unfold State.completeComputation
  split
  · rfl
  · rw [read]
    unfold State.concludeAs
    simp only
    split
    · simp
    · simp
    · split <;> simp

/-! ### Health, orders, preemption -/

@[simp] theorem State.kept_setTrunk (t : Trunk) (s : State) : (s.setTrunk t).kept = s.kept := by
  simp [State.kept, State.posRec]

@[simp] theorem State.kept_setMisses (p : Pos) (n : Nat) (s : State) : (s.setMisses p n).kept = s.kept := by
  have e : (s.setPosRec p { s.posRec p with misses := n, health := healthOf n }).kept = s.kept :=
    State.kept_setPosRec rfl
  unfold State.setMisses
  simp only
  split
  · rw [State.kept_alert, State.kept_fault]; exact e
  · split
    · rw [State.kept_alert]; exact e
    · exact e

@[simp] theorem State.kept_setAvailable (p : Pos) (b : Bool) (s : State) : (s.setAvailable p b).kept = s.kept :=
  State.kept_setPosRec rfl

@[simp] theorem State.kept_setOrder (p : Pos) (e : Option OrderEntry) (s : State) : (s.setOrder p e).kept = s.kept := by
  simp [State.setOrder]

@[simp] theorem State.kept_trunkEnrolment (p : Pos) (c : EnrolmentChange) (s : State) :
    (s.trunkEnrolment p c).kept = s.kept := by
  unfold State.trunkEnrolment; split <;> simp

@[simp] theorem State.kept_clearMisses (s : State) : s.clearMisses.kept = s.kept :=
  foldl_keeps State.kept _ (fun _ _ => State.kept_setMisses _ _ _) _ _

@[simp] theorem State.kept_placeOrder (p : Pos) (o : Order) (s : State) : (s.placeOrder p o).kept = s.kept := by
  simp [State.placeOrder]

/-- A change of causes or last ends keeps the configuration of the Preemption Unit. -/
theorem State.kept_setPre {x : Pre} {s : State} (hv : x.vectors = s.pre.vectors)
    (hl : ∀ k, (x.lines.get k).cfg = (s.pre.lines.get k).cfg) : (s.setPre x).kept = s.kept := by
  simp [State.kept, State.posRec, hv, hl]

/-- The causes and last ends are no configuration. -/
@[simp] theorem State.kept_setCauses (x : Vector (Option Cause) 8) (y : Vector (Option EndReason) 8) (s : State) :
    (s.setPre { s.pre with causes := x, lastEnd := y }).kept = s.kept := by
  simp [State.kept, State.posRec]

@[simp] theorem State.kept_claim (v : VecIx) (p : Pos) (s : State) : (s.claim v p).kept = s.kept := by
  unfold State.claim
  simp only
  split
  · split
    · simpa using State.kept_putSeek (by simp)
    · split
      · simpa using State.kept_putSeek (by simp)
      · exact State.kept_setPosRec rfl
  · rfl

@[simp] theorem State.kept_activate (v : VecIx) (src : Source) (s : State) : (s.activate v src).kept = s.kept := by
  unfold State.activate
  simp only [State.kept_alert]
  exact (foldl_keeps State.kept (fun s z => s.claim v (Seizure.pos z)) (fun s z => State.kept_claim v z.pos s) _ _).trans
    (State.kept_setPre rfl fun _ => rfl)

@[simp] theorem State.kept_giveUp (v : VecIx) (p : Pos) (s : State) : (s.giveUp v p).kept = s.kept := by
  unfold State.giveUp
  simp only
  split
  · split
    · rw [State.kept_putSeek (by simp [State.placeOrder, State.posRec])]; simp
    · simpa using State.kept_putSeek (by simp)
  · rfl

@[simp] theorem State.kept_leaveClaims (v : VecIx) (s : State) : (s.leaveClaims v).kept = s.kept :=
  State.kept_mapPosRec fun _ => rfl

@[simp] theorem State.kept_endCause (v : VecIx) (r : EndReason) (s : State) : (s.endCause v r).kept = s.kept := by
  have h : (allPos.foldl (fun s p => s.giveUp v p) s).kept = s.kept :=
    foldl_keeps State.kept _ (fun s p => State.kept_giveUp v p s) _ _
  unfold State.endCause
  simp only [State.kept_alert, State.kept_setCauses, State.kept_leaveClaims, h]

@[simp] theorem State.kept_expire (v : VecIx) (s : State) : (s.expire v).kept = s.kept := by
  unfold State.expire
  simp only [State.kept_endCause]
  have hv : ((s.fault (.holdExpired v)).pre.disarm v).vectors = (s.fault (.holdExpired v)).pre.vectors := by
    unfold Pre.disarm
    split
    · rfl
    · simp only
      split <;> rfl
  have hl : ∀ k, ((((s.fault (.holdExpired v)).pre.disarm v).lines.get k)).cfg =
      (((s.fault (.holdExpired v)).pre.lines.get k)).cfg := by
    intro k
    unfold Pre.disarm
    split
    · rfl
    · simp only
      split
      · simp only [get_set]
        split
        · next e => rw [e]
        · rfl
      · rfl
  rw [State.kept_setPre hv hl, State.kept_fault]

@[simp] theorem State.kept_holdCountdown (s : State) : s.holdCountdown.kept = s.kept := by
  unfold State.holdCountdown
  simp only
  rw [foldl_keeps State.kept]
  · exact State.kept_setPre rfl fun _ => rfl
  · intro t v
    split
    · split <;> simp
    · rfl

@[simp] theorem State.kept_endTransit (s : State) : s.endTransit.kept = s.kept :=
  foldl_keeps State.kept _ (fun s v => by split <;> simp) _ _

@[simp] theorem State.kept_preMaster (old : Master) (s : State) : (s.preMaster old).kept = s.kept := by
  unfold State.preMaster; split <;> simp

@[simp] theorem State.kept_dropOwner (p : Pos) (s : State) : (s.dropOwner p).kept = s.kept := by
  unfold State.dropOwner
  simp only
  split
  · exact State.kept_putSeek (by simp)
  · exact State.kept_setPosRec rfl

/-! ### Master state -/

@[simp] theorem State.kept_setMaster (m : Master) (s : State) : (s.setMaster m).kept = s.kept := by
  simp [State.setMaster, State.kept, State.posRec]

@[simp] theorem State.kept_changeMaster (m : Master) (s : State) : (s.changeMaster m).kept = s.kept := by
  simp [State.changeMaster]

@[simp] theorem State.kept_enterFallback (c : FallbackCause) (s : State) : (s.enterFallback c).kept = s.kept := by
  simp [State.enterFallback]

@[simp] theorem State.kept_fallbackUnlessOut (c : FallbackCause) (s : State) :
    (s.fallbackUnlessOut c).kept = s.kept := by
  unfold State.fallbackUnlessOut; split <;> simp

@[simp] theorem State.kept_depart (r : Resume) (s : State) : (s.depart r).kept = s.kept := by
  unfold State.depart
  simp only
  split <;> simp

@[simp] theorem State.kept_holdRaised (s : State) : s.holdRaised.kept = s.kept := by
  unfold State.holdRaised; split <;> simp

@[simp] theorem State.kept_holdWithdrawn (s : State) : s.holdWithdrawn.kept = s.kept := by
  unfold State.holdWithdrawn; split <;> simp

@[simp] theorem State.kept_enrolmentEvent (p : Pos) (c : EnrolmentChange) (s : State) :
    (s.enrolmentEvent p c).kept = s.kept := by
  have hs (t : State) : (t.seekEnrolment p c).kept = t.kept := by
    unfold State.seekEnrolment
    split <;> first | rfl | exact State.kept_putSeek (by simp)
  have hp (t : State) : (t.preEnrolment p c).kept = t.kept := by
    unfold State.preEnrolment; split <;> simp
  simp [State.enrolmentEvent, hs, hp]

@[simp] theorem State.kept_reportCount (s : State) : s.reportCount.kept = s.kept := by
  unfold State.reportCount; split <;> simp

/-! ### Trunk -/

@[simp] theorem State.kept_wakeOrders (s : State) : s.wakeOrders.kept = s.kept := by simp [State.wakeOrders]

@[simp] theorem State.kept_sendAttempt (k : ExchangeKind) (p : Pos) (d : Nat) (b : Bool) (body : List Byte) (s : State) :
    (s.sendAttempt k p d b body).kept = s.kept := by simp [State.sendAttempt]

@[simp] theorem State.kept_sendStep (p : Pos) (d : Nat) (b : Bool) (s : State) : (s.sendStep p d b).kept = s.kept := by
  unfold State.sendStep
  simp only [State.kept_sendAttempt]
  exact State.kept_setPosRec rfl

@[simp] theorem State.kept_sendBeacon (m : Bool) (s : State) : (s.sendBeacon m).kept = s.kept := by simp [State.sendBeacon]

@[simp] theorem State.kept_sendOrder (p : Pos) (e : OrderEntry) (d : Nat) (s : State) :
    (s.sendOrder p e d).kept = s.kept := by simp [State.sendOrder]

@[simp] theorem State.kept_probeOver (p : Pos) (s : State) : (s.probeOver p).kept = s.kept := by simp [State.probeOver]

@[simp] theorem State.kept_grantProbe (s : State) : s.grantProbe.kept = s.kept := by
  unfold State.grantProbe
  split
  · simp
  · split <;> simp

@[simp] theorem State.kept_endExchange (s : State) : s.endExchange.kept = s.kept := by simp [State.endExchange]

@[simp] theorem State.kept_countBadFrame (s : State) : s.countBadFrame.kept = s.kept := by simp [State.countBadFrame]

@[simp] theorem State.kept_countMiss (p : Pos) (s : State) : (s.countMiss p).kept = s.kept := by simp [State.countMiss]

@[simp] theorem State.kept_acceptAck (x : Exchange) (s : State) : (s.acceptAck x).kept = s.kept := by
  unfold State.acceptAck
  simp only
  split
  · split <;> simp
  · simp

@[simp] theorem State.kept_acceptAnswer (x : Exchange) (m : Mode) (s : State) : (s.acceptAnswer x m).kept = s.kept := by
  unfold State.acceptAnswer
  simp only
  split
  · rw [State.kept_setPosRec (by simp)]; simp
  · rw [State.kept_alert, State.kept_setPosRec (by simp)]; simp

@[simp] theorem State.kept_beaconDue (b : Bool) (s : State) : (s.beaconDue b).kept = s.kept := by simp [State.beaconDue]

@[simp] theorem State.kept_trunkRollover (s : State) : s.trunkRollover.kept = s.kept := by simp [State.trunkRollover]

@[simp] theorem State.kept_bandBoundary (b : Bool) (s : State) : (s.bandBoundary b).kept = s.kept := by
  unfold State.bandBoundary
  simp only
  cases b <;> simp <;> split <;> simp

@[simp] theorem State.kept_seekBoundary (b : Bool) (s : State) : (s.seekBoundary b).kept = s.kept := by
  unfold State.seekBoundary; cases b <;> simp

@[simp] theorem State.kept_activationAlert (b : Bool) (s : State) : (s.activationAlert b).kept = s.kept := by
  unfold State.activationAlert; cases b <;> simp

@[simp] theorem State.kept_fanOut (b : Bool) (s : State) : (s.fanOut b).kept = s.kept := by simp [State.fanOut]

@[simp] theorem State.kept_holdAt (m : HoldMoment) (o : BoundaryOrder) (s : State) : (s.holdAt m o).kept = s.kept := by
  unfold State.holdAt; split <;> simp

@[simp] theorem State.kept_followActivation (b : Bool) (s : State) : (s.followActivation b).kept = s.kept := by
  unfold State.followActivation
  split
  · split <;> simp
  · rfl

@[simp] theorem State.kept_cutExchange (s : State) : s.cutExchange.kept = s.kept := by simp [State.cutExchange]

/-! ### What a decisecond boundary comes to -/

theorem State.kept_clock (s : State) : s.kept.clock = s.clock := rfl

@[simp] theorem State.holdCountdown_clock (s : State) : s.holdCountdown.clock = s.clock := by
  rw [← State.kept_clock, State.kept_holdCountdown, State.kept_clock]

/-- The end of the decisecond is taken once, at the moment the order names: a plain boundary is the countdown before or after the
advance. -/
theorem State.boundary_plain (o : BoundaryOrder) (s : State) (h : s.clock.cyclePos + 1 ≠ s.clock.c) :
    s.boundary o = if o.hold = .beforeClock then s.holdCountdown.advance else s.advance.holdCountdown := by
  obtain ⟨m, b⟩ := o
  cases m <;> simp [State.boundary, State.holdAt, State.tick, State.plainBoundary, h]

/-- A rollover, with the end of the decisecond at the moment the order names. -/
theorem State.boundary_rollover (o : BoundaryOrder) (s : State) (h : s.clock.cyclePos + 1 = s.clock.c) :
    s.boundary o =
      match o.hold with
      | .beforeClock => s.holdCountdown.rollover { o with hold := .beforeClock }
      | .afterAll => (s.rollover { o with hold := .afterAll }).holdCountdown
      | _ => s.rollover o := by
  obtain ⟨m, b⟩ := o
  cases m <;> simp [State.boundary, State.holdAt, State.tick, h]

end Sys2Proof.Machine
end

