-- ==== Sys2Proof/Laws/Requests.lean ====
section
/-! SUPPORT. What the taking of a request does, said once: with supply and a frame that the port can take, the ruling of the
owning block and then the reply; the checks before the owning block, one lemma each. -/

namespace Sys2Proof.Machine

theorem powered_run {s : State} (f : State → State) (h : s.powered = true) : powered f s = .next (f s) := by
  simp [powered, h]

theorem powered_off {s : State} (f : State → State) (h : s.powered = false) : powered f s = .next s := by
  simp [powered, h]

@[simp] theorem State.senderClass_setPort (s : State) (p r : PortId) (q : Port) :
    (s.setPort p q).senderClass r = s.senderClass r := by
  cases r <;> simp [State.senderClass]

@[simp] theorem State.senderClass_centre (s : State) : s.senderClass .centre = .supervisory := rfl

/-- A frame that can be taken is ruled on, and the reply goes out. -/
theorem State.serve_taken {s : State} {p : PortId} {f : Frame} {q : Port} (rule : SenderClass → State → Ruling)
    (after : ReplyCode → State → State) (h : (s.port p).taking f = some q) :
    s.serve p f rule after =
      after (rule (s.senderClass p) (s.setPort p q)).answer.code
        ((rule (s.senderClass p) (s.setPort p q)).state.putReply p f (s.senderClass p)
          (rule (s.senderClass p) (s.setPort p q)).answer) := by
  simp [State.serve, h]

/-- A frame that cannot be taken changes nothing. -/
theorem State.serve_waits {s : State} {p : PortId} {f : Frame} (rule : SenderClass → State → Ruling)
    (after : ReplyCode → State → State) (h : (s.port p).taking f = none) : s.serve p f rule after = s := by
  simp [State.serve, h]

/-- The reply kind of a request kind below 128 (R181). -/
theorem replyKind_of_lt {kind : Byte} (h : kind.toNat < 128) : replyKind kind = kind + 128 := by
  unfold replyKind
  rw [if_pos h]
  apply BitVec.eq_of_toNat_eq
  simp [byte, BitVec.toNat_add]

variable {α : Type} {fieldMay : Bool} {parse : List Byte → Option α} {own : α → State → Ruling} {body : List Byte}
variable {cls : SenderClass} {s : State}

theorem checked_badFormat (h : parse body = none) : checkThenOwn fieldMay parse own body cls s = s.refuse .badFormat := by
  simp [checkThenOwn, h]

theorem checked_senderClass {a : α} (h : parse body = some a) : checkThenOwn false parse own body .field s = s.refuse .senderClass := by
  simp [checkThenOwn, h]

/-- A body of the right length from a sender that may send the request reaches the owning block. -/
theorem checked_own {a : α} (h : parse body = some a) (hc : cls = .supervisory ∨ fieldMay = true) :
    checkThenOwn fieldMay parse own body cls s = own a s := by
  rcases hc with rfl | rfl <;> simp [checkThenOwn, h]

/-- The port after a reply is built, and the rest of the state. -/
theorem State.putReply_eq (s : State) (p : PortId) (f : Frame) (cls : SenderClass) (a : Answer) :
    s.putReply p f cls a = s.setPort p { s.port p with
      inProgress := some { kind := f.kind, tag := f.tag, cls, reply := f.replyWith a } } := rfl

variable {p : PortId} {q : Port} {kind tag : Byte}

/-- A request with supply, a body that fits its kind and a sender that may send it: the owning block's ruling, then its reply. -/
theorem request_run {a : α} (hp : s.powered = true) (ht : (s.port p).taking ⟨kind, tag, body⟩ = some q)
    (hb : parse body = some a) (hs : s.senderClass p = .supervisory ∨ fieldMay = true) :
    powered (State.request p kind fieldMay parse own tag body) s =
      .next ((own a (s.setPort p q)).state.putReply p ⟨kind, tag, body⟩ (s.senderClass p) (own a (s.setPort p q)).answer) := by
  rw [powered_run _ hp, State.request, State.serve_taken _ _ ht, checked_own hb hs]
  rfl

/-- A request whose body does not fit its kind is answered BAD_FORMAT and changes nothing but its port (R180). -/
theorem request_misfits (hp : s.powered = true) (ht : (s.port p).taking ⟨kind, tag, body⟩ = some q)
    (hb : parse body = none) :
    powered (State.request p kind fieldMay parse own tag body) s =
      .next ((s.setPort p q).putReply p ⟨kind, tag, body⟩ (s.senderClass p) ⟨.badFormat, []⟩) := by
  rw [powered_run _ hp, State.request, State.serve_taken _ _ ht, checked_badFormat hb]
  rfl

/-- A request that needs SUPERVISORY class is answered CLASS to a FIELD sender and changes nothing but its port (R180). -/
theorem request_forbidden {a : α} (hp : s.powered = true) (ht : (s.port p).taking ⟨kind, tag, body⟩ = some q)
    (hb : parse body = some a) (hs : s.senderClass p = .field) :
    powered (State.request p kind false parse own tag body) s =
      .next ((s.setPort p q).putReply p ⟨kind, tag, body⟩ .field ⟨.senderClass, []⟩) := by
  rw [powered_run _ hp, State.request, State.serve_taken _ _ ht, hs, checked_senderClass hb]
  rfl

/-! ### The numbers that name a position, a link, a slot, a vector and a line -/

theorem posOf_named {n : Nat} {o : Pos} (h : n = o.val + 1) : posOf n = some o := by
  subst h; simp [posOf]

theorem posOf_unnamed {n : Nat} (h : ¬(1 ≤ n ∧ n ≤ 24)) : posOf n = none := by simp [posOf, h]

theorem linkOf_named {n : Nat} {l : LinkIx} (h : n = l.val + 1) : linkOf n = some l := by
  subst h; simp [linkOf]

theorem linkOf_unnamed {n : Nat} (h : ¬(1 ≤ n ∧ n ≤ 23)) : linkOf n = none := by simp [linkOf, h]

theorem slotOf_named {n : Nat} {i : SlotIx} (h : n = i.val) : slotOf n = some i := by
  subst h; simp [slotOf]

theorem slotOf_unnamed {n : Nat} (h : 16 ≤ n) : slotOf n = none := by simp [slotOf, Nat.not_lt.mpr h]

theorem vectorOf_named {n : Nat} {v : VecIx} (h : n = v.val) : vectorOf n = some v := by
  subst h; simp [vectorOf]

theorem vectorOf_unnamed {n : Nat} (h : 8 ≤ n) : vectorOf n = none := by simp [vectorOf, Nat.not_lt.mpr h]

theorem lineOf_named {n : Nat} {k : LineIx} (h : n = k.val + 1) : lineOf n = some k := by
  subst h; simp [lineOf]

theorem lineOf_unnamed {n : Nat} (h : ¬(1 ≤ n ∧ n ≤ 4)) : lineOf n = none := by simp [lineOf, h]

end Sys2Proof.Machine
end

