-- ==== Sys2Proof/WellFormed.lean ====
section
/-! DEFINITION. Which commands the interfaces can carry: the lengths R178 and R186 allow, and a kind byte that is no request
kind where the command says so (R180). A command that is not well formed has its meaning all the same. -/

namespace Sys2Proof

/-- A port frame of length 250 carries at most 248 body bytes (R178). -/
def bodyFits (b : List Byte) : Bool := decide (b.length ≤ 248)

/-- A trunk frame carries at most 255 body bytes: its length is one byte (R186). -/
def trunkBodyFits (b : List Byte) : Bool := decide (b.length ≤ 255)

/-- The kind is no request kind: request kinds are 1 to 38 (chapter 11, section 11.5). -/
def noRequestKind (k : Byte) : Bool := decide (k.toNat = 0) || decide (38 < k.toNat)

def TrunkReject.wellFormed : TrunkReject → Bool
  | .badCheck => true
  | .wellChecked _ _ b => trunkBodyFits b

/-- The interfaces can carry the command. -/
def Instr.wellFormed : Instr → Bool
  | .chainLink _ _ b | .enrol _ _ b | .exclude _ _ b | .planOpen _ _ b | .planEntry _ _ b | .planClose _ _ b
  | .planDrop _ _ b | .planLock _ _ b | .planUnlock _ _ b | .planSelect _ _ b | .start _ _ b | .stop _ _ b
  | .hold _ _ b | .resume _ _ b | .fallback _ _ b | .policy _ _ b | .timebase _ _ b | .beaconSet _ _ b
  | .compute _ _ b | .vectorSet _ _ b  | .preCall _ _ b | .preClear _ _ b | .faultClear _ _ b
  | .alertEnable _ _ b | .alertClear _ _ b | .restart _ _ b | .erase _ _ b | .qStatus _ _ b | .qChain _ _ b
  | .qJunction _ _ b | .qPlan _ _ b | .qPool _ _ b | .qMeasure _ _ b | .qBand _ _ b | .qPre _ _ b | .qFault _ _ b
  | .qAlert _ _ b => bodyFits b
  | .lineSet _ _ b => bodyFits b.bytes
  | .unknownKind _ k _ b => noRequestKind k && bodyFits b
  | .report _ b | .ack _ b | .answer _ b => trunkBodyFits b
  | .trunkBadFrame f => f.wellFormed
  | .portFrame _ _ | .portPause _ | .replyEnd _ | .alertRecord | .powerOn | .decisecond _ | .rollover _ | .refPulse _
  | .silenceLimit _ | .lineInputChange _ _ _ | .preLineSettle _ _ | .holdLineActive _ | .holdLineInactive _
  | .detachLineActive _ | .detachLineInactive _ | .keyLineActive _ | .keyLineInactive _ | .causeExpiry _
  | .computationCompletion | .beacon | .stepFrame | .preemptFrame | .releaseFrame | .probeFrame | .responseWindowExpiry
  | .receiveBufferFull _ _ | .powerLoss _ => true

end Sys2Proof
end

