-- ==== Sys2Proof/Tests/Slice0.lean ====
section
/-! SUPPORT. Tests: the WellFormed smoke test, worked values of the manual, and for every statement that has hypotheses a state and
operands that meet them. Each test is one command on a small state. -/

set_option Elab.async false

namespace Sys2Proof.Tests

open Sys2Proof.Machine

/-! ### Small states -/

/-- Position `p` ENROLLED at drop address `d`. -/
def join (p : Pos) (d : Nat) (s : State) : State := s.setPosRec p (.restarted (.enrolled d))

/-- Positions 1 and 2 ENROLLED, the link between them 500 m. -/
def two : State := { join 0 1 (join 1 2 State.reset) with links := State.reset.links.set 0 (.restarted 500) }

/-- Positions 1 to 3 ENROLLED, both links 500 m. -/
def three : State := { join 2 3 two with links := two.links.set 1 (.restarted 500) }

def mastered (m : Master) (s : State) : State := { s with ctl := { s.ctl with master := m } }

def coordinating : State := mastered .coordinating two

/-- Vector `v` seizes position 1 with class `cls`. -/
def vectored (v : VecIx) (cls : VectorClass) (s : State) : State :=
  { s with pre := { s.pre with vectors := s.pre.vectors.set v.val ⟨cls, [⟨0, .allRed⟩], 100⟩ v.isLt } }

/-- The cause of vector `v` is active with this remaining hold. -/
def caused (v : VecIx) (n : Nat) (s : State) : State :=
  { s with pre := { s.pre with causes := s.pre.causes.set v.val (some ⟨n, .call⟩) v.isLt } }

/-- Vector 1, RAIL, owns position 1 of `two`. -/
def owned : State :=
  caused 1 50 ((vectored 1 .rail two).setPosRec 0
    { PosRec.restarted (.enrolled 1) with mode := .preempted, seek := .suspended .idle, owner := some 1 })

/-- Slot 3 OPEN by port `p`, two entries, the first written. -/
def loading (p : PortId) : State :=
  { State.reset with plans := (State.reset.plans.setSlot 3
      ⟨false, 7, .loading { factoryHeader with base := 24, count := 2 } p [some ⟨1, ⟨0, 450⟩, ⟨0, 450⟩⟩, none]⟩) }

/-- Slot 3 OPEN by the centre with these two entries written. -/
def loaded (e f : Entry) : State :=
  { State.reset with plans := (State.reset.plans.setSlot 3
      ⟨false, 7, .loading { factoryHeader with base := 24, count := 2 } .centre [some e, some f]⟩) }

/-- Slot 3 READY with the factory header and these entries. -/
def ready (es : List Entry) (s : State) : State :=
  { s with plans := s.plans.setSlot 3 ⟨false, 7, .ready factoryHeader es⟩ }

/-- An exchange of this kind with position 1 in flight. -/
def asking (kind : ExchangeKind) (second : Bool) (s : State) : State :=
  s.setTrunk { s.trunk with exchange := some ⟨kind, 0, 1, second, false⟩, waitingBeacon := none }

/-- Position `p` has this order. -/
def ordered (p : Pos) (e : OrderEntry) (s : State) : State :=
  s.setTrunk { s.trunk with orders := s.trunk.orders.set p.val (some e) p.isLt }

/-- The clock at position C − 1. -/
def lastTick (s : State) : State := { s with clock := { s.clock with cyclePos := 899 } }

def timed (tb : Timebase) (now : Nat) : State :=
  { State.reset with now, clock := { State.reset.clock with tb } }

def anyOrder : BoundaryOrder := ⟨.beforeClock, .afterBoth⟩

/-- No owner and no pending cause anywhere: the law of causes is the law of the vectors. -/
theorem cause_law {s : State} (h : ∀ p, (s.posRec p).owner = none ∧ (s.posRec p).claims = []) (hv : distinct s.pre.vectors)
    (hs : distinct s.store.vectors) (hu : s.unfinished = none) : CauseLaw s :=
  ⟨fun p v e => (Option.some_ne_none v (e.symm.trans (h p).1)).elim,
    fun p v m => ((List.mem_nil_iff v).mp ((h p).2 ▸ m)).elim,
    fun p => (h p).2 ▸ List.Pairwise.nil, hv, hs, fun u e => (Option.some_ne_none u (e.symm.trans hu)).elim⟩

/-- The code and result of the reply being sent at the centre link after a request. -/
def answerOf (s : State) (c : Instr) : Option (ReplyCode × List Byte) :=
  match exec c s with
  | .next t => t.centre.inProgress.map fun r => (r.reply.code, r.reply.result)
  | _ => none

/-- The reply code alone. -/
def code (s : State) (c : Instr) : Option ReplyCode := (answerOf s c).map (·.1)

/-- A property of the next state. -/
def ran (c : Instr) (s : State) (f : State → Bool) : Bool :=
  match exec c s with
  | .next t => f t
  | _ => false

/-- The centre link of a powered part takes any frame that fits, when it has none and its port is as after restart. -/
theorem can_take {s : State} (f : Frame) (hp : s.powered = true) (hc : s.centre = .restarted none)
    (hb : f.body.length ≤ 248) : s.CanTake .centre f (.restarted none) :=
  ⟨hp, by simp [State.port, hc, Port.taking, Port.restarted, hb]⟩

/-- The same at the field port. -/
theorem can_take_field {s : State} (f : Frame) (hp : s.powered = true) (hc : s.field = .restarted none)
    (hb : f.body.length ≤ 248) : s.CanTake .field f (.restarted none) :=
  ⟨hp, by simp [State.port, hc, Port.taking, Port.restarted, hb]⟩

/-! ### What is well formed -/

theorem test_body_too_long : (Instr.enrol .centre 0 (List.replicate 249 0)).wellFormed = false := by decide +kernel
theorem test_body_longest : (Instr.enrol .centre 0 (List.replicate 248 0)).wellFormed = true := by decide +kernel
theorem test_unknown_kind_is_no_request :
    (Instr.unknownKind .field 38 0 []).wellFormed = false ∧ (Instr.unknownKind .field 1 0 []).wellFormed = false ∧
      (Instr.unknownKind .field 39 0 []).wellFormed = true ∧ (Instr.unknownKind .field 0 0 []).wellFormed = true ∧
      (Instr.unknownKind .field 39 0 (List.replicate 249 0)).wellFormed = false := by decide +kernel
theorem test_trunk_body_too_long : (Instr.ack 1 (List.replicate 256 0)).wellFormed = false ∧
    (Instr.trunkBadFrame (.wellChecked 1 2 (List.replicate 256 0))).wellFormed = false ∧
    (Instr.report 1 (List.replicate 255 0)).wellFormed = true := by decide +kernel
theorem test_no_word_spells_a_command : decodeTableWord 8 1 = none := rfl

/-! ### Worked values of the manual -/

/-- The published check value of the CRC that R178 describes (polynomial 1021, initial value all ones, most significant bit first, no
final inversion): the ASCII digits 1 to 9 give 29B1. -/
theorem test_check_sequence : checkBytes [0x31, 0x32, 0x33, 0x34, 0x35, 0x36, 0x37, 0x38, 0x39] = [0x29, 0xB1] := by
  decide +kernel

/-- The worked case of section 5.9. -/
def workedSnapshot : Snapshot :=
  { slot := 4, gen := 2, c := 900, mode := .inbound, speedIn := 40, speedOut := 60, speedMin := 20, speedMax := 70
    headway := 20, slideStep := 10, origin := 0, dir := .inbound, policy := .tolerant, memGen := 9, cycleNo := 318
    positions := [⟨0, ⟨0, 420⟩, ⟨0, 420⟩, 4⟩, ⟨1, ⟨80, 480⟩, ⟨80, 480⟩, 1⟩, ⟨2, ⟨0, 400⟩, ⟨0, 400⟩, 2⟩,
      ⟨3, ⟨300, 680⟩, ⟨300, 680⟩, 0⟩]
    links := [⟨0, 600, .none, .none⟩, ⟨1, 560, .none, .aged⟩, ⟨2, 640, .none, .none⟩] }

def worked : Computation :=
  { number := 41, snap := workedSnapshot, travel := workedSnapshot.travelValues, poisoned := workedSnapshot.poisonedSet
    interrupted := false }

theorem test_worked_targets : worked.record.entries.map (·.target) = [640, 40, 516, 600] := by decide +kernel
theorem test_worked_bands :
    (worked.record.w, worked.record.counterBand, worked.record.counterStart) = (340, 340, some 720) := by decide +kernel

/-! ### Requests: every clause of their statements at its boundary

`can_take` gives the premise that the port takes the frame, for every frame used below; the centre link is SUPERVISORY. -/

theorem witness_StepRunsFrontCommand_CommandsKeepQueue : ∃ t, exec .beacon State.reset = .next t := ⟨_, rfl⟩

theorem witness_UnpoweredPartIsInert : ({ State.reset with powered := false } : State).powered = false ∧
    Instr.beacon ≠ .powerOn ∧ ∀ l h t, Instr.beacon ≠ .lineInputChange l h t :=
  ⟨rfl, nofun, nofun⟩

theorem witness_ChecksBeforeTheOwner :
    State.reset.CanTake .centre ⟨39, 9, [5]⟩ (.restarted none) ∧
    (FixedRequest .centre 9 [1] (.enrol .centre 9 [1]) ⟨2, 9, [1]⟩ 2 ∧
      State.reset.CanTake .centre ⟨2, 9, [1]⟩ (.restarted none)) ∧
    (SupervisoryRequest .field 9 (.start .field 9 []) ⟨11, 9, []⟩ ∧ State.reset.ctl.keyLine.active = false ∧
      State.reset.CanTake .field ⟨11, 9, []⟩ (.restarted none)) :=
  ⟨can_take _ rfl rfl (by decide), ⟨.enrol, can_take _ rfl rfl (by decide)⟩, .start, rfl,
    can_take_field _ rfl rfl (by decide)⟩

theorem test_checks_before_the_owner :
    [Instr.unknownKind .centre 0 9 [], .unknownKind .centre 39 9 [5], .unknownKind .centre 255 9 [], .enrol .centre 9 [1],
      .start .centre 9 [0], .vectorSet .centre 9 [0, 1, 0, 100], .vectorSet .centre 9 [0, 1, 0, 100, 1, 1],
      .alertClear .centre 9 [], .alertClear .centre 9 [1]].map (code State.reset) =
    [some .unknownKind, some .unknownKind, some .unknownKind, some .badFormat, some .badFormat, some .badFormat,
      some .badFormat, some .badFormat, some .badFormat] := by decide +kernel

theorem test_field_class : ran (.start .field 9 []) State.reset
    (fun t => decide (t.field.inProgress = some ⟨11, 9, .field, ⟨139, 9, .senderClass, []⟩⟩)) = true := by decide +kernel

theorem test_chain_link : ([[0, 0, 30], [24, 0, 30], [1, 0, 29], [1, 11, 185], [1, 0, 30], [23, 11, 184], [1, 0, 0]].map
      fun b => code State.reset (.chainLink .centre 9 b)) =
      [some .badValue, some .badValue, some .badValue, some .badValue, some .ok, some .ok, some .ok] ∧
    code coordinating (.chainLink .centre 9 [1, 0, 30]) = some .state ∧
    code two (.chainLink .centre 9 [1, 1, 244]) = some .ok := by decide +kernel

/-- Checks 1 to 4 of ENROL. -/
theorem test_enrol_checks_1_to_4 :
    ([[0, 1], [25, 1], [24, 32], [1, 0], [24, 31]].map fun b => code State.reset (.enrol .centre 9 b)) =
      [some .badValue, some .badValue, some .badValue, some .badValue, some .ok] ∧
    ([[3, 2], [1, 2], [1, 3], [1, 1], [1, 0]].map fun b => code two (.enrol .centre 9 b)) =
      [some .badValue, some .badValue, some .state, some .ok, some .ok] := by decide +kernel

/-- Checks 5 and 6 of ENROL. -/
theorem test_enrol_checks_5_and_6 :
    code { State.reset with plans := (State.reset.plans.setSlot 0 ⟨true, 0, .ready factoryHeader []⟩) }
      (.enrol .centre 9 [1, 1]) = some .mismatch ∧
    code coordinating (.enrol .centre 9 [3, 3]) = some .mismatch ∧
    code { coordinating with links := three.links } (.enrol .centre 9 [3, 3]) = some .ok := by decide +kernel

/-- The position EXCLUDED, enrolled again without a new address. -/
def excluded : State := State.reset.setPosRec 0 (.restarted (.excluded 7 .operator))

theorem witness_EnrolAccepted :
    (State.reset.CanTake .centre ⟨2, 9, [24, 31]⟩ (.restarted none) ∧ State.reset.senderClass .centre = .supervisory ∧
      State.reset.dropTaken 23 31 = false ∧ (State.reset.posRec 23).enrolment = .vacant ∧
      State.reset.mayEnrol 23 = true) ∧
    excluded.CanTake .centre ⟨2, 9, [1, 0]⟩ (.restarted none) ∧ (excluded.posRec 0).enrolment = .excluded 7 .operator ∧
      excluded.mayEnrol 0 = true :=
  ⟨⟨can_take _ rfl rfl (by decide), rfl, by decide +kernel, by decide +kernel, by decide +kernel⟩,
    can_take _ rfl rfl (by decide), by decide +kernel, by decide +kernel⟩

/-- The position EXCLUDED as LOST. -/
def lostThere : State := State.reset.setPosRec 0 (.restarted (.excluded 7 .lost))

theorem test_exclude_checks :
    ([[0, 0], [25, 0], [1, 2], [1, 0], [1, 1]].map fun b => code State.reset (.exclude .centre 9 b)) =
      [some .badValue, some .badValue, some .badValue, some .state, some .ok] ∧
    code owned (.exclude .centre 9 [1, 0]) = some .state ∧ code coordinating (.exclude .centre 9 [1, 0]) = some .state ∧
    code (mastered .coordinating three) (.exclude .centre 9 [1, 0]) = some .ok ∧
    code two (.exclude .centre 9 [1, 1]) = some .ok := by decide +kernel

theorem witness_ExcludeAccepted :
    let s := mastered .coordinating three
    s.CanTake .centre ⟨3, 9, [1, 0]⟩ (.restarted none) ∧ (s.posRec 0).enrolment = .enrolled 1 ∧
      (s.posRec 0).owner = none ∧ 3 ≤ s.enrolledCount ∧ (s.posRec 23).enrolment = .vacant ∧
      (excluded.posRec 0).enrolment = .excluded 7 .operator ∧ (lostThere.posRec 0).enrolment = .excluded 7 .lost :=
  ⟨can_take _ rfl rfl (by decide), by decide +kernel⟩

/-- Rows 3 to 5 of R9. -/
theorem test_exclude_rows :
    ran (.exclude .centre 9 [1, 0]) lostThere (fun t => decide ((t.posRec 0).enrolment = .excluded 7 .operator ∧
      t.store.chain.get 0 = .excluded 7 .operator ∧ t.memGen = 0)) = true ∧
    ran (.exclude .centre 9 [1, 1]) lostThere (fun t => decide ((t.posRec 0).enrolment = .vacant ∧ t.memGen = 0)) = true := by
  decide +kernel

/-- The body of a PLAN-OPEN for slot `i` with cycle length `c1 c0` and band origin 0. -/
def openOf (i n c1 c0 : Byte) : List Byte := [i, n, c1, c0, 0, 2, 50, 50, 20, 70, 20, 10, 0, 0, 0, 20, 10]

theorem test_plan_open_checks :
    ([openOf 16 1 1 44, openOf 3 0 1 44, openOf 3 25 1 44, openOf 3 1 1 43, openOf 3 1 9 97, openOf 0 1 1 44].map
      fun b => code State.reset (.planOpen .centre 9 b)) =
      [some .badValue, some .badValue, some .badValue, some .badValue, some .badValue, some .locked] ∧
    code { State.reset with plans := { State.reset.plans with pendingSlot := some 3 } }
      (.planOpen .centre 9 (openOf 3 1 1 44)) = some .state ∧
    code (loading .field) (.planOpen .centre 9 (openOf 3 1 1 44)) = some .busy ∧
    code { State.reset with plans := (State.reset.plans.setSlot 4
        ⟨false, 0, .ready { factoryHeader with base := 25, count := 231 } []⟩) }
      (.planOpen .centre 9 (openOf 3 2 1 44)) = some .noRoom := by decide +kernel

theorem test_plan_open_first_fit :
    answerOf State.reset (.planOpen .centre 9 (openOf 3 24 1 44)) = some (.ok, [24]) ∧
    answerOf State.reset (.planOpen .centre 9 (openOf 15 1 9 96)) = some (.ok, [24]) := by decide +kernel

theorem witness_PlanOpenRule : ∃ o, openBody (openOf 3 24 1 44) = some o ∧ o.Legal ∧
    State.reset.plans.Fits 3 o.count 24 ∧ ∀ lower, lower < 24 → ¬State.reset.plans.Fits 3 o.count lower := by
  refine ⟨_, rfl, by constructor <;> decide, ⟨by decide, ?_⟩, ?_⟩
  · intro j _ r h
    have : ∀ j, ∀ r ∈ (State.reset.plans.slot j).body.run, r.base + r.count ≤ 24 := by decide +kernel
    exact .inr (this j r h)
  · intro lower hl hf
    have : (State.reset.plans.slot 0).body.run = some ⟨0, 24⟩ := by decide +kernel
    rcases hf.2 0 (by decide) _ this with h | h
    · simp at h
    · simp at h; omega

theorem test_plan_entry :
    ([[16, 0, 1, 0, 0, 0, 1, 0, 0, 0, 1], [2, 0, 1, 0, 0, 0, 1, 0, 0, 0, 1], [3, 2, 1, 0, 0, 0, 1, 0, 0, 0, 1],
      [3, 0, 0, 0, 0, 0, 1, 0, 0, 0, 1], [3, 0, 25, 0, 0, 0, 1, 0, 0, 0, 1], [3, 1, 24, 3, 132, 0, 1, 0, 0, 0, 1],
      [3, 1, 24, 3, 131, 0, 1, 0, 0, 3, 131]].map fun b => code (loading .centre) (.planEntry .centre 9 b)) =
      [some .badValue, some .state, some .badValue, some .badValue, some .badValue, some .badValue, some .ok] ∧
    code (loading .field) (.planEntry .centre 9 [3, 0, 1, 0, 0, 0, 1, 0, 0, 0, 1]) = some .busy := by decide +kernel

theorem test_plan_close :
    code State.reset (.planClose .centre 9 [16]) = some .badValue ∧
    code State.reset (.planClose .centre 9 [2]) = some .state ∧
    code (loading .field) (.planClose .centre 9 [3]) = some .busy ∧
    answerOf (loading .centre) (.planClose .centre 9 [3]) = some (.badValue, [1, 0]) ∧
    answerOf (loaded ⟨1, ⟨0, 99⟩, ⟨0, 450⟩⟩ ⟨2, ⟨0, 450⟩, ⟨0, 450⟩⟩) (.planClose .centre 9 [3]) =
      some (.badValue, [0, 1]) ∧
    answerOf (loaded ⟨1, ⟨0, 450⟩, ⟨0, 450⟩⟩ ⟨1, ⟨0, 450⟩, ⟨0, 450⟩⟩) (.planClose .centre 9 [3]) =
      some (.badValue, [1, 2]) ∧
    answerOf (loaded ⟨1, ⟨0, 100⟩, ⟨0, 800⟩⟩ ⟨2, ⟨0, 450⟩, ⟨0, 450⟩⟩) (.planClose .centre 9 [3]) = some (.ok, [8]) := by
  decide +kernel

theorem test_plan_drop :
    ([[16], [0], [2]].map fun b => code State.reset (.planDrop .centre 9 b)) =
      [some .badValue, some .locked, some .ok] ∧
    code (ready [] { State.reset with plans := { State.reset.plans with pendingSlot := some 3 } })
      (.planDrop .centre 9 [3]) = some .state ∧
    code (loading .field) (.planDrop .centre 9 [3]) = some .ok ∧
    code (ready [] State.reset) (.planDrop .centre 9 [3]) = some .ok := by decide +kernel

theorem test_plan_lock :
    ([Instr.planLock .centre 9 [16], .planLock .centre 9 [2], .planLock .centre 9 [3], .planLock .centre 9 [0],
      .planUnlock .centre 9 [16], .planUnlock .centre 9 [0], .planUnlock .centre 9 [3]].map
        (code (ready [] State.reset))) =
      [some .badValue, some .state, some .ok, some .ok, some .badValue, some .locked, some .ok] := by decide +kernel

theorem test_plan_select :
    ([[16], [2], [3], [0]].map fun b => code (ready [] two) (.planSelect .centre 9 b)) =
      [some .badValue, some .state, some .mismatch, some .ok] ∧
    ran (.planSelect .centre 9 [3]) (ready factoryEntries two) (fun t => decide (t.plans.pendingSlot = some 3)) = true := by
  decide +kernel

theorem test_start :
    code coordinating (.start .centre 9 []) = some .state ∧ code State.reset (.start .centre 9 []) = some .mismatch ∧
    code { two with links := State.reset.links } (.start .centre 9 []) = some .mismatch ∧
    answerOf two (.start .centre 9 []) = some (.ok, [1]) ∧ answerOf (two.withHeld true) (.start .centre 9 []) = some (.ok, [2]) := by
  decide +kernel

theorem test_stop_and_fallback :
    ([two, mastered .fallback two, mastered (.detached .idle) two, coordinating, mastered .hold two].map
      fun s => (code s (.stop .centre 9 []), code s (.fallback .centre 9 []))) =
      [(some .ok, some .ok), (some .state, some .ok), (some .state, some .state), (some .ok, some .ok),
        (some .ok, some .ok)] ∧
    ran (.stop .centre 9 []) coordinating (fun t => decide (t.ctl.master = .idle)) = true ∧
    ran (.fallback .centre 9 []) two (fun t => decide (t.ctl.master = .fallback ∧
      t.faults.first = some ⟨.fallbackEntered .request, 0, 0⟩)) = true := by decide +kernel

theorem test_hold_and_resume :
    ran (.hold .centre 9 []) coordinating (fun t => decide (t.ctl.master = .hold ∧ t.ctl.held = true)) = true ∧
    ran (.hold .centre 9 []) two (fun t => decide (t.ctl.master = .idle ∧ t.ctl.held = true)) = true ∧
    ran (.resume .centre 9 []) ((mastered .hold two).withHeld true) (fun t => decide (t.ctl.master = .coordinating)) = true ∧
    ran (.resume .centre 9 []) two (fun t => decide (t.ctl.master = .idle ∧ t.ctl.held = false)) = true := by decide +kernel

theorem test_settings :
    ([Instr.policy .centre 9 [2], .policy .centre 9 [0], .policy .centre 9 [1], .beaconSet .centre 9 [0, 49],
      .beaconSet .centre 9 [0, 50], .beaconSet .centre 9 [2, 88], .beaconSet .centre 9 [2, 89],
      .timebase .centre 9 [2], .timebase .centre 9 [0], .timebase .centre 9 [1]].map (code State.reset)) =
      [some .badValue, some .ok, some .ok, some .badValue, some .ok, some .ok, some .badValue, some .badValue, some .ok,
        some .ok] ∧
    ran (.timebase .centre 9 [0]) (timed .internal 0) (fun t => decide (t.clock.tb = .acquiring 0 none)) = true ∧
    ran (.timebase .centre 9 [1]) (timed (.reference 0 1000) 0) (fun t => decide (t.clock.tb = .internal)) = true := by
  decide +kernel

/-- COORDINATING with a computation in flight. -/
def computing : State := { coordinating with band := { Band.restarted with inFlight := some coordinating.newComputation } }

theorem test_compute :
    code two (.compute .centre 9 []) = some .state ∧ answerOf coordinating (.compute .centre 9 []) = some (.ok, [0, 0, 1]) ∧
    answerOf computing (.compute .centre 9 []) = some (.ok, [1, 0, 1]) ∧
    ran (.compute .field 9 []) coordinating (fun t => decide (t.band = coordinating.band)) = true := by decide +kernel

/-- The snapshot holds the entry of each ENROLLED position and the one link between them (R77). -/
theorem witness_ComputeRule_snapshot :
    (coordinating.plans.slot coordinating.plans.active).body = .ready factoryHeader factoryEntries ∧
    coordinating.snapshot.positions = [⟨0, ⟨0, 450⟩, ⟨0, 450⟩, 0⟩, ⟨1, ⟨0, 450⟩, ⟨0, 450⟩, 0⟩] ∧
    coordinating.snapshot.links = [⟨0, 500, .none, .none⟩] := by decide +kernel

theorem test_vector_set :
    ([[8, 1, 0, 100, 1, 1, 0], [7, 4, 0, 100, 1, 1, 0], [7, 1, 0, 99, 1, 1, 0], [7, 1, 11, 185, 1, 1, 0],
      [7, 1, 0, 100, 0], [7, 1, 0, 100, 1, 25, 0], [7, 1, 0, 100, 1, 1, 3], [7, 1, 0, 100, 2, 1, 0, 1, 0],
      [7, 0, 0, 0, 0], [7, 3, 11, 184, 2, 1, 0, 24, 2]].map fun b => code State.reset (.vectorSet .centre 9 b)) =
      [some .badValue, some .badValue, some .badValue, some .badValue, some .badValue, some .badValue, some .badValue,
        some .badValue, some .ok, some .ok] ∧
    code owned (.vectorSet .centre 9 [1, 0, 0, 0, 0]) = some .state := by decide +kernel

theorem test_line_set :
    ([[0, 0, 0, 50], [5, 0, 0, 50], [1, 2, 0, 50], [1, 0, 0, 55], [1, 0, 1, 254], [4, 1, 1, 244], [1, 0, 0, 0]].map
      fun b => code State.reset (.lineSet .centre 9 ⟨b, 0⟩)) =
      [some .badValue, some .badValue, some .badValue, some .badValue, some .badValue, some .ok, some .ok] ∧
    code owned (.lineSet .centre 9 ⟨[2, 0, 0, 50], 0⟩) = some .state := by decide +kernel

theorem test_pre_call :
    code State.reset (.preCall .centre 9 [8]) = some .badValue ∧ code State.reset (.preCall .centre 9 [7]) = some .state ∧
    code (vectored 7 .transit two) (.preCall .centre 9 [7]) = some .state ∧
    answerOf owned (.preCall .centre 9 [1]) = some (.ok, [1]) ∧
    answerOf (vectored 7 .transit coordinating) (.preCall .centre 9 [7]) = some (.ok, [0]) ∧
    ran (.preCall .centre 9 [0]) (vectored 0 .rail two)
      (fun t => decide ((t.posRec 0).owner = some 0 ∧ (t.posRec 1).owner = none)) = true := by decide +kernel

theorem witness_PreCallRule :
    (vectored 0 .rail two).CanTake .centre ⟨22, 9, [0]⟩ (.restarted none) ∧
    (vectored 0 .rail two).pre.causes.get 0 = none ∧ CauseLaw (vectored 0 .rail two) :=
  ⟨can_take _ rfl rfl (by decide), by decide +kernel,
    cause_law (by decide +kernel) (by unfold distinct; decide +kernel) (by unfold distinct; decide +kernel) rfl⟩

/-- `coordinating` meets the premises of STOP, FALLBACK, HOLD and the lines, besides the request's own. -/
theorem coordinating_cause_law : CauseLaw coordinating :=
  cause_law (by decide +kernel) (by unfold distinct; decide +kernel) (by unfold distinct; decide +kernel) rfl

theorem witness_StopRule_FallbackRule_HoldResumeRule : CauseLaw coordinating ∧ coordinating.ctl.master = .coordinating ∧
    ∀ f : Frame, f.body.length ≤ 248 → coordinating.CanTake .centre f (.restarted none) :=
  ⟨coordinating_cause_law, rfl, fun f h => can_take f rfl rfl h⟩

theorem test_pre_clear :
    code State.reset (.preClear .centre 9 [8]) = some .badValue ∧ answerOf State.reset (.preClear .centre 9 [7]) = some (.ok, [1]) ∧
    answerOf owned (.preClear .centre 9 [1]) = some (.ok, [0]) ∧
    ran (.preClear .centre 9 [1]) owned (fun t => decide ((t.posRec 0).owner = none ∧
      t.trunk.orders.get 0 = some ⟨.release, 0, false, false⟩)) = true := by decide +kernel

theorem witness_CauseEndRule : owned.powered = true ∧ owned.pre.causes.get 1 = some ⟨50, .call⟩ ∧
    (caused 1 1 owned).pre.causes.get 1 = some ⟨1, .call⟩ := by decide +kernel

theorem test_cause_expiry :
    ran (.causeExpiry 1) (caused 1 2 owned) (fun t => decide (t.pre.causes.get 1 = some ⟨2, .call⟩)) = true ∧
    ran (.causeExpiry 1) (caused 1 1 owned) (fun t => decide (t.pre.causes.get 1 = none ∧
      t.faults.first = some ⟨.holdExpired 1, 0, 0⟩ ∧ t.pre.lastEnd.get 1 = some .expiry)) = true := by decide +kernel

theorem test_fault_clear :
    ran (.faultClear .centre 9 []) (owned.fault (.holdExpired 1)) (fun t => decide (t.faults.first = none ∧
      t.faults.next = [])) = true := by decide +kernel

theorem test_alert_requests :
    code State.reset (.alertEnable .centre 9 [0, 0, 0, 0, 0, 0, 0, 0, 2]) = some .badValue ∧
    ran (.alertEnable .centre 9 [0, 0, 0, 0, 0, 0, 1, 0, 0]) State.reset (fun t => decide (t.faults.waiting = true)) = true ∧
    ([[0], [1, 9], [1, 8], [2, 0, 6]].map fun b => code State.reset (.alertClear .centre 9 b)) =
      [some .badValue, some .badValue, some .ok, some .ok] := by decide +kernel

theorem test_alert_record :
    ran .alertRecord { State.reset with faults := { State.reset.faults with
        waiting := true, enabled := Vector.replicate 9 true } }
      (fun t => decide (t.faults.out = some ⟨1, [.timebase]⟩ ∧ t.faults.waiting = false)) = true := by decide +kernel

theorem test_restart_and_erase :
    ran (.restart .centre 9 []) coordinating (fun t => decide (t.ctl.master = .idle ∧ t.centre.inProgress = none)) = true ∧
    ran (.erase .centre 9 []) two (fun t => decide (t.store = .factory ∧ t.centre.out = some ⟨156, 9, .ok, []⟩)) = true ∧
    ran .powerOn { State.reset with powered := false } (fun t => t.powered && !t.faults.waiting) = true ∧
    ran .powerOn { State.reset with store := { State.reset.store with enabled := Vector.replicate 9 true } }
      (fun t => t.faults.waiting) = true ∧
    ran (.powerLoss true) { two with unfinished := some ⟨.factory, none⟩ } (fun t => !t.powered) = true := by decide +kernel

/-- RESTART starts every measurement at its own time 0, and the write of ERASE can no longer be lost once OK is out (R156, R168, R169). -/
theorem test_restart_and_erase_are_whole :
    ran (.restart .centre 9 []) { two with now := 7000 } (fun t => decide (t.now = 0 ∧ t.ctl.holdLine.input.since = 0)) = true ∧
    ran (.erase .centre 9 []) two (fun t => decide (t.unfinished = none)) = true := by decide +kernel

theorem witness_QueryRule :
    (Query .centre 9 (.qJunction .centre 9 [24]) ⟨31, 9, [24]⟩ fun s => s.junctionFields 23) ∧
    (Query .centre 9 (.qMeasure .centre 9 [23]) ⟨34, 9, [23]⟩ fun s => s.linkFields 22 22 23) ∧
    EmptyQuery .centre 9 (.qPool .centre 9 [241, 16]) ⟨33, 9, [241, 16]⟩ ∧
    EmptyQuery .centre 9 (.qMeasure .centre 9 [24]) ⟨34, 9, [24]⟩ ∧
    State.reset.CanTake .centre ⟨33, 9, [240, 16]⟩ (.restarted none) ∧ (16 : Byte).toNat = 16 ∧ (240 : Byte).toNat + 16 ≤ 256 :=
  ⟨.junction 24 23 (by decide), .measure 23 22 22 23 (by decide) (by decide) (by decide), .pool 241 16 (by decide),
    .measure 24 (by decide), can_take _ rfl rfl (by decide), by decide, by decide⟩

/-- Q-PRE (R153, R182): the flag of the cause, and a presence byte each for the remaining hold and the source. -/
theorem test_vector_bytes : owned.vectorBytes 1 = [1, 0, 100, 1, 1, 2, 1, 1, 0, 50, 1, 1, 0] ∧
    State.reset.vectorBytes 7 = [0, 0, 100, 0, 0, 0, 0, 0] := by decide +kernel

/-! ### The ports -/

theorem witness_ReceivedFrameIsKept :
    State.reset.powered = true ∧ (List.replicate 248 (0 : Byte)).length ≤ 248 ∧ (State.reset.port .centre).receiving = [] ∧
    (State.reset.port .centre).held + (List.replicate 248 (0 : Byte)).length + 6 ≤ 256 ∧
    [0, 0] ≠ checkBytes (Frame.covered ⟨11, 9, []⟩) := by decide +kernel

/-- A frame over two commands, a byte outside a frame, and a length byte of 1 (R178). -/
theorem test_bytes_received :
    ran (.portFrame .field ([11, 9] ++ checkBytes [2, 11, 9]))
      { State.reset with field := { State.reset.field with receiving := [0xC3, 2] } }
      (fun t => decide (t.field.frames = [⟨11, 9, []⟩] ∧ t.field.receiving = [])) = true ∧
    ran (.portFrame .field [7]) State.reset (fun t => decide (t = State.reset)) = true ∧
    ran (.portFrame .field [0xC3, 1]) State.reset (fun t => decide (t.field.receiving = [] ∧ t.field.errors = 1)) = true := by
  decide +kernel

/-- The port states of the clauses on single bytes: full, HUNTING, at the length byte, inside a frame, at its last byte. -/
theorem witness_DamagedFrameIsDiscarded_bytes :
    (⟨[], List.replicate 256 0xC3, none, 0, none⟩ : Port).held = 256 ∧ (⟨[], [], none, 0, none⟩ : Port).held < 256 ∧
    (⟨[], [0xC3], none, 0, none⟩ : Port).held < 256 ∧ (⟨[], [0xC3, 2, 11], none, 0, none⟩ : Port).held < 256 ∧
    ([0xC3, 2, 11, 9, 5] : List Byte) ++ [6] = 0xC3 :: 2 :: 11 :: 9 :: [] ++ [5, 6] ∧
    ([] : List Byte).length + 2 = (2 : Byte).toNat := by decide +kernel

/-- A request is not taken while another is in progress at its port, nor when it is not the oldest complete frame (R179). -/
theorem test_request_not_taken :
    let busy := { State.reset with centre := { State.reset.centre with inProgress := some ⟨11, 9, .supervisory, ⟨139, 9, .ok, [1]⟩⟩ } }
    let later := { State.reset with centre := { State.reset.centre with frames := [⟨12, 8, []⟩, ⟨13, 9, []⟩] } }
    ran (.hold .centre 9 []) busy (fun t => decide (t = busy)) = true ∧
    ran (.hold .centre 9 []) later (fun t => decide (t = later)) = true ∧
    ran (.stop .centre 8 []) later (fun t => decide (t.centre.frames = [⟨13, 9, []⟩])) = true := by decide +kernel

theorem witness_ChecksBeforeTheOwner_taking : Carries .centre 9 [] (.hold .centre 9 []) ⟨13, 9, []⟩ ∧
    Carries .field 9 [] (.unknownKind .field 39 9 []) ⟨39, 9, []⟩ := ⟨.fixed _ _ 0 .hold, .unknown 39 (by decide)⟩

/-- START with tag 9 as bytes: sync, length 2, kind 11, tag, check. -/
theorem test_start_frame_received :
    ran (.portFrame .field ([0xC3, 2, 11, 9] ++ checkBytes [2, 11, 9])) State.reset
      (fun t => decide (t.field.frames = [⟨11, 9, []⟩] ∧ t.field.errors = 0)) = true ∧
    ran (.portFrame .field [0xC3, 2, 11, 9, 0, 0]) State.reset
      (fun t => decide (t.field.frames = [] ∧ t.field.errors = 1)) = true := by decide +kernel

theorem test_port_events :
    ran (.portPause .centre) { State.reset with centre := { State.reset.centre with receiving := [0xC3] } }
      (fun t => decide (t.centre.receiving = [] ∧ t.centre.errors = 1)) = true ∧
    ran (.receiveBufferFull .centre 1)
      { State.reset with centre := { State.reset.centre with receiving := List.replicate 256 0xC3 } }
      (fun t => decide (t.centre.receiving = [] ∧ t.centre.errors = 1)) = true ∧
    ran (.replyEnd .centre)
      { State.reset with centre := { State.reset.centre with inProgress := some ⟨11, 9, .supervisory, ⟨139, 9, .ok, [1]⟩⟩ } }
      (fun t => decide (t.centre.inProgress = none ∧ t.centre.out = some ⟨139, 9, .ok, [1]⟩)) = true := by decide +kernel

/-! ### The clock, the timebase and the lines -/

theorem witness_DecisecondRule : State.reset.powered = true ∧ State.reset.clock.cyclePos + 1 ≠ State.reset.clock.c ∧
    (caused 1 1 owned).clock = State.reset.clock ∧ owned.endingHolds = [] ∧ (caused 1 1 owned).endingHolds = [1] ∧
    (caused 0 1 (caused 1 1 owned)).endingHolds = [0, 1] := by decide +kernel

theorem witness_RolloverRule_MeasuresAge_TideRule : (lastTick State.reset).powered = true ∧
    (lastTick State.reset).clock.cyclePos + 1 = (lastTick State.reset).clock.c ∧
    ∃ t, exec (.rollover anyOrder) (lastTick State.reset) = .next t :=
  ⟨by decide +kernel, by decide +kernel, _, rfl⟩

/-- A hold that ends within the cycle: the position is RELEASED at the new position of the clock. -/
theorem test_decisecond :
    ran (.decisecond ⟨.afterAll, .afterBoth⟩) (caused 1 1 owned) (fun t => decide ((t.posRec 0).owner = none ∧
      (t.posRec 0).seek = .idle ∧ t.trunk.orders.get 0 = some ⟨.release, 0, false, false⟩ ∧
      t.faults.first = some ⟨.holdExpired 1, 0, 1⟩)) = true ∧
    ran (.decisecond anyOrder) { State.reset with clock := { State.reset.clock with cyclePos := 99 } }
      (fun t => decide (t.clock.cyclePos = 100 ∧ t.trunk.waitingBeacon = some false)) = true ∧
    ran (.decisecond anyOrder) (lastTick State.reset) (fun t => decide (t.clock.cyclePos = 0 ∧ t.clock.cycleNo = 1)) = true := by
  decide +kernel

theorem test_rollover :
    ran (.rollover anyOrder) State.reset (fun t => decide (t = State.reset)) = true ∧
    ran (.rollover anyOrder) (lastTick (ready factoryEntries { State.reset with plans := { State.reset.plans with pendingSlot := some 3 } }))
      (fun t => decide (t.plans.active = 3 ∧ t.plans.pendingSlot = none ∧ t.store.active = 3)) = true := by decide +kernel

/-- Slot 3 with the factory plan under FIXED and peak direction OUTBOUND, pending. -/
def turning (s : State) : State :=
  lastTick { s with plans := { s.plans.setSlot 3
      ⟨false, 7, .ready { factoryHeader with mode := .outbound, adaptive := false, base := 24 } factoryEntries⟩ with pendingSlot := some 3 } }

/-- No hold ends at the rollover, with a plan to activate; one hold ends, and two. -/
theorem witness_RolloverRule_holds : (turning owned).endingHolds = [] ∧ (turning owned).plans.pendingSlot = some 3 ∧
    (turning owned).clock.cyclePos + 1 = (turning owned).clock.c ∧ (lastTick (caused 1 1 owned)).endingHolds = [1] ∧
    (lastTick (caused 0 1 (caused 1 1 owned))).endingHolds = [0, 1] := by decide +kernel

/-- The activation leaves a SUSPENDED position SUSPENDED with return state SEEKING, an IDLE one IDLE (R32). -/
theorem test_seeks_of_an_activation :
    ran (.rollover anyOrder) (turning owned) (fun t => decide ((t.posRec 0).seek = .suspended .seeking ∧
      (t.posRec 1).seek = .idle ∧ (t.posRec 0).owner = some 1)) = true := by decide +kernel

/-- The activation of a FIXED plan of another direction: whatever the order, the computation that starts is on that direction, or
another one follows it (R76). -/
theorem test_direction_set_by_an_activation :
    ([BandMoment.afterBoth, .beforeBoth, .betweenRolloverAndActivation, .betweenActivationAndRollover].map fun m =>
      ran (.rollover ⟨.beforeClock, m⟩) (turning coordinating) fun t => decide (t.meas.dir = .outbound ∧
        t.band.recompute = decide (t.band.inFlight.map (·.snap.dir) = some .inbound))) = [true, true, true, true] ∧
    ran (.rollover ⟨.beforeClock, .beforeBoth⟩) (turning coordinating) (fun t => t.band.recompute) = true := by decide +kernel

/-- A hold that ends at a rollover, at each of the four moments: the record holds the clock's reading then (R171). -/
theorem test_hold_moments :
    ([HoldMoment.beforeClock, .beforeSeeks, .beforeBand, .afterAll].map fun m =>
      ran (.rollover ⟨m, .afterBoth⟩) (lastTick (caused 1 1 owned)) fun t => decide (
        (t.faults.first.map fun r => (r.cycleNo, r.cyclePos)) = some (if m = .beforeClock then (0, 899) else (1, 0)) ∧
        t.pre.causes.get 1 = none)) = [true, true, true, true] := by decide +kernel

/-- The eighth good pulse, the shortest good interval, a bad interval, and the silence limit at 1500 ms. -/
theorem test_reference :
    ran (.refPulse 1010) (timed (.acquiring 7 (some 0)) 0) (fun t => decide (t.clock.tb = .reference 1010 1010)) = true ∧
    ran (.refPulse 990) (timed (.acquiring 6 (some 0)) 0) (fun t => decide (t.clock.tb = .acquiring 7 (some 990))) = true ∧
    ran (.refPulse 1011) (timed (.reference 0 1000) 0) (fun t => decide (t.clock.tb = .acquiring 0 (some 1011))) = true ∧
    ran (.silenceLimit 1499) (timed (.reference 0 1000) 0) (fun t => decide (t.clock.tb = .reference 0 1000)) = true ∧
    ran (.silenceLimit 1500) (timed (.reference 0 1000) 0) (fun t => decide (t.clock.tb = .acquiring 0 none)) = true := by
  decide +kernel

theorem witness_ReferenceRule :
    (timed .internal 0).clock.tb = .internal ∧ (timed (.acquiring 7 none) 0).clock.tb = .acquiring 7 none ∧
    (timed (.acquiring 7 (some 0)) 0).clock.tb = .acquiring 7 (some 0) ∧
    (timed (.reference 0 1000) 0).clock.tb = .reference 0 1000 ∧ (timed .internal 0).powered = true := by decide +kernel

/-- Line P1 with its input high since 0. -/
def high (armed active : Bool) (s : State) : State :=
  { s with pre := { s.pre with lines := s.pre.lines.set 0 ⟨factoryLine, active, armed, ⟨true, 0, false⟩⟩ } }

theorem test_line_input_change :
    ran (.lineInputChange (.preempt 3) true 7) State.reset (fun t => decide (t.input (.preempt 3) = ⟨true, 7, false⟩)) = true ∧
    ran (.lineInputChange .key false 7) State.reset (fun t => decide (t = { State.reset with now := 7 })) = true := by decide +kernel

theorem test_pre_line_settle :
    ran (.preLineSettle 0 49) (high true false (vectored 0 .rail two)) (fun t => decide (t.pre.causes.get 0 = none)) = true ∧
    ran (.preLineSettle 0 50) (high true false (vectored 0 .rail two))
      (fun t => decide (t.pre.causes.get 0 = some ⟨100, .line⟩)) = true := by decide +kernel

theorem witness_PreLineRule :
    let s := high true false (vectored 0 .rail two)
    let l := s.pre.lines.get 0
    s.powered = true ∧ l.input.settled = false ∧ l.input.since + l.cfg.debounce ≤ 50 ∧ l.input.high = true ∧
    l.armed = true ∧ l.active = false ∧ (s.pre.vectors.get (vectorOfLine 0)).cls = .rail ∧
    s.pre.causes.get (vectorOfLine 0) = none ∧ (State.reset.pre.lines.get 0).cfg.debounce ≠ 0 ∧ CauseLaw s := by
  refine ⟨rfl, rfl, by decide, rfl, rfl, rfl, rfl, rfl, by decide, ?_⟩
  exact cause_law (by decide +kernel) (by unfold distinct; decide +kernel) (by unfold distinct; decide +kernel) rfl

/-- Line P2 ACTIVE, settling inactive while its cause is active. -/
theorem witness_PreLineRule_end :
    let s : State := { owned with pre := { owned.pre with lines := owned.pre.lines.set 1 ⟨factoryLine, true, true, ⟨false, 0, false⟩⟩ } }
    (s.pre.lines.get 1).active = true ∧ (s.pre.causes.get (vectorOfLine 1)).isSome = true ∧
    ran (.preLineSettle 1 50) s (fun t => decide (t.pre.lastEnd.get 1 = some .line)) = true := by decide +kernel

/-- A line not settled, its input at `level` since 0. -/
def settling (active level : Bool) : CtlLine := ⟨active, level, 0, false⟩

def held (active level : Bool) (m : Master) : State :=
  { two with ctl := { two.ctl with master := m, holdLine := settling active level } }

theorem test_hold_line :
    ran (.holdLineActive 49) (held false true .coordinating) (fun t => decide (t.ctl.master = .coordinating)) = true ∧
    ran (.holdLineActive 50) (held false true .coordinating) (fun t => decide (t.ctl.master = .hold)) = true ∧
    ran (.holdLineInactive 50) (held true false .hold) (fun t => decide (t.ctl.master = .coordinating)) = true ∧
    ran (.holdLineInactive 50) (held true false .idle) (fun t => decide (t.ctl.master = .idle ∧ t.ctl.holdLine.active = false)) = true := by
  decide +kernel

theorem test_key_line :
    ran (.keyLineActive 50) { two with ctl := { two.ctl with keyLine := settling false true } }
      (fun t => decide (t.senderClass .field = .supervisory)) = true ∧
    ran (.keyLineInactive 50) { two with ctl := { two.ctl with keyLine := settling true false } }
      (fun t => decide (t.senderClass .field = .field)) = true := by decide +kernel

theorem witness_HoldAndKeyLineRule :
    (held false true .coordinating).ctl.holdLine.Due true 50 ∧ (held true false .hold).ctl.holdLine.Due false 50 ∧
    ¬(held true false .hold).ctl.holdLine.Due false 49 ∧ (held true false .hold).powered = true ∧
    CauseLaw (held false true .coordinating) :=
  ⟨⟨rfl, rfl, by decide⟩, ⟨rfl, rfl, by decide⟩, fun h => absurd h.2.2 (by decide), rfl,
    cause_law (by decide +kernel) (by unfold distinct; decide +kernel) (by unfold distinct; decide +kernel) rfl⟩

def detaching (active level : Bool) (m : Master) (s : State) : State :=
  { s with ctl := { s.ctl with master := m, detachLine := settling active level } }

theorem test_detach_line :
    ran (.detachLineActive 50) (detaching false true .coordinating two)
      (fun t => decide (t.ctl.master = .detached .coordinating)) = true ∧
    ran (.detachLineActive 50) (detaching false true .fallback two)
      (fun t => decide (t.ctl.master = .detached .fallback)) = true ∧
    ran (.detachLineInactive 50) (detaching true false (.detached .hold) two)
      (fun t => decide (t.ctl.master = .coordinating)) = true ∧
    ran (.detachLineInactive 50) (detaching true false (.detached .hold) State.reset)
      (fun t => decide (t.ctl.master = .fallback)) = true := by decide +kernel

theorem witness_DetachLineRule :
    (detaching false true .coordinating two).ctl.detachLine.Due true 50 ∧
    (detaching true false (.detached .hold) two).ctl.detachLine.Due false 50 ∧
    (detaching true false (.detached .hold) two).powered = true ∧
    (detaching true false (.detached .hold) State.reset).ctl.detachLine.Due false 50 ∧
    CauseLaw (detaching true false (.detached .hold) State.reset) ∧ CauseLaw (detaching false true .coordinating two) :=
  ⟨⟨rfl, rfl, by decide⟩, ⟨rfl, rfl, by decide⟩, rfl, ⟨rfl, rfl, by decide⟩,
    cause_law (by decide +kernel) (by unfold distinct; decide +kernel) (by unfold distinct; decide +kernel) rfl,
    cause_law (by decide +kernel) (by unfold distinct; decide +kernel) (by unfold distinct; decide +kernel) rfl⟩

/-! ### The computation and the band -/

theorem witness_CompletionRule : computing.powered = true ∧ computing.band.inFlight = some coordinating.newComputation ∧
    coordinating.newComputation.snap.positions.Pairwise (fun a b => a.pos < b.pos) := ⟨rfl, rfl, by decide +kernel⟩

theorem test_computation_completion :
    ran .computationCompletion computing (fun t => decide (t.band.outcome = some ⟨.accepted, 1⟩ ∧
      (t.posRec 0).target.isSome = true ∧ t.band.inFlight = none)) = true ∧
    ran .computationCompletion (mastered .hold computing)
      (fun t => decide (t.band.outcome = some ⟨.stale .master, 1⟩ ∧ (t.posRec 0).target = none)) = true := by decide +kernel

theorem witness_PeakBandLaw : workedSnapshot.positions ≠ [] ∧
    ∀ x, x ∈ workedSnapshot.positions → 100 ≤ workedSnapshot.peakGreen x ∧ workedSnapshot.peakGreen x + 100 ≤ workedSnapshot.c := by
  decide +kernel

theorem witness_SlideAndCounterBandLaw_SlidesKeepThePeakBand : 0 < worked.snap.c ∧ 0 < worked.snap.slideStep ∧
    (∀ y, y ∈ worked.snap.positions → worked.snap.peakGreen y ≤ worked.snap.c) ∧ worked.record.entries ≠ [] ∧
    (worked.snap.counterRows worked.travel).length = 4 ∧
    (worked.snap.peakOrder.zip (arrivals worked.travel worked.snap.dir 0 worked.snap.peakOrder)).length = 4 := by decide +kernel

/-! ### The trunk -/

/-- A round open over positions 1 and 2, nothing else waiting. -/
def round (probed : Bool) (cursor : Option Pos) (s : State) : State :=
  s.setTrunk { s.trunk with waitingBeacon := none, roundOpen := true, probeDone := probed, cursor }

def entry (resting : Bool) : OrderEntry := ⟨.release, 0, resting, false⟩

theorem test_beacon_and_step :
    ran .beacon { two with clock := { two.clock with cyclePos := 300, cycleNo := 5 } }
      (fun t => decide (t.trunk.out = some ⟨0, 1, [1, 44, 0, 5, 3, 132]⟩ ∧ t.trunk.waitingBeacon = none)) = true ∧
    ran .stepFrame (round false none two) (fun t => decide (t.trunk.exchange = some ⟨.step, 0, 1, false, false⟩ ∧
      t.trunk.out = some ⟨1, 2, [1, 3, 132, 0, 0, 0, 0, 1, 0, 0, 1, 194, 0, 0, 1, 194]⟩)) = true := by decide +kernel

/-- Nothing is granted while the master is DETACHED or an exchange is in flight, and no STEP before a waiting beacon (R124, R134). -/
theorem test_no_grant :
    (([mastered (.detached .idle) two, (asking .probe false two).setTrunk { (asking .probe false two).trunk with waitingBeacon := some true }].map
      fun s => [Instr.beacon, .stepFrame, .preemptFrame, .releaseFrame, .probeFrame].map fun c => ran c s fun t => decide (t = s)) =
      [[true, true, true, true, true], [true, true, true, true, true]]) ∧
    ran .stepFrame { round false none two with trunk := { (round false none two).trunk with waitingBeacon := some false } }
      (fun t => decide (t.trunk.exchange = none)) = true := by decide +kernel

theorem witness_BeaconAndStepGrants_turns : ¬(mastered (.detached .idle) two).LineFree ∧ ¬(asking .probe false two).LineFree ∧
    two.RoundDone ∧ (ordered 0 (entry false) two).Waits 0 false (entry false) 1 :=
  ⟨fun h => absurd h.2 (by decide), fun h => absurd h.1 (by decide), fun h => absurd h (by decide), rfl, rfl, by decide +kernel⟩

theorem witness_BeaconAndStepGrants :
    (two.powered = true ∧ two.LineFree ∧ (∀ o e d, ¬two.Waits o false e d) ∧ two.trunk.waitingBeacon = some false) ∧
    let s := round false none two
    s.LineFree ∧ (∀ o e d, ¬s.Waits o false e d) ∧ s.trunk.waitingBeacon = none ∧ s.trunk.roundOpen = true ∧
      (s.posRec 0).enrolment = .enrolled 1 ∧ (s.plans.entryOf s.plans.active 0).isSome = true := by
  have h : ∀ o, two.trunk.orders.get o = none := by decide +kernel
  have h' : ∀ o, (round false none two).trunk.orders.get o = none := by decide +kernel
  refine ⟨⟨rfl, ⟨rfl, rfl⟩, fun o e d hw => ?_, rfl⟩, ⟨rfl, rfl⟩, fun o e d hw => ?_, rfl, rfl, by decide +kernel, by decide +kernel⟩
  · simp [State.Waits, h] at hw
  · simp [State.Waits, h'] at hw

/-- A STEP to a SEEKING position of mode LOCAL carries correction 0 (R121 and section 7.9). -/
theorem test_held_mode_carries_no_correction :
    ([Mode.coordinated, .free, .preempted, .localHeld].map fun m => (coordinating.setPosRec 0 { PosRec.restarted (.enrolled 1) with
      mode := m, seek := .seeking, correction := 90 }).carriedCorrection 0) = [90, 90, 0, 0] := by decide +kernel

theorem test_order_grants :
    ran .preemptFrame (ordered 0 ⟨.preempt 1 .rail .allRed, 0, false, false⟩ two)
      (fun t => decide (t.trunk.out = some ⟨1, 4, [1, 1, 2]⟩)) = true ∧
    ran .releaseFrame (ordered 1 (entry true) (round true (some 1) two)) (fun t => decide (t.trunk.out = some ⟨2, 5, []⟩)) = true := by
  decide +kernel

theorem test_probe_grants :
    ran .probeFrame (round false (some 1) two) (fun t => decide (t.trunk.probeDone = true ∧ t.trunk.out = none)) = true ∧
    ran .probeFrame (round false none excluded)
      (fun t => decide (t.trunk.exchange = some ⟨.probe, 0, 7, false, false⟩ ∧ t.trunk.out = some ⟨7, 7, []⟩)) = true := by decide +kernel

/-- A resting order, the last thing the arbiter grants. -/
theorem witness_OrderAndProbeGrants :
    let s := ordered 1 (entry true) (round true (some 1) two)
    s.powered = true ∧ s.LineFree ∧ s.Waits 1 true (entry true) 2 ∧ (∀ o e' d', s.Waits o true e' d' → 1 ≤ o) ∧
    (∀ o e' d', ¬s.Waits o false e' d') ∧ s.trunk.waitingBeacon = none ∧ s.RoundDone ∧ s.trunk.probeDone = true := by
  have h : ∀ o, o ≠ 1 → (ordered 1 (entry true) (round true (some 1) two)).trunk.orders.get o = none := by decide +kernel
  have h1 : (ordered 1 (entry true) (round true (some 1) two)).trunk.orders.get 1 = some (entry true) := by decide +kernel
  refine ⟨rfl, ⟨rfl, rfl⟩, ⟨h1, rfl, by decide +kernel⟩, fun o e' d' hw => ?_, fun o e' d' hw => ?_, rfl, ?_, rfl⟩
  · by_cases ho : o = 1
    · subst ho; exact le_refl _
    · have := hw.1; rw [h o ho] at this; cases this
  · by_cases ho : o = 1
    · subst ho; have := hw.1.symm.trans h1; cases this; exact absurd hw.2.1 (by decide)
    · have := hw.1; rw [h o ho] at this; cases this
  · unfold State.RoundDone; decide +kernel

/-- The probe of an EXCLUDED position, the only candidate. -/
theorem witness_OrderAndProbeGrants_probe :
    let s := round false none excluded
    s.LineFree ∧ s.trunk.roundOpen = true ∧ s.trunk.probeDone = false ∧ (s.posRec 0).probeCandidate = true ∧
    (s.posRec 0).enrolment.drop = some 7 ∧ s.enrolledCount = 0 ∧
    ∀ o, (s.posRec o).probeCandidate = true →
      ((0 : Pos).val + 23 - s.trunk.probePtr.val) % 24 ≤ (o.val + 23 - s.trunk.probePtr.val) % 24 := by
  refine ⟨⟨rfl, rfl⟩, ?_⟩
  decide +kernel

theorem witness_ReportRule :
    let s := asking .step false two
    s.powered = true ∧ s.trunk.exchange = some ⟨.step, 0, 1, false, false⟩ ∧ (1 : Byte).toNat = 1 ∧ Mode.coordinated.code = 0 := by
  decide +kernel

/-- A report with an inbound transit of 300 ds seeds nothing but the inbound measure of link 1. -/
theorem test_report :
    ran (.report 1 [1, 0, 50, 0, 1, 0, 0, 0, 3, 4, 61, 2, 1, 44, 0, 0, 0, 0]) (asking .step false two)
      (fun t => decide ((t.posRec 0).running = some 50 ∧ (t.posRec 0).reload = false ∧
        (t.linkRec 0).inb.quality = .fresh 300 0 ∧ (t.linkRec 0).outb.quality = .none ∧
        (t.meas.pos.get 0).queueIn = some ⟨60, 0⟩)) = true := by decide +kernel

/-- A detector fault byte of 255 is a fault, and the slot byte of an absent tag is not read (R186). -/
theorem test_report_bytes :
    ran (.report 1 [1, 0, 50, 2, 0, 200, 0, 0, 3, 4, 61, 2, 1, 44, 0, 0, 255, 0]) (asking .step false two)
      (fun t => decide ((t.posRec 0).tagSeen = none ∧ t.trunk.exchange = none ∧
        (t.linkRec 0).inb.quality = .poisoned)) = true := by decide +kernel

theorem witness_AckAndAnswerRule :
    (asking .preempt false two).trunk.exchange = some ⟨.preempt, 0, 1, false, false⟩ ∧ (asking .preempt false two).powered = true ∧
    (asking .probe false two).trunk.exchange = some ⟨.probe, 0, 1, false, false⟩ ∧ Mode.localHeld.code = 3 := by decide +kernel

theorem test_ack :
    ran (.ack 1 [4]) (ordered 0 ⟨.preempt 1 .rail .allRed, 0, false, true⟩ (asking .preempt false two))
      (fun t => decide (t.trunk.orders.get 0 = none ∧ t.trunk.exchange = none)) = true ∧
    ran (.ack 1 [5]) (asking .preempt false two) (fun t => decide (t.trunk.badFrames = 1)) = true := by decide +kernel

theorem test_answer :
    ran (.answer 1 [3]) (asking .probe false two) (fun t => decide ((t.posRec 0).available = true ∧ (t.posRec 0).mode = .localHeld ∧
      t.trunk.probeDone = true)) = true := by decide +kernel

/-- Every clause: without an exchange; a PROBE, first and second attempt; a STEP, first attempt, with and without another, and second;
an order that has gone, and one at its third failure. -/
theorem witness_FailedAttemptRule :
    (State.reset.trunk.exchange = none ∧ Receives 2 [5] (.ack 2 [5]) 6) ∧
    (let s := asking .step false two
     let x : Exchange := ⟨.step, 0, 1, false, false⟩
     s.powered = true ∧ s.trunk.exchange = some x ∧ ¬x.Awaits 2 6 [5] ∧ s.ctl.master.isDetached = false ∧
       (s.posRec 0).enrolment.drop = some 1) ∧
    (asking .probe false two).trunk.exchange = some ⟨.probe, 0, 1, false, false⟩ ∧
    (asking .probe true two).trunk.exchange = some ⟨.probe, 0, 1, true, false⟩ ∧
    (asking .step true two).trunk.exchange = some ⟨.step, 0, 1, true, false⟩ ∧
    (asking .step false (mastered (.detached .idle) two)).ctl.master.isDetached = true ∧
    (asking .release false two).trunk.orders.get 0 = none ∧
    let s := ordered 0 ⟨.release, 2, false, true⟩ (asking .release false two)
    s.trunk.orders.get 0 = some ⟨.release, 2, false, true⟩ ∧
      ¬((s.posRec 0).enrolment.isEnrolled = true ∧ (s.posRec 0).misses = 4) :=
  ⟨⟨rfl, .ack⟩, ⟨rfl, rfl, fun h => absurd h.1 (by decide), rfl, by decide +kernel⟩, rfl, rfl, rfl, rfl, by decide +kernel⟩

/-- The fifth miss of a position EXCLUDED since, and a failed order of an ENROLLED position that is LOST still. -/
theorem witness_FailedAttemptRule_lost :
    (let s := asking .step true (two.setPosRec 0 { PosRec.restarted (.excluded 1 .operator) with misses := 4, health := .suspect })
     s.trunk.exchange = some ⟨.step, 0, 1, true, false⟩ ∧ (s.posRec 0).enrolment.isEnrolled = false ∧ (s.posRec 0).misses = 4 ∧
       ran .responseWindowExpiry s (fun t => decide ((t.posRec 0).health = .lost ∧ t.ctl = s.ctl ∧
         t.faults.first = some ⟨.junctionLost 0, 0, 0⟩)) = true) ∧
    let s := ordered 0 ⟨.release, 0, false, true⟩
      (asking .release false (two.setPosRec 0 { PosRec.restarted (.enrolled 1) with misses := 5, health := .lost }))
    (s.trunk.orders.get 0).isSome = true ∧ (s.posRec 0).enrolment.isEnrolled = true ∧ (s.posRec 0).health = .lost ∧
      ran .responseWindowExpiry s (fun t => decide ((t.posRec 0).misses = 5 ∧ t.faults.first = none ∧ t.ctl = s.ctl)) = true := by
  decide +kernel

/-- A STEP attempt in flight at the entry into DETACHED is the last of its exchange, although it fails after the departure (R134). -/
theorem test_no_second_attempt_after_a_stay :
    ran (.detachLineActive 50) (detaching false true .hold (asking .step false two))
      (fun t => decide (t.trunk.exchange = some ⟨.step, 0, 1, false, true⟩)) = true ∧
    ran .responseWindowExpiry (two.setTrunk { two.trunk with exchange := some ⟨.step, 0, 1, false, true⟩ })
      (fun t => decide (t.trunk.exchange = none ∧ (t.posRec 0).misses = 0)) = true := by decide +kernel

theorem test_response_window_expiry :
    ran .responseWindowExpiry (asking .step false two) (fun t => decide (t.trunk.exchange = some ⟨.step, 0, 1, true, false⟩ ∧
      t.trunk.noAnswers = 1 ∧ (t.posRec 0).misses = 0)) = true ∧
    ran .responseWindowExpiry (asking .step true two)
      (fun t => decide (t.trunk.exchange = none ∧ (t.posRec 0).misses = 1 ∧ (t.posRec 0).health = .online)) = true := by decide +kernel

theorem test_trunk_bad_frame :
    ran (.trunkBadFrame .badCheck) State.reset (fun t => decide (t.trunk.badFrames = 1)) = true ∧
    ran (.trunkBadFrame (.wellChecked 1 6 [4])) (ordered 0 ⟨.release, 2, false, true⟩ (asking .release false two))
      (fun t => decide (t.trunk.exchange = none ∧ t.trunk.badFrames = 1 ∧ (t.posRec 0).misses = 1 ∧
        t.trunk.orders.get 0 = some ⟨.release, 3, true, false⟩ ∧
        t.faults.first = some ⟨.preemptUndelivered 0 none, 0, 0⟩)) = true := by decide +kernel

/-- Position 1 with four misses. -/
def failing (policy : Policy) (s : State) : State :=
  let u := asking .step true (s.setPosRec 0 { PosRec.restarted (.enrolled 1) with misses := 4, health := .suspect })
  { u with ctl := { u.ctl with policy } }

/-- The fifth miss of a STEP and of an order, and a LOST position lost again. -/
theorem witness_LossIsHandedOn :
    let s := failing .tolerant coordinating
    let o := ordered 0 ⟨.release, 2, false, true⟩ (asking .release false s)
    let again := asking .step true (coordinating.setPosRec 0 { PosRec.restarted (.enrolled 1) with misses := 5, health := .lost })
    s.powered = true ∧ s.trunk.exchange = some ⟨.step, 0, 1, true, false⟩ ∧ (s.posRec 0).enrolment = .enrolled 1 ∧
    (s.posRec 0).misses = 4 ∧ (s.posRec 0).health ≠ .lost ∧ CauseLaw s ∧
    o.trunk.exchange = some ⟨.release, 0, 1, false, false⟩ ∧ (o.trunk.orders.get 0).isSome = true ∧ (o.posRec 0).misses = 4 ∧
    CauseLaw o ∧ again.trunk.exchange = some ⟨.step, 0, 1, true, false⟩ ∧ (again.posRec 0).misses = 5 ∧
    (again.posRec 0).health = .lost ∧ CauseLaw again := by
  refine ⟨rfl, rfl, rfl, rfl, by decide, ?_, rfl, rfl, rfl, ?_, rfl, rfl, rfl, ?_⟩ <;>
    exact cause_law (by decide +kernel) (by unfold distinct; decide +kernel) (by unfold distinct; decide +kernel) rfl

theorem test_loss :
    ran .responseWindowExpiry (failing .tolerant coordinating) (fun t => decide (
      (t.posRec 0).enrolment = .excluded 1 .lost ∧ t.ctl.master = .fallback)) = true ∧
    ran .responseWindowExpiry (failing .tolerant (mastered .coordinating three)) (fun t => decide (
      (t.posRec 0).enrolment = .excluded 1 .lost ∧ t.ctl.master = .coordinating)) = true ∧
    ran .responseWindowExpiry (failing .strict (mastered .coordinating three)) (fun t => decide (
      (t.posRec 0).enrolment = .enrolled 1 ∧ t.ctl.master = .fallback)) = true := by decide +kernel

/-! ### The laws: states that meet them and take a step -/

/-- Vector 0, RAIL, owns position 1 with the cause of vector 2, EMERGENCY, pending there. -/
def contested : State :=
  caused 0 50 (caused 2 50 ((vectored 0 .rail (vectored 2 .emergency two)).setPosRec 0
    { PosRec.restarted (.enrolled 1) with mode := .preempted, seek := .suspended .idle, owner := some 0, claims := [2] }))

/-- Both holds end at one boundary: the position is handed from vector 0 to vector 2 and then released, HOLD_EXPIRED of each. -/
theorem test_two_holds_end :
    ran (.decisecond anyOrder) (caused 0 1 (caused 2 1 contested)) (fun t => decide ((t.posRec 0).owner = none ∧
      t.trunk.orders.get 0 = some ⟨.release, 0, false, false⟩ ∧ t.faults.first = some ⟨.holdExpired 0, 0, 0⟩ ∧
      t.faults.next = [.holdExpired])) = true := by decide +kernel

theorem witness_StepKeepsOwnerLaw_StepKeepsCauseLaw : (∃ t, step contested = .next t) ∧ OwnerLaw contested ∧
    CauseLaw contested ∧ (contested.posRec 0).owner = some 0 ∧ (contested.posRec 0).claims = [2] := by
  refine ⟨⟨_, rfl⟩, by unfold OwnerLaw; decide +kernel, ⟨?_, by decide +kernel, fun p => ?_, ?_, ?_, nofun⟩, rfl, rfl⟩
  · unfold Pre.RanksAbove; decide +kernel
  · have : ∀ p, (contested.posRec p).claims.length ≤ 1 := by decide +kernel
    match h : (contested.posRec p).claims, this p with
    | [], _ => exact .nil
    | [x], _ => exact List.pairwise_singleton _ x
  · unfold distinct; decide +kernel
  · unfold distinct; decide +kernel

theorem witness_StepKeepsRecordLaws_StepKeepsTimebaseLaw :
    (∃ t, step coordinating = .next t) ∧ FaultLaw coordinating ∧ TimebaseLaw coordinating :=
  ⟨⟨_, rfl⟩, fun _ => rfl, ⟨nofun, nofun⟩, by decide, rfl⟩

/-- `computing` with its configuration stored, and no command waiting. -/
def stored : State := { computing with store := computing.configuration }

theorem witness_StepKeepsCoordinationLaws :
    (∃ t, step stored = .next t ∧ ∀ x, stored.band.inFlight = some x → (stored.plans.slot x.snap.slot).gen ≠ x.snap.gen →
      (t.plans.slot x.snap.slot).gen ≠ x.snap.gen) ∧ MembersLaw stored ∧ InStepLaw stored ∧
    SeekLaw stored ∧ ClockBase stored ∧ ClockLaw stored ∧ SnapshotLaw stored ∧ OffsetLaw stored ∧
    ∃ x, stored.band.inFlight = some x := by
  have hp : ∀ i, ∀ q ∈ (stored.store.slots.get i).plan, 300 ≤ q.h.c ∧ q.h.c ≤ 2400 := by decide +kernel
  have hl : ∀ i, (stored.plans.slot i).body.run = none ∨ (stored.plans.slot i).body.isReady = true := by decide +kernel
  have hs : ∀ i, (stored.plans.slot i).body.isReady = true → (stored.plans.header i).c = 900 := by decide +kernel
  refine ⟨⟨_, rfl, fun _ _ h => h⟩, fun _ => ?_, ?_, fun _ => ?_, ⟨fun _ => rfl, ⟨hp, by decide +kernel⟩, nofun, fun _ => ⟨fun i h q es e => ?_, nofun⟩⟩,
    fun _ => by decide +kernel, ?_, fun _ p n h => ?_, _, rfl⟩
  · show 2 ≤ two.enrolledCount
    decide +kernel
  · unfold InStepLaw; decide +kernel
  · decide +kernel
  · rcases hl i with a | a <;> rw [e] at a <;> cases a
  · intro x e
    cases e
    refine ⟨by decide +kernel, fun h es e _ => ?_⟩
    have := hs coordinating.newComputation.snap.slot (by rw [e]; rfl)
    unfold PlanStore.header at this
    rw [e] at this
    exact this
  · have : ∀ p, (stored.posRec p).target = none ∧ (stored.posRec p).running = none := by decide +kernel
    rcases h with h | h
    · exact absurd ((this p).1.symm.trans h) (nofun)
    · exact absurd ((this p).2.symm.trans h) (nofun)

theorem witness_StepKeepsMirrorLaw_StepKeepsClockLaw_StepKeepsDropLaw : (∃ t, step State.reset = .next t) ∧
    State.reset.store.plansOk ∧ dropsOk State.reset.store.chain ∧ ClockLaw State.reset ∧ MirrorLaw State.reset ∧
    State.reset.store.PlansKept := by
  have hp : ∀ i, ∀ q ∈ (Store.factory.slots.get i).plan, 300 ≤ q.h.c ∧ q.h.c ≤ 2400 := by decide +kernel
  have hd : ∀ p, (Store.factory.chain.get p).drop = none := by decide +kernel
  have h0 : ∀ i x, (Store.factory.slots.get i).plan = some x → i = 0 ∧ x = factoryPlan := by
    have : ∀ i, ∀ x ∈ (Store.factory.slots.get i).plan, i = 0 ∧ x = factoryPlan := by decide +kernel
    exact this
  have hc : ∀ p : Pos, (Store.factory.chain.get p).isEnrolled = false := by decide +kernel
  refine ⟨⟨_, rfl⟩, ⟨fun i q h => hp i q h, by decide +kernel⟩, ⟨fun p d h => ?_, fun p q d h _ => ?_⟩, fun _ => ?_, fun _ => ?_,
    by decide +kernel, fun i x h => (h0 i x h).2 ▸ by decide, fun i j x y n h h' => absurd ((h0 i x h).1.trans (h0 j y h').1.symm) n,
    fun p x h _ => ?_⟩
  · have := h.symm.trans (hd p); cases this
  · have := h.symm.trans (hd p); cases this
  · decide +kernel
  · decide +kernel
  · have := h.symm.trans (hc p); cases this

end Sys2Proof.Tests
end

section
/-! The checks of ENROL and EXCLUDE (chapter 1): how a ruling becomes a reply, what a port leaves alone of the tables the Chain Table
reads, and the rulings on ENROL (R6) and EXCLUDE (R8), one equation per case. -/

namespace Sys2Proof.Machine

/-! ### A ruling becomes a reply -/

section Reply

variable (s : State) (p : PortId) (f : Frame) (cls : SenderClass)

/-- The reply of a request of kind below 128 is the one the statements name (R181). -/
theorem State.putReply_eq_replying (c : ReplyCode) (result : List Byte) (hk : f.kind.toNat < 128) :
    s.putReply p f cls ⟨c, result⟩ = s.replying p (s.port p) f cls c result := by
  simp only [State.putReply, Frame.replyWith, replyKind_of_lt hk, State.replying]

@[simp] theorem State.replying_setPort (q r : Port) (c : ReplyCode) (result : List Byte) :
    (s.setPort p r).replying p q f cls c result = s.replying p q f cls c result := by
  simp [State.replying]

@[simp] theorem State.replying_reply (q : Port) (c : ReplyCode) (result : List Byte) :
    ((s.replying p q f cls c result).port p).inProgress.map (·.reply) = some ⟨f.kind + 128, f.tag, c, result⟩ := by
  simp [State.replying]

/-- An OK without result bytes that leaves the state as it is has the form of a refusal. -/
theorem State.grant_nil : s.grant [] = s.refuse .ok := rfl

end Reply

section Request

variable {α : Type} {fieldMay : Bool} {parse : List Byte → Option α} {own : α → State → Ruling} {body : List Byte} {a : α}
variable {s : State} {p : PortId} {q : Port} {kind tag : Byte}

/-- A SUPERVISORY request that its block refuses changes nothing but its port. -/
theorem request_refused {c : ReplyCode} (ht : s.CanTake p ⟨kind, tag, body⟩ q) (hs : s.senderClass p = .supervisory)
    (hb : parse body = some a) (hk : kind.toNat < 128) (ho : own a (s.setPort p q) = (s.setPort p q).refuse c) :
    powered (State.request p kind fieldMay parse own tag body) s =
      .next (s.replying p q ⟨kind, tag, body⟩ .supervisory c []) := by
  obtain ⟨hp, htake⟩ := ht
  rw [request_run hp htake hb (.inl hs), ho, hs, State.refuse, State.putReply_eq_replying _ _ _ _ _ _ hk]
  simp

/-- A SUPERVISORY request that its block grants, leaving the state `u`. -/
theorem request_granted {u : State} {result : List Byte} (ht : s.CanTake p ⟨kind, tag, body⟩ q)
    (hs : s.senderClass p = .supervisory) (hb : parse body = some a) (hk : kind.toNat < 128)
    (ho : own a (s.setPort p q) = u.grant result) :
    powered (State.request p kind fieldMay parse own tag body) s =
      .next (u.replying p (u.port p) ⟨kind, tag, body⟩ .supervisory .ok result) := by
  obtain ⟨hp, htake⟩ := ht
  rw [request_run hp htake hb (.inl hs), ho, hs, State.grant, State.putReply_eq_replying _ _ _ _ _ _ hk]

end Request

/-! ### The Chain Table's reads do not depend on the ports -/

section Reads

variable (s : State) (port : PortId) (q : Port)

@[simp] theorem State.posRec_setPort (p : Pos) : (s.setPort port q).posRec p = s.posRec p := by
  simp [State.posRec]

@[simp] theorem State.isEnrolled_setPort (p : Pos) : (s.setPort port q).isEnrolled p = s.isEnrolled p := by
  simp [State.isEnrolled]

@[simp] theorem State.enrolledCount_setPort : (s.setPort port q).enrolledCount = s.enrolledCount := by
  have h : (s.setPort port q).isEnrolled = s.isEnrolled := funext (s.isEnrolled_setPort port q)
  simp only [State.enrolledCount, State.enrolledList, h]

@[simp] theorem State.dropTaken_setPort (p : Pos) (d : Nat) : (s.setPort port q).dropTaken p d = s.dropTaken p d := by
  simp [State.dropTaken]

@[simp] theorem State.mayEnrol_setPort (p : Pos) : (s.setPort port q).mayEnrol p = s.mayEnrol p := by
  simp [State.mayEnrol, State.plansCover, State.enrolledWith, State.spanComplete, State.linkRec]

end Reads

/-! ### What the checks say -/

theorem mem_allPos (p : Pos) : p ∈ allPos := List.mem_finRange p

/-- Check 3 of R6. -/
theorem State.dropTaken_iff {s : State} {p : Pos} {d : Nat} :
    s.dropTaken p d = true ↔ ∃ o, o ≠ p ∧ (s.posRec o).enrolment.drop = some d := by
  simp [State.dropTaken, mem_allPos]

/-- Check 5 of R6: every plan that is active or pending covers the position. -/
theorem State.plansCover_iff {s : State} {p : Pos} :
    s.plansCover p = true ↔ (s.plans.entryOf s.plans.active p).isSome = true ∧
      ∀ i, s.plans.pendingSlot = some i → (s.plans.entryOf i p).isSome = true := by
  cases h : s.plans.pendingSlot <;> simp [State.plansCover, PlanStore.covers, h]

/-- Checks 5 and 6 of R6. -/
theorem State.mayEnrol_iff {s : State} {p : Pos} :
    s.mayEnrol p = true ↔ s.plansCover p = true ∧
      (s.ctl.master.runs = true → s.spanComplete (allPos.filter fun o => s.isEnrolled o || o == p) = true) := by
  cases h : s.ctl.master.runs <;> simp [State.mayEnrol, State.enrolledWith, h, beq_eq_decide]

/-! ### The ruling on ENROL (R6, R7) -/

/-- The address at which an accepted ENROL naming `d` enrols: the one given, or with none given (0) the one held (R7). -/
def Enrolment.addressFor (e : Enrolment) (d : Nat) : Nat := if d = 0 then e.drop.getD 0 else d

section Enrol

variable {s : State} {port : PortId} {n d : Nat} {p : Pos}

theorem ruleEnrol_out_of_range (h : ¬(1 ≤ n ∧ n ≤ 24) ∨ 31 < d) : s.ruleEnrol port (n, d) = s.refuse .badValue := by
  by_cases hn : 1 ≤ n ∧ n ≤ 24
  · have hd : 31 < d := h.resolve_left (not_not_intro hn)
    simp [State.ruleEnrol, posOf, hn, hd]
  · simp [State.ruleEnrol, posOf_unnamed hn]

theorem ruleEnrol_taken (hn : n = p.val + 1) (ht : d ≠ 0 ∧ s.dropTaken p d = true) :
    s.ruleEnrol port (n, d) = s.refuse .badValue := by
  simp [State.ruleEnrol, posOf_named hn, ht]

theorem ruleEnrol_vacant_without_address (hn : n = p.val + 1) (he : (s.posRec p).enrolment = .vacant) (h0 : d = 0) :
    s.ruleEnrol port (n, d) = s.refuse .badValue := by
  simp [State.ruleEnrol, posOf_named hn, he, h0]

/-! From here on the address is in range, and omitted or free. -/

variable (hn : n = p.val + 1) (hd : d ≤ 31) (hf : ¬(d ≠ 0 ∧ s.dropTaken p d = true))
include hn hd hf

theorem ruleEnrol_enrolled {held : Nat} (he : (s.posRec p).enrolment = .enrolled held) :
    s.ruleEnrol port (n, d) = s.refuse (if d ≠ 0 ∧ d ≠ held then .state else .ok) := by
  simp only [State.ruleEnrol, posOf_named hn, Nat.not_lt.mpr hd, hf, he, if_false, State.grant_nil]
  split <;> rfl

variable (he : (s.posRec p).enrolment.isEnrolled = false) (h0 : ¬((s.posRec p).enrolment = .vacant ∧ d = 0))
include he h0

/-- Checks 5 and 6 of R6 decide for a position that is not ENROLLED. -/
theorem ruleEnrol_not_enrolled : s.ruleEnrol port (n, d) =
    if s.mayEnrol p = true then (s.enrolAt port p ((s.posRec p).enrolment.addressFor d)).grant []
    else s.refuse .mismatch := by
  simp only [State.ruleEnrol, posOf_named hn, Nat.not_lt.mpr hd, hf, if_false]
  cases hc : (s.posRec p).enrolment with
  | vacant =>
    have hd0 : d ≠ 0 := fun h => h0 ⟨hc, h⟩
    simp [Enrolment.addressFor, hd0]
  | excluded held cause => simp [Enrolment.addressFor, Enrolment.drop]
  | enrolled held => simp [hc, Enrolment.isEnrolled] at he

end Enrol

/-! ### The ruling on EXCLUDE (R8, R9) -/

section Exclude

variable {s : State} {port : PortId} {n v : Nat} {p : Pos}

theorem ruleExclude_out_of_range (h : ¬(1 ≤ n ∧ n ≤ 24) ∨ 1 < v) : s.ruleExclude port (n, v) = s.refuse .badValue := by
  by_cases hn : 1 ≤ n ∧ n ≤ 24
  · have hv : 1 < v := h.resolve_left (not_not_intro hn)
    simp [State.ruleExclude, posOf, hn, hv]
  · simp [State.ruleExclude, posOf_unnamed hn]

variable (hn : n = p.val + 1) (hv : v ≤ 1)
include hn hv

theorem ruleExclude_vacant (he : (s.posRec p).enrolment = .vacant) :
    s.ruleExclude port (n, v) = s.refuse (if v = 0 then .state else .ok) := by
  simp only [State.ruleExclude, posOf_named hn, Nat.not_lt.mpr hv, he, if_false, State.grant_nil]
  split <;> rfl

theorem ruleExclude_excluded {drop : Nat} {cause : ExclCause} (he : (s.posRec p).enrolment = .excluded drop cause) :
    s.ruleExclude port (n, v) =
      (if v = 0 then s.takeOver port p drop cause else s.vacateExcluded port p).grant [] := by
  simp only [State.ruleExclude, posOf_named hn, Nat.not_lt.mpr hv, he, if_false]
  split <;> rfl

/-- Checks 3 and 4 of R8 decide for an ENROLLED position. -/
theorem ruleExclude_enrolled {drop : Nat} (he : (s.posRec p).enrolment = .enrolled drop) :
    s.ruleExclude port (n, v) =
      if (s.posRec p).owner.isSome = true ∨ s.ctl.master.runs = true ∧ s.enrolledCount < 3 then s.refuse .state
      else (s.takeOut port p drop (v == 1)).grant [] := by
  simp only [State.ruleExclude, posOf_named hn, Nat.not_lt.mpr hv, he, if_false]
  by_cases ho : (s.posRec p).owner.isSome = true <;> simp [ho]

/-- An EXCLUDE that passes the checks is granted. -/
theorem ruleExclude_granted (h0 : ¬((s.posRec p).enrolment = .vacant ∧ v = 0))
    (hp : ¬((s.posRec p).enrolment.isEnrolled = true ∧
      ((s.posRec p).owner.isSome = true ∨ s.ctl.master.runs = true ∧ s.enrolledCount < 3))) :
    ∃ u : State, s.ruleExclude port (n, v) = u.grant [] := by
  cases he : (s.posRec p).enrolment with
  | vacant =>
    have hv0 : v ≠ 0 := fun h => h0 ⟨he, h⟩
    exact ⟨s, by rw [ruleExclude_vacant hn hv he, if_neg hv0, State.grant_nil]⟩
  | excluded drop cause => exact ⟨_, ruleExclude_excluded hn hv he⟩
  | enrolled drop =>
    have hfree := fun h => hp ⟨by rw [he]; rfl, h⟩
    exact ⟨_, by rw [ruleExclude_enrolled hn hv he, if_neg hfree]⟩

end Exclude

/-! ### The requests -/

section Requests

variable {s : State} {port : PortId} {tag a b : Byte} {q : Port}

theorem exec_enrol_refused {c : ReplyCode} (ht : s.CanTake port ⟨2, tag, [a, b]⟩ q)
    (hs : s.senderClass port = .supervisory)
    (hr : (s.setPort port q).ruleEnrol port (a.toNat, b.toNat) = (s.setPort port q).refuse c) :
    exec (.enrol port tag [a, b]) s = .next (s.replying port q ⟨2, tag, [a, b]⟩ .supervisory c []) :=
  request_refused (own := State.ruleEnrol port) ht hs rfl (by decide) hr

theorem exec_enrol_granted {u : State} (ht : s.CanTake port ⟨2, tag, [a, b]⟩ q) (hs : s.senderClass port = .supervisory)
    (hr : (s.setPort port q).ruleEnrol port (a.toNat, b.toNat) = u.grant []) :
    exec (.enrol port tag [a, b]) s =
      .next (u.replying port (u.port port) ⟨2, tag, [a, b]⟩ .supervisory .ok []) :=
  request_granted (own := State.ruleEnrol port) ht hs rfl (by decide) hr

theorem exec_exclude_refused {c : ReplyCode} (ht : s.CanTake port ⟨3, tag, [a, b]⟩ q)
    (hs : s.senderClass port = .supervisory)
    (hr : (s.setPort port q).ruleExclude port (a.toNat, b.toNat) = (s.setPort port q).refuse c) :
    exec (.exclude port tag [a, b]) s = .next (s.replying port q ⟨3, tag, [a, b]⟩ .supervisory c []) :=
  request_refused (own := State.ruleExclude port) ht hs rfl (by decide) hr

theorem exec_exclude_granted {u : State} (ht : s.CanTake port ⟨3, tag, [a, b]⟩ q) (hs : s.senderClass port = .supervisory)
    (hr : (s.setPort port q).ruleExclude port (a.toNat, b.toNat) = u.grant []) :
    exec (.exclude port tag [a, b]) s =
      .next (u.replying port (u.port port) ⟨3, tag, [a, b]⟩ .supervisory .ok []) :=
  request_granted (own := State.ruleExclude port) ht hs rfl (by decide) hr

end Requests

/-- Settles O6: the rulings on ENROL, case by case, at the state whose port has taken the frame. -/
theorem enrolChecks : Obligations.EnrolChecks := by
  unfold Obligations.EnrolChecks
  intro s port tag a d q ht hs refuse
  refine ⟨fun h => exec_enrol_refused ht hs (ruleEnrol_out_of_range h), fun p hn hd => ?_⟩
  intro e taken covered wouldSpan
  have taken_iff : taken ↔ d.toNat ≠ 0 ∧ (s.setPort port q).dropTaken p d.toNat = true := by
    rw [State.dropTaken_setPort, State.dropTaken_iff]
  have may_iff : (s.setPort port q).mayEnrol p = true ↔ covered ∧ (s.ctl.master.runs = true → wouldSpan) := by
    rw [State.mayEnrol_setPort, State.mayEnrol_iff, State.plansCover_iff]
  have enrolment_eq : ((s.setPort port q).posRec p).enrolment = e := by rw [State.posRec_setPort]
  refine ⟨fun h => exec_enrol_refused ht hs ?_, fun h0 hf => ?_⟩
  · by_cases hf : taken
    · exact ruleEnrol_taken hn (taken_iff.mp hf)
    · obtain ⟨he, hd0⟩ := h.resolve_right hf
      exact ruleEnrol_vacant_without_address hn (enrolment_eq.trans he) hd0
  · replace hf := taken_iff.not.mp hf
    have decides := fun he => ruleEnrol_not_enrolled (port := port) hn hd hf (enrolment_eq ▸ he) (enrolment_eq ▸ h0)
    refine ⟨fun held he => exec_enrol_refused ht hs (ruleEnrol_enrolled hn hd hf (enrolment_eq.trans he)),
      fun he hm => exec_enrol_refused ht hs ?_, fun he hc hw => ?_⟩
    · rw [decides he, if_neg]
      exact fun hmay => have ⟨hc, hw⟩ := may_iff.mp hmay
        hm.elim (fun hnc => hnc hc) (fun ⟨hr, hns⟩ => hns (hw hr))
    · exact ⟨_, exec_enrol_granted ht hs ((decides he).trans (if_pos (may_iff.mpr ⟨hc, hw⟩))), State.replying_reply ..⟩

/-- Settles O8: the rulings on EXCLUDE, case by case, at the state whose port has taken the frame. -/
theorem excludeChecks : Obligations.ExcludeChecks := by
  unfold Obligations.ExcludeChecks
  intro s port tag a v q ht hs refuse
  refine ⟨fun h => exec_exclude_refused ht hs (ruleExclude_out_of_range h), fun p hn hv => ?_⟩
  intro r
  have record_eq : (s.setPort port q).posRec p = r := State.posRec_setPort ..
  refine ⟨fun he hv0 => exec_exclude_refused ht hs ?_, fun he hp => exec_exclude_refused ht hs ?_, fun h0 hp => ?_⟩
  · rw [ruleExclude_vacant hn hv (record_eq ▸ he), if_pos hv0]
  · cases hc : r.enrolment with
    | enrolled drop =>
      rw [ruleExclude_enrolled hn hv (record_eq ▸ hc), if_pos]
      simpa [record_eq] using hp
    | vacant => simp [hc, Enrolment.isEnrolled] at he
    | excluded drop cause => simp [hc, Enrolment.isEnrolled] at he
  · obtain ⟨u, hu⟩ := ruleExclude_granted (s := s.setPort port q) (port := port) hn hv
      (by rwa [record_eq]) (by simpa [record_eq] using hp)
    exact ⟨_, exec_exclude_granted ht hs hu, State.replying_reply ..⟩

end Sys2Proof.Machine
end

section
/-! The link measures, the volumes and the tide at a rollover (chapter 4): what the Preemption Unit and a computation trigger leave
alone of the Band Computer and the Fault and Alert Unit, the state in which the Measurement Unit finds the part, what it makes of its
own records, and how a turn of the tide (R65) is followed by a computation. -/

namespace Sys2Proof.Machine

/-! ### What keeps the Band Computer and the master state, and takes back no alert -/

/-- From `s` to `t` the Band Computer and the State Controller are untouched, and no pending alert class is taken back. -/
structure State.KeepsBand (s t : State) : Prop where
  band : t.band = s.band
  ctl : t.ctl = s.ctl
  pending : ∀ c : AlertClass, s.faults.pending.get c.ix = true → t.faults.pending.get c.ix = true

theorem FaultUnit.alert_pending {f : FaultUnit} {c : AlertClass} (i : Fin 9) (h : f.pending.get i = true) :
    (f.alert c).pending.get i = true := by
  simp [FaultUnit.alert, h]

theorem FaultUnit.alert_pending_self (f : FaultUnit) (c : AlertClass) : (f.alert c).pending.get c.ix = true := by
  simp [FaultUnit.alert]

theorem FaultUnit.take_pending {f : FaultUnit} {x : FaultInfo} {n : Half} {p : Nat} (i : Fin 9)
    (h : f.pending.get i = true) : (f.take x n p).pending.get i = true := by
  unfold FaultUnit.take
  split <;> exact FaultUnit.alert_pending i h

namespace State.KeepsBand

variable {s t u : State}

theorem refl (s : State) : s.KeepsBand s := ⟨rfl, rfl, fun _ h => h⟩

theorem trans (h : s.KeepsBand t) (k : t.KeepsBand u) : s.KeepsBand u :=
  ⟨k.band.trans h.band, k.ctl.trans h.ctl, fun c hc => k.pending c (h.pending c hc)⟩

/-- A change of other records of the state. -/
theorem of_eq (hb : t.band = s.band) (hc : t.ctl = s.ctl) (hf : t.faults = s.faults) : s.KeepsBand t :=
  ⟨hb, hc, fun _ h => by rwa [hf]⟩

theorem foldl {α : Type} {f : State → α → State} (h : ∀ (s : State) (a : α), s.KeepsBand (f s a)) (l : List α) (s : State) :
    s.KeepsBand (l.foldl f s) := by
  induction l generalizing s with
  | nil => exact refl s
  | cons a l ih => exact (h s a).trans (ih _)

theorem alert (c : AlertClass) (s : State) : s.KeepsBand (s.alert c) :=
  ⟨rfl, rfl, fun d h => FaultUnit.alert_pending d.ix h⟩

theorem fault (i : FaultInfo) (s : State) : s.KeepsBand (s.fault i) :=
  ⟨rfl, rfl, fun d h => FaultUnit.take_pending d.ix h⟩

theorem putSeek (p : Pos) (r : PosRec) (s : State) : s.KeepsBand (s.putSeek p r) := by
  unfold State.putSeek
  have written : s.KeepsBand (s.setPosRec p (r.recorrect s.plan)) := of_eq rfl rfl rfl
  dsimp only
  split
  · exact written.trans (alert .seek _)
  · exact written

theorem setTrunk (x : Trunk) (s : State) : s.KeepsBand (s.setTrunk x) := of_eq rfl rfl rfl

theorem setClock (x : Clock) (s : State) : s.KeepsBand (s.setClock x) := of_eq rfl rfl rfl

theorem setPre (x : Pre) (s : State) : s.KeepsBand (s.setPre x) := of_eq rfl rfl rfl

theorem mapPosRec (f : PosRec → PosRec) (s : State) : s.KeepsBand (s.mapPosRec f) :=
  of_eq (s.mapPosRec_band f) (s.mapPosRec_ctl f) (s.mapPosRec_faults f)

theorem placeOrder (p : Pos) (o : Order) (s : State) : s.KeepsBand (s.placeOrder p o) := setTrunk _ s

theorem giveUp (v : VecIx) (p : Pos) (s : State) : s.KeepsBand (s.giveUp v p) := by
  unfold State.giveUp
  dsimp only
  split
  · split
    · exact (placeOrder p .release s).trans (putSeek p _ _)
    · exact (putSeek p _ s).trans (placeOrder p _ _)
  · exact refl s

theorem endCause (v : VecIx) (reason : EndReason) (s : State) : s.KeepsBand (s.endCause v reason) := by
  have given : s.KeepsBand (allPos.foldl (fun s p => s.giveUp v p) s) := foldl (fun s p => giveUp v p s) _ _
  exact ((given.trans (mapPosRec _ _)).trans (setPre _ _)).trans (alert .preempt _)

theorem expire (v : VecIx) (s : State) : s.KeepsBand (s.expire v) :=
  ((fault (.holdExpired v) s).trans (setPre _ _)).trans (endCause v .expiry _)

theorem holdCountdown (s : State) : s.KeepsBand s.holdCountdown := by
  unfold State.holdCountdown
  refine (setPre _ s).trans (foldl (fun t v => ?_) allVectors _)
  split
  · split
    · exact expire v t
    · exact refl t
  · exact refl t

theorem holdAt (m : HoldMoment) (o : BoundaryOrder) (s : State) : s.KeepsBand (s.holdAt m o) := by
  unfold State.holdAt
  split
  · exact holdCountdown s
  · exact refl s

theorem trunkRollover (s : State) : s.KeepsBand s.trunkRollover := (setTrunk _ s).trans (setTrunk _ _)

theorem seekBoundary (activated : Bool) (s : State) : s.KeepsBand (s.seekBoundary activated) := by
  unfold State.seekBoundary State.seekActivation State.seekRollover
  split
  · exact (mapPosRec _ s).trans (mapPosRec _ _)
  · exact mapPosRec _ s

theorem activationAlert (activated : Bool) (s : State) : s.KeepsBand (s.activationAlert activated) := by
  cases activated with
  | false => exact refl s
  | true => exact alert .plan s

theorem fanOut (activated : Bool) (s : State) : s.KeepsBand (s.fanOut activated) :=
  ((trunkRollover s).trans (seekBoundary activated _)).trans (activationAlert activated _)

end State.KeepsBand

/-! ### The computation trigger (R73, R77) -/

/-- A trigger would start a computation (R73). -/
def State.MayStart (s : State) : Prop := s.ctl.master = .coordinating ∧ s.band.inFlight = none

section Trigger

variable {s : State}

/-- The start of a computation changes the Band Computer's record, and offers faults. -/
theorem State.startComputation_keepsBand (s : State) : State.KeepsBand
    (s.setBand { s.band with inFlight := some s.newComputation, recompute := false, number := s.newComputation.number })
    s.startComputation :=
  State.KeepsBand.foldl (fun s i => State.KeepsBand.fault i s) s.newComputation.startFaults _

theorem State.trigger_of_mayStart (h : s.MayStart) : s.trigger = s.startComputation := if_pos h

theorem State.trigger_of_busy (h : ¬s.MayStart) : s.trigger = s.setBand { s.band with recompute := true } := if_neg h

theorem State.trigger_inFlight (h : s.MayStart) : s.trigger.band.inFlight = some s.newComputation := by
  rw [State.trigger_of_mayStart h, s.startComputation_keepsBand.band]
  rfl

theorem State.trigger_recompute (h : ¬s.MayStart) : s.trigger.band.recompute = true := by
  rw [State.trigger_of_busy h]
  rfl

theorem State.trigger_pending (i : AlertClass) (h : s.faults.pending.get i.ix = true) :
    s.trigger.faults.pending.get i.ix = true := by
  by_cases hs : s.MayStart
  · rw [State.trigger_of_mayStart hs]
    exact s.startComputation_keepsBand.pending i h
  · rwa [State.trigger_of_busy hs]

/-- After a trigger another one waits for the computation in flight, or for the master state. -/
theorem State.trigger_busy (s : State) : ¬s.trigger.MayStart := by
  by_cases h : s.MayStart
  · intro hs
    have := (State.trigger_inFlight h).symm.trans hs.2
    cases this
  · rwa [State.trigger_of_busy h]

/-- Without an activation the Band Computer is triggered by an ADAPTIVE plan alone (R72). -/
theorem State.bandBoundary_unactivated (s : State) :
    s.bandBoundary false = if s.plan.adaptive then s.trigger else s := rfl

end Trigger

/-! ### What the frame keeps says of the Measurement Unit's inputs -/

section Kept

variable {s t : State} (h : t.kept = s.kept)
include h

theorem State.links_of_kept : t.links = s.links := congrArg Kept.links h

theorem State.meas_of_kept : t.meas = s.meas := congrArg Kept.meas h

theorem State.plan_of_kept : t.plan = s.plan := congrArg (fun k => k.plans.header k.plans.active) h

theorem State.enrolledCount_of_kept : t.enrolledCount = s.enrolledCount := by
  have enrolled : t.isEnrolled = s.isEnrolled := funext fun p => by
    simpa [State.kept, State.isEnrolled] using congrArg (fun k => (k.chain.get p).isEnrolled) h
  simp only [State.enrolledCount, State.enrolledList, enrolled]

end Kept

/-! ### The state in which the Measurement Unit takes a rollover -/

/-- The boundary up to the Measurement Unit and the Band Computer: the clock, the blocks that take the rollover before those two, and
the end of the decisecond where the order puts it there. -/
def State.beforeMeasure (o : BoundaryOrder) (s : State) : State :=
  (((s.holdAt .beforeClock o).turnCycle.holdAt .beforeSeeks o).fanOut s.plans.pendingSlot.isSome).holdAt .beforeBand o

section BeforeMeasure

variable {s : State} {o : BoundaryOrder}

theorem State.boundary_eq_beforeMeasure (h : s.clock.cyclePos + 1 = s.clock.c) :
    s.boundary o = ((s.beforeMeasure o).measureAndTrigger s.plans.pendingSlot.isSome o.band).holdAt .afterAll o := by
  have clock_eq : (s.holdAt .beforeClock o).clock = s.clock := congrArg Kept.clock (State.kept_holdAt ..)
  have plans_eq : (s.holdAt .beforeClock o).plans = s.plans := congrArg Kept.plans (State.kept_holdAt ..)
  rw [State.boundary, State.tick, clock_eq, if_pos h, State.rollover, plans_eq, State.beforeMeasure]

theorem exec_rollover (hp : s.powered = true) (h : s.clock.cyclePos + 1 = s.clock.c) :
    exec (.rollover o) s = .next (s.boundary o) := by
  show powered _ s = _
  rw [powered, if_pos hp, if_pos h]

/-! The activation of the pending plan writes the Plan Store and the store alone, and the clock's part of the rollover the clock. -/

@[simp] theorem State.activatePending_links (s : State) : s.activatePending.links = s.links := by
  unfold State.activatePending; split <;> rfl
@[simp] theorem State.activatePending_meas (s : State) : s.activatePending.meas = s.meas := by
  unfold State.activatePending; split <;> rfl
@[simp] theorem State.activatePending_pos (s : State) : s.activatePending.pos = s.pos := by
  unfold State.activatePending; split <;> rfl

theorem State.activatePending_keepsBand (s : State) : s.KeepsBand s.activatePending := by
  unfold State.activatePending
  split
  · exact .refl s
  · exact .of_eq rfl rfl rfl

theorem State.activatePending_of_none (h : s.plans.pendingSlot = none) : s.activatePending = s := by
  simp [State.activatePending, h]

theorem State.turnCycle_eq (s : State) : ∃ k l, s.turnCycle = (s.setClock k).activatePending.setClock l := ⟨_, _, rfl⟩

@[simp] theorem State.turnCycle_links (s : State) : s.turnCycle.links = s.links := by
  obtain ⟨k, l, h⟩ := s.turnCycle_eq; simp [h]
@[simp] theorem State.turnCycle_meas (s : State) : s.turnCycle.meas = s.meas := by
  obtain ⟨k, l, h⟩ := s.turnCycle_eq; simp [h]
@[simp] theorem State.turnCycle_pos (s : State) : s.turnCycle.pos = s.pos := by
  obtain ⟨k, l, h⟩ := s.turnCycle_eq; simp [h]

theorem State.turnCycle_keepsBand (s : State) : s.KeepsBand s.turnCycle := by
  obtain ⟨k, l, h⟩ := s.turnCycle_eq
  rw [h]
  exact ((State.KeepsBand.setClock k s).trans (s.setClock k).activatePending_keepsBand).trans (.setClock l _)

theorem State.turnCycle_enrolledCount (s : State) : s.turnCycle.enrolledCount = s.enrolledCount := by
  have enrolled : s.turnCycle.isEnrolled = s.isEnrolled := funext fun p => by simp [State.isEnrolled, State.posRec]
  simp only [State.enrolledCount, State.enrolledList, enrolled]

theorem State.turnCycle_plan_of_none (hn : s.plans.pendingSlot = none) : s.turnCycle.plan = s.plan := by
  obtain ⟨k, l, h⟩ := s.turnCycle_eq
  rw [h, State.activatePending_of_none (s := s.setClock k) hn]
  rfl

theorem State.beforeMeasure_kept : (s.beforeMeasure o).kept = (s.holdAt .beforeClock o).turnCycle.kept := by
  simp [State.beforeMeasure]

theorem State.beforeMeasure_links : (s.beforeMeasure o).links = s.links := by
  rw [State.links_of_kept State.beforeMeasure_kept, State.turnCycle_links]
  exact State.links_of_kept (State.kept_holdAt ..)

theorem State.beforeMeasure_meas : (s.beforeMeasure o).meas = s.meas := by
  rw [State.meas_of_kept State.beforeMeasure_kept, State.turnCycle_meas]
  exact State.meas_of_kept (State.kept_holdAt ..)

theorem State.beforeMeasure_enrolledCount : (s.beforeMeasure o).enrolledCount = s.enrolledCount := by
  rw [State.enrolledCount_of_kept State.beforeMeasure_kept, State.turnCycle_enrolledCount]
  exact State.enrolledCount_of_kept (State.kept_holdAt ..)

theorem State.beforeMeasure_plan (h : s.plans.pendingSlot = none) : (s.beforeMeasure o).plan = s.plan := by
  have plans_eq : (s.holdAt .beforeClock o).plans = s.plans := congrArg Kept.plans (State.kept_holdAt ..)
  rw [State.plan_of_kept State.beforeMeasure_kept, State.turnCycle_plan_of_none (plans_eq ▸ h)]
  exact State.plan_of_kept (State.kept_holdAt ..)

theorem State.beforeMeasure_keepsBand : s.KeepsBand (s.beforeMeasure o) :=
  ((((State.KeepsBand.holdAt .beforeClock o s).trans (State.turnCycle_keepsBand _)).trans (.holdAt .beforeSeeks o _)).trans
    (.fanOut _ _)).trans (.holdAt .beforeBand o _)

end BeforeMeasure

/-! ### The Measurement Unit's own part of a rollover (R60 to R66) -/

/-- The ageing and then the clearing of the mark are the change of a measure over a rollover. -/
theorem Measure.unmark_aged (m : Measure) : m.aged.unmark = m.afterRollover := by
  obtain ⟨quality, lastRaw, clamps, sampled⟩ := m
  cases quality with
  | fresh v a =>
    cases sampled with
    | true => rfl
    | false => by_cases h : a + 1 < 3 <;> simp [Measure.aged, Measure.unmark, Measure.afterRollover, h]
  | none => rfl
  | aged => rfl
  | poisoned => rfl

section Volumes

variable {m w : Meas} {n : Nat}

theorem Meas.reports_map_sum (m : Meas) (count : PosMeas → Nat) : (m.reports.map count).sum =
    (((List.finRange 24).filter fun p => (m.pos.get p).reported).map fun p => count (m.pos.get p)).sum := by
  simp [Meas.reports, allPos, List.filter_map, Function.comp_def]

theorem Meas.reports_length (m : Meas) :
    m.reports.length = ((List.finRange 24).filter fun p => (m.pos.get p).reported).length := by
  simp [Meas.reports, allPos, List.filter_map, Function.comp_def]

theorem Meas.updateVolumes_of_enough (h : 1 ≤ n ∧ (n + 1) / 2 ≤ m.reports.length) : m.updateVolumes n =
    { m with
      volIn := smooth m.volIn (m.reports.map (·.countIn)).sum
      volOut := smooth m.volOut (m.reports.map (·.countOut)).sum } := if_pos h

theorem Meas.updateVolumes_of_few (h : ¬(1 ≤ n ∧ (n + 1) / 2 ≤ m.reports.length)) : m.updateVolumes n = m := if_neg h

@[simp] theorem Meas.updateVolumes_pos (n : Nat) (m : Meas) : (m.updateVolumes n).pos = m.pos := by
  unfold Meas.updateVolumes; dsimp only; split <;> rfl
@[simp] theorem Meas.updateVolumes_dir (n : Nat) (m : Meas) : (m.updateVolumes n).dir = m.dir := by
  unfold Meas.updateVolumes; dsimp only; split <;> rfl
@[simp] theorem Meas.updateVolumes_tide (n : Nat) (m : Meas) : (m.updateVolumes n).tide = m.tide := by
  unfold Meas.updateVolumes; dsimp only; split <;> rfl

/-- The volume update does not read the tide. -/
theorem Meas.updateVolumes_congr (hpos : w.pos = m.pos) (hin : w.volIn = m.volIn) (hout : w.volOut = m.volOut) :
    (w.updateVolumes n).volIn = (m.updateVolumes n).volIn ∧ (w.updateVolumes n).volOut = (m.updateVolumes n).volOut := by
  have reports_eq : w.reports = m.reports := by simp only [Meas.reports, hpos]
  unfold Meas.updateVolumes
  rw [reports_eq]
  dsimp only
  split
  · exact ⟨by rw [hin], by rw [hout]⟩
  · exact ⟨hin, hout⟩

end Volumes

/-- The tide count and the direction in force after a tide evaluation (R64, R65). -/
def Meas.countTide (m : Meas) : Meas :=
  if m.turnCondition then
    if m.tide + 1 < 3 then { m with tide := m.tide + 1 } else { m with dir := m.dir.reverse, tide := 0 }
  else { m with tide := 0 }

theorem Meas.countTide_of_fails {m : Meas} (hc : ¬m.turnCondition = true) : m.countTide = { m with tide := 0 } := if_neg hc

theorem Meas.countTide_of_turns {m : Meas} (hc : m.turnCondition = true) (h3 : m.tide + 1 < 3) :
    m.countTide = { m with tide := m.tide + 1 } := (if_pos hc).trans (if_pos h3)

theorem Meas.countTide_of_third {m : Meas} (hc : m.turnCondition = true) (h3 : ¬m.tide + 1 < 3) :
    m.countTide = { m with dir := m.dir.reverse, tide := 0 } := (if_pos hc).trans (if_neg h3)

/-- A tide evaluation writes the direction in force and the tide count alone. -/
theorem Meas.countTide_eq (m : Meas) : ∃ d k, m.countTide = { m with dir := d, tide := k } := by
  unfold Meas.countTide
  split
  · split
    · exact ⟨m.dir, _, rfl⟩
    · exact ⟨_, _, rfl⟩
  · exact ⟨m.dir, _, rfl⟩

/-- The report marks cleared (R60). -/
def Meas.clearMarks (m : Meas) : Meas := { m with pos := Vector.ofFn fun p => (m.pos.get p).unmark }

/-! Rewriting the measures writes the links alone. -/

section MapMeasure

variable (f : Measure → Measure) (s : State)

@[simp] theorem State.mapMeasure_pos : (s.mapMeasure f).pos = s.pos := by simp only [State.mapMeasure]
@[simp] theorem State.mapMeasure_plans : (s.mapMeasure f).plans = s.plans := by simp only [State.mapMeasure]
@[simp] theorem State.mapMeasure_meas : (s.mapMeasure f).meas = s.meas := by simp only [State.mapMeasure]
@[simp] theorem State.mapMeasure_band : (s.mapMeasure f).band = s.band := by simp only [State.mapMeasure]
@[simp] theorem State.mapMeasure_ctl : (s.mapMeasure f).ctl = s.ctl := by simp only [State.mapMeasure]
@[simp] theorem State.mapMeasure_faults : (s.mapMeasure f).faults = s.faults := by simp only [State.mapMeasure]

@[simp] theorem State.mapMeasure_enrolledCount : (s.mapMeasure f).enrolledCount = s.enrolledCount := by
  have enrolled : (s.mapMeasure f).isEnrolled = s.isEnrolled := funext fun p => by simp [State.isEnrolled, State.posRec]
  simp only [State.enrolledCount, State.enrolledList, enrolled]

theorem State.linkRec_mapMeasure (l : LinkIx) :
    (s.mapMeasure f).linkRec l = ⟨(s.linkRec l).length, f (s.linkRec l).inb, f (s.linkRec l).outb⟩ := by
  simp [State.linkRec, State.mapMeasure]

end MapMeasure

theorem State.linkRec_of_links {s t : State} (h : t.links = s.links) (l : LinkIx) : t.linkRec l = s.linkRec l := by
  simp only [State.linkRec, h]

@[simp] theorem Meas.clearMarks_volIn (m : Meas) : m.clearMarks.volIn = m.volIn := by simp only [Meas.clearMarks]
@[simp] theorem Meas.clearMarks_volOut (m : Meas) : m.clearMarks.volOut = m.volOut := by simp only [Meas.clearMarks]
@[simp] theorem Meas.clearMarks_dir (m : Meas) : m.clearMarks.dir = m.dir := by simp only [Meas.clearMarks]
@[simp] theorem Meas.clearMarks_tide (m : Meas) : m.clearMarks.tide = m.tide := by simp only [Meas.clearMarks]

/-- The Measurement Unit up to the tide: the measures aged, the volumes updated (R60). -/
def State.smoothed (s : State) : State :=
  (s.mapMeasure Measure.aged).setMeas ((s.mapMeasure Measure.aged).meas.updateVolumes (s.mapMeasure Measure.aged).enrolledCount)

/-- The last step of R60: every mark cleared. -/
def State.clearMarks (s : State) : State :=
  (s.mapMeasure Measure.unmark).setMeas (s.mapMeasure Measure.unmark).meas.clearMarks

section Rollover

variable {s : State}

@[simp] theorem State.smoothed_meas (s : State) : s.smoothed.meas = s.meas.updateVolumes s.enrolledCount := by
  simp [State.smoothed]
@[simp] theorem State.smoothed_plan (s : State) : s.smoothed.plan = s.plan := by simp [State.smoothed, State.plan]
@[simp] theorem State.smoothed_band (s : State) : s.smoothed.band = s.band := by simp [State.smoothed]
@[simp] theorem State.smoothed_ctl (s : State) : s.smoothed.ctl = s.ctl := by simp [State.smoothed]

@[simp] theorem State.clearMarks_meas (s : State) : s.clearMarks.meas = s.meas.clearMarks := by simp [State.clearMarks]
@[simp] theorem State.clearMarks_band (s : State) : s.clearMarks.band = s.band := by simp [State.clearMarks]
@[simp] theorem State.clearMarks_ctl (s : State) : s.clearMarks.ctl = s.ctl := by simp [State.clearMarks]
@[simp] theorem State.clearMarks_faults (s : State) : s.clearMarks.faults = s.faults := by simp [State.clearMarks]

theorem State.linkRec_smoothed (s : State) (l : LinkIx) :
    s.smoothed.linkRec l = ⟨(s.linkRec l).length, (s.linkRec l).inb.aged, (s.linkRec l).outb.aged⟩ :=
  (State.linkRec_of_links (State.setMeas_links ..) l).trans (s.linkRec_mapMeasure Measure.aged l)

theorem State.linkRec_clearMarks (s : State) (l : LinkIx) :
    s.clearMarks.linkRec l = ⟨(s.linkRec l).length, (s.linkRec l).inb.unmark, (s.linkRec l).outb.unmark⟩ :=
  (State.linkRec_of_links (State.setMeas_links ..) l).trans (s.linkRec_mapMeasure Measure.unmark l)

theorem State.measureRollover_eq (activated : Bool) (s : State) : s.measureRollover activated =
    (if activated = false ∧ s.smoothed.plan.mode = .tidal then s.smoothed.evaluateTide else s.smoothed).clearMarks := rfl

/-- A rollover at which the tide is evaluated (R64, R66). -/
theorem State.measureRollover_of_tidal (h : s.plan.mode = .tidal) :
    s.measureRollover false = s.smoothed.evaluateTide.clearMarks := by
  rw [State.measureRollover_eq, State.smoothed_plan, if_pos ⟨rfl, h⟩]

/-- A rollover at which it is not. -/
theorem State.measureRollover_of_not_evaluated {activated : Bool} (h : ¬(activated = false ∧ s.plan.mode = .tidal)) :
    s.measureRollover activated = s.smoothed.clearMarks := by
  rw [State.measureRollover_eq, State.smoothed_plan, if_neg h]

/-- The turn of the tide up to its trigger (R65): the direction reversed, the count back at 0, TIDE raised. -/
def State.turnTide (s : State) : State := (s.setMeas { s.meas with dir := s.meas.dir.reverse, tide := 0 }).alert .tide

theorem State.evaluateTide_of_third (hc : s.meas.turnCondition = true) (h3 : ¬s.meas.tide + 1 < 3) :
    s.evaluateTide = s.turnTide.trigger := (if_pos hc).trans (if_neg h3)

theorem State.evaluateTide_links (s : State) : s.evaluateTide.links = s.links := by
  unfold State.evaluateTide
  dsimp only
  split
  · split
    · rfl
    · exact (State.links_of_kept (State.kept_trigger _)).trans rfl
  · rfl

theorem State.evaluateTide_meas (s : State) : s.evaluateTide.meas = s.meas.countTide := by
  unfold State.evaluateTide Meas.countTide
  dsimp only
  split
  · split
    · rfl
    · exact (State.meas_of_kept (State.kept_trigger _)).trans rfl
  · rfl

/-- The records of the Measurement Unit after a rollover under a TIDAL plan that activates none. -/
theorem State.measureRollover_meas_of_tidal (h : s.plan.mode = .tidal) :
    (s.measureRollover false).meas = (s.meas.updateVolumes s.enrolledCount).countTide.clearMarks := by
  rw [State.measureRollover_of_tidal h, State.clearMarks_meas, State.evaluateTide_meas, State.smoothed_meas]

end Rollover

/-! ### A rollover closes the round, in whatever order the blocks take it -/

/-- From `s` to `t` nothing changes of what the closing of a round reads, the tide apart. -/
structure State.KeepsRound (s t : State) : Prop where
  links : t.links = s.links
  enrolled : t.enrolledCount = s.enrolledCount
  pos : t.meas.pos = s.meas.pos
  volIn : t.meas.volIn = s.meas.volIn
  volOut : t.meas.volOut = s.meas.volOut

/-- From `s` to `t` the measures have aged, the volumes are updated and every mark is cleared (R60 to R62). -/
structure State.RoundClosed (s t : State) : Prop where
  links : ∀ l, t.linkRec l =
    ⟨(s.linkRec l).length, (s.linkRec l).inb.afterRollover, (s.linkRec l).outb.afterRollover⟩
  pos : ∀ p, t.meas.pos.get p = { s.meas.pos.get p with reported := false }
  volIn : t.meas.volIn = (s.meas.updateVolumes s.enrolledCount).volIn
  volOut : t.meas.volOut = (s.meas.updateVolumes s.enrolledCount).volOut

section Round

variable {s t u : State}

theorem State.KeepsRound.of_kept (h : t.kept = s.kept) : s.KeepsRound t :=
  ⟨State.links_of_kept h, State.enrolledCount_of_kept h, by rw [State.meas_of_kept h], by rw [State.meas_of_kept h],
    by rw [State.meas_of_kept h]⟩

theorem State.KeepsRound.measureBoundary (activated : Bool) (s : State) : s.KeepsRound (s.measureBoundary activated) := by
  cases activated <;> exact ⟨rfl, rfl, rfl, rfl, rfl⟩

theorem State.KeepsRound.beforeMeasure (o : BoundaryOrder) (s : State) : s.KeepsRound (s.beforeMeasure o) :=
  ⟨State.beforeMeasure_links, State.beforeMeasure_enrolledCount, by rw [State.beforeMeasure_meas],
    by rw [State.beforeMeasure_meas], by rw [State.beforeMeasure_meas]⟩

theorem State.KeepsRound.trans_closed (h : s.KeepsRound t) (k : t.RoundClosed u) : s.RoundClosed u := by
  obtain ⟨volIn_eq, volOut_eq⟩ := Meas.updateVolumes_congr (n := s.enrolledCount) h.pos h.volIn h.volOut
  refine ⟨fun l => ?_, fun p => ?_, ?_, ?_⟩
  · rw [k.links l, State.linkRec_of_links h.links l]
  · rw [k.pos p, h.pos]
  · rw [k.volIn, h.enrolled, volIn_eq]
  · rw [k.volOut, h.enrolled, volOut_eq]

theorem State.RoundClosed.trans_keeps (h : s.RoundClosed t) (k : t.KeepsRound u) : s.RoundClosed u :=
  ⟨fun l => (State.linkRec_of_links k.links l).trans (h.links l), fun p => by rw [k.pos, h.pos],
    k.volIn.trans h.volIn, k.volOut.trans h.volOut⟩

/-- The marks are cleared after a tide evaluation or none. -/
theorem State.RoundClosed.of_clearMarks {d : Dir} {k : Nat} (hl : t.links = s.smoothed.links)
    (hm : t.meas = { s.meas.updateVolumes s.enrolledCount with dir := d, tide := k }) : s.RoundClosed t.clearMarks := by
  refine ⟨fun l => ?_, fun p => ?_, ?_, ?_⟩
  · rw [State.linkRec_clearMarks, State.linkRec_of_links hl, State.linkRec_smoothed]
    simp only [Measure.unmark_aged]
  · simp [Meas.clearMarks, hm, PosMeas.unmark]
  · simp [hm]
  · simp [hm]

theorem State.RoundClosed.measureRollover (activated : Bool) (s : State) : s.RoundClosed (s.measureRollover activated) := by
  by_cases h : activated = false ∧ s.plan.mode = .tidal
  · obtain ⟨rfl, tidal⟩ := h
    obtain ⟨d, k, counted⟩ := (s.meas.updateVolumes s.enrolledCount).countTide_eq
    rw [State.measureRollover_of_tidal tidal]
    exact .of_clearMarks s.smoothed.evaluateTide_links (by rw [State.evaluateTide_meas, State.smoothed_meas, counted])
  · rw [State.measureRollover_of_not_evaluated h]
    exact .of_clearMarks rfl s.smoothed_meas

theorem State.RoundClosed.measureInOrder (activated : Bool) (m : BandMoment) (s : State) :
    s.RoundClosed (s.measureInOrder activated m) := by
  have triggers (w : State) : w.KeepsRound (w.bandBoundary activated) := .of_kept (State.kept_bandBoundary ..)
  have activates (w : State) : w.KeepsRound (w.measureBoundary activated) := .measureBoundary activated w
  have closes (w : State) : w.RoundClosed (w.measureRollover activated) := .measureRollover activated w
  cases m with
  | afterBoth => exact (activates s).trans_closed ((closes _).trans_keeps (triggers _))
  | beforeBoth => exact (triggers s).trans_closed ((activates _).trans_closed (closes _))
  | betweenRolloverAndActivation => exact ((closes s).trans_keeps (triggers _)).trans_keeps (activates _)
  | betweenActivationAndRollover => exact (activates s).trans_closed ((triggers _).trans_closed (closes _))

/-- The whole boundary closes the round (R60). -/
theorem State.RoundClosed.boundary {o : BoundaryOrder} (h : s.clock.cyclePos + 1 = s.clock.c) :
    s.RoundClosed (s.boundary o) := by
  rw [State.boundary_eq_beforeMeasure h]
  have measured : (s.beforeMeasure o).RoundClosed
      ((s.beforeMeasure o).measureAndTrigger s.plans.pendingSlot.isSome o.band) :=
    (State.RoundClosed.measureInOrder _ o.band _).trans_keeps (.of_kept (State.kept_followActivation ..))
  exact (State.KeepsRound.beforeMeasure o s).trans_closed (measured.trans_keeps (.of_kept (State.kept_holdAt ..)))

end Round

/-- Settles O37: the closing of the round ages every measure and clears its mark, and keeps every length. -/
theorem measuresAge : Obligations.MeasuresAge := by
  unfold Obligations.MeasuresAge
  intro s o powered last
  exact ⟨_, exec_rollover powered last, (State.RoundClosed.boundary last).links⟩

/-! ### A turn of the tide is followed by a computation on the new direction (R65, R73) -/

/-- From `s` to `t` the tide has turned: TIDE is raised, and a trigger has started a computation on the direction now in force, or
another trigger's computation is still to come. -/
structure State.TideTurned (s t : State) : Prop where
  raised : t.faults.pending.get AlertClass.tide.ix = true
  busy : ¬t.MayStart
  deferred : ¬s.MayStart → t.band.recompute = true
  started : s.MayStart → t.band.recompute = true ∨
    ∃ x, t.band.inFlight = some x ∧ x.number = s.band.number + 1 ∧ x.snap.dir = t.meas.dir

section Turn

variable {s t u : State}

theorem State.mayStart_congr (hb : t.band = s.band) (hc : t.ctl = s.ctl) : t.MayStart ↔ s.MayStart := by
  simp only [State.MayStart, hb, hc]

theorem State.TideTurned.follows (h : s.TideTurned t) : t.band.recompute = true ∨ s.ctl.master = .coordinating ∧
    ∃ x, t.band.inFlight = some x ∧ x.number = s.band.number + 1 ∧ x.snap.dir = t.meas.dir := by
  by_cases hs : s.MayStart
  · exact (h.started hs).imp id fun started => ⟨hs.1, started⟩
  · exact .inl (h.deferred hs)

theorem State.TideTurned.of_trigger (s : State) : s.TideTurned s.turnTide.trigger where
  raised := State.trigger_pending .tide (FaultUnit.alert_pending_self ..)
  busy := State.trigger_busy _
  deferred h := State.trigger_recompute h
  started h := .inr ⟨_, State.trigger_inFlight h, rfl, by rw [State.meas_of_kept (State.kept_trigger _)]; rfl⟩

theorem State.TideTurned.of_keepsBand_left (h : s.KeepsBand t) (k : t.TideTurned u) : s.TideTurned u where
  raised := k.raised
  busy := k.busy
  deferred hs := k.deferred (mt (State.mayStart_congr h.band h.ctl).mp hs)
  started hs := h.band ▸ k.started ((State.mayStart_congr h.band h.ctl).mpr hs)

theorem State.TideTurned.of_keepsBand_right (k : s.TideTurned t) (h : t.KeepsBand u)
    (hd : u.meas.dir = t.meas.dir) : s.TideTurned u where
  raised := h.pending .tide k.raised
  busy := mt (State.mayStart_congr h.band h.ctl).mp k.busy
  deferred hs := h.band ▸ k.deferred hs
  started hs := by rw [h.band, hd]; exact k.started hs

/-- A tide that turns in a state in which no computation can start sets the recompute-pending flag. -/
theorem State.TideTurned.of_busy (hs : ¬s.MayStart) (k : s.TideTurned u) : t.TideTurned u :=
  ⟨k.raised, k.busy, fun _ => k.deferred hs, fun _ => .inl (k.deferred hs)⟩

/-- The trigger of an ADAPTIVE plan before the turn. -/
theorem State.TideTurned.after_bandBoundary (k : (s.bandBoundary false).TideTurned t) : s.TideTurned t := by
  rw [State.bandBoundary_unactivated] at k
  split at k
  · exact k.of_busy s.trigger_busy
  · exact k

/-- The trigger of an ADAPTIVE plan after the turn. -/
theorem State.TideTurned.before_bandBoundary (k : s.TideTurned t) : s.TideTurned (t.bandBoundary false) := by
  rw [State.bandBoundary_unactivated]
  split
  · have pending := State.trigger_recompute k.busy
    exact ⟨State.trigger_pending .tide k.raised, t.trigger_busy, fun _ => pending, fun _ => .inl pending⟩
  · exact k

/-- The volumes a rollover counts meet the turn condition for the third time in a row. -/
def State.ThirdTurn (s : State) : Prop :=
  s.plan.mode = .tidal ∧ (s.meas.updateVolumes s.enrolledCount).turnCondition = true ∧ ¬s.meas.tide + 1 < 3

/-- Such a rollover, without an activation, in a state in which the turn starts a computation: a TIDAL plan inbound, with
the count at 2 and one vehicle outbound against none. -/
theorem State.exists_thirdTurn : ∃ s : State, s.powered = true ∧ s.clock.cyclePos + 1 = s.clock.c ∧
    s.plans.pendingSlot = none ∧ s.MayStart ∧ s.ThirdTurn := by
  refine ⟨{ State.reset with
    clock := { State.reset.clock with cyclePos := 899 }
    ctl := { State.reset.ctl with master := .coordinating }
    plans := State.reset.plans.setSlot 0 ⟨true, 0, .ready { factoryHeader with mode := .tidal } factoryEntries⟩
    meas := { State.reset.meas with volOut := 1, tide := 2 } }, rfl, rfl, rfl, ⟨rfl, rfl⟩, ?_, ?_, ?_⟩
  all_goals decide +kernel

theorem State.ThirdTurn.of_eq (hp : t.plan = s.plan) (hm : t.meas = s.meas) (he : t.enrolledCount = s.enrolledCount)
    (h : s.ThirdTurn) : t.ThirdTurn := by
  rwa [State.ThirdTurn, hp, hm, he]

theorem State.TideTurned.clearMarks (k : s.TideTurned t) : s.TideTurned t.clearMarks :=
  k.of_keepsBand_right (.of_eq t.clearMarks_band t.clearMarks_ctl t.clearMarks_faults)
    (by simp)

theorem State.TideTurned.measureRollover (h : s.ThirdTurn) : s.TideTurned (s.measureRollover false) := by
  obtain ⟨tidal, turns, third⟩ := h
  have evaluated : s.smoothed.evaluateTide = s.smoothed.turnTide.trigger :=
    State.evaluateTide_of_third (by rwa [State.smoothed_meas]) (by rwa [State.smoothed_meas, Meas.updateVolumes_tide])
  have smoothed : s.KeepsBand s.smoothed := .of_eq s.smoothed_band s.smoothed_ctl (by simp [State.smoothed])
  rw [State.measureRollover_of_tidal tidal, evaluated]
  exact ((State.TideTurned.of_trigger s.smoothed).of_keepsBand_left smoothed).clearMarks

theorem State.TideTurned.measureInOrder (m : BandMoment) (h : s.ThirdTurn) :
    s.TideTurned (s.measureInOrder false m) := by
  have kept : (s.bandBoundary false).kept = s.kept := State.kept_bandBoundary ..
  have h' : (s.bandBoundary false).ThirdTurn :=
    h.of_eq (State.plan_of_kept kept) (State.meas_of_kept kept) (State.enrolledCount_of_kept kept)
  cases m with
  | afterBoth | betweenRolloverAndActivation => exact (State.TideTurned.measureRollover h).before_bandBoundary
  | beforeBoth | betweenActivationAndRollover => exact (State.TideTurned.measureRollover h').after_bandBoundary

end Turn

/-! ### A rollover that activates no plan -/

section Unactivated

variable {s : State} {o : BoundaryOrder}

theorem State.followActivation_unactivated (s : State) : s.followActivation false = s := by
  unfold State.followActivation
  split
  · exact if_neg fun h => Bool.false_ne_true h.1
  · rfl

theorem State.boundary_unactivated (h : s.clock.cyclePos + 1 = s.clock.c) (hn : s.plans.pendingSlot = none) :
    s.boundary o = ((s.beforeMeasure o).measureInOrder false o.band).holdAt .afterAll o := by
  have unactivated : s.plans.pendingSlot.isSome = false := by rw [hn]; rfl
  rw [State.boundary_eq_beforeMeasure h, unactivated, State.measureAndTrigger, State.followActivation_unactivated]

/-- The Band Computer's triggers do not reach the records of the Measurement Unit. -/
theorem State.measureInOrder_meas (m : BandMoment) (s : State) :
    ∃ w : State, w.kept = s.kept ∧ (s.measureInOrder false m).meas = (w.measureRollover false).meas := by
  have kept (w : State) : (w.bandBoundary false).kept = w.kept := State.kept_bandBoundary ..
  cases m with
  | afterBoth | betweenRolloverAndActivation => exact ⟨s, rfl, State.meas_of_kept (kept _)⟩
  | beforeBoth | betweenActivationAndRollover => exact ⟨s.bandBoundary false, kept s, rfl⟩

theorem State.boundary_meas_of_tidal (h : s.clock.cyclePos + 1 = s.clock.c) (hn : s.plans.pendingSlot = none)
    (ht : s.plan.mode = .tidal) :
    (s.boundary o).meas = (s.meas.updateVolumes s.enrolledCount).countTide.clearMarks := by
  obtain ⟨w, kept, meas_eq⟩ := (s.beforeMeasure o).measureInOrder_meas o.band
  have tidal : w.plan.mode = .tidal := by rw [State.plan_of_kept kept, State.beforeMeasure_plan hn, ht]
  rw [State.boundary_unactivated h hn, State.meas_of_kept (State.kept_holdAt ..), meas_eq,
    State.measureRollover_meas_of_tidal tidal, State.meas_of_kept kept, State.enrolledCount_of_kept kept,
    State.beforeMeasure_meas, State.beforeMeasure_enrolledCount]

theorem State.boundary_meas_of_not_tidal (h : s.clock.cyclePos + 1 = s.clock.c) (hn : s.plans.pendingSlot = none)
    (ht : s.plan.mode ≠ .tidal) :
    (s.boundary o).meas = (s.meas.updateVolumes s.enrolledCount).clearMarks := by
  obtain ⟨w, kept, meas_eq⟩ := (s.beforeMeasure o).measureInOrder_meas o.band
  have fixed : ¬(false = false ∧ w.plan.mode = .tidal) := fun hw =>
    ht (by rw [← State.beforeMeasure_plan (o := o) hn, ← State.plan_of_kept kept, hw.2])
  rw [State.boundary_unactivated h hn, State.meas_of_kept (State.kept_holdAt ..), meas_eq,
    State.measureRollover_of_not_evaluated fixed, State.clearMarks_meas, State.smoothed_meas, State.meas_of_kept kept,
    State.enrolledCount_of_kept kept, State.beforeMeasure_meas, State.beforeMeasure_enrolledCount]

theorem State.TideTurned.boundary (h : s.clock.cyclePos + 1 = s.clock.c) (hn : s.plans.pendingSlot = none)
    (ht : s.ThirdTurn) : s.TideTurned (s.boundary o) := by
  have third : (s.beforeMeasure o).ThirdTurn :=
    ht.of_eq (State.beforeMeasure_plan hn) State.beforeMeasure_meas State.beforeMeasure_enrolledCount
  rw [State.boundary_unactivated h hn]
  exact ((State.TideTurned.measureInOrder o.band third).of_keepsBand_left State.beforeMeasure_keepsBand).of_keepsBand_right
    (.holdAt ..) (by rw [State.meas_of_kept (State.kept_holdAt ..)])

end Unactivated

/-- The turn condition on the volumes counted (R64). -/
theorem Meas.turnCondition_iff (m : Meas) : m.turnCondition = true ↔
    match m.dir with
    | .inbound => 5 * m.volIn ≤ 4 * m.volOut ∧ 1 ≤ m.volOut
    | .outbound => 5 * m.volOut ≤ 4 * m.volIn ∧ 1 ≤ m.volIn := by
  unfold Meas.turnCondition
  cases m.dir <;> exact decide_eq_true_iff

/-- Settles O38: the closing of the round gives the volumes and the report marks; without an activation the tide evaluation on those
volumes gives direction and count, and its turn the alert and the computation. -/
theorem tideRule : Obligations.TideRule := by
  unfold Obligations.TideRule
  intro s t o powered last run
  have boundary_eq : s.boundary o = t := by
    have := (exec_rollover (o := o) powered last).symm.trans run
    injection this
  have round : s.RoundClosed t := boundary_eq ▸ .boundary last
  intro reports n enough smoothed turns
  have enough_iff : enough ↔ 1 ≤ n ∧ (n + 1) / 2 ≤ s.meas.reports.length := by rw [Meas.reports_length]
  have turns_iff : turns ↔ (s.meas.updateVolumes n).turnCondition = true := by
    have counted := (s.meas.updateVolumes n).turnCondition_iff
    rw [Meas.updateVolumes_dir, ← round.volIn, ← round.volOut] at counted
    exact counted.symm
  refine ⟨round.pos, fun he => ?_, fun he => ?_, fun hn hm => ?_, fun hn hm => ?_⟩
  · rw [round.volIn, round.volOut, Meas.updateVolumes_of_enough (enough_iff.mp he)]
    simp only [Meas.reports_map_sum]
    exact ⟨rfl, rfl⟩
  · rw [round.volIn, round.volOut, Meas.updateVolumes_of_few (mt enough_iff.mpr he)]
    exact ⟨rfl, rfl⟩
  · rw [← boundary_eq, State.boundary_meas_of_not_tidal last hn hm]
    simp
  · have meas_eq : t.meas = (s.meas.updateVolumes n).countTide.clearMarks :=
      boundary_eq ▸ State.boundary_meas_of_tidal last hn hm
    have tide_eq : (s.meas.updateVolumes n).tide = s.meas.tide := Meas.updateVolumes_tide ..
    refine ⟨fun hc => ?_, fun hc h3 => ?_, fun hc h3 => ?_⟩
    · rw [meas_eq, Meas.countTide_of_fails (mt turns_iff.mpr hc)]
      simp
    · rw [meas_eq, Meas.countTide_of_turns (turns_iff.mp hc) (tide_eq ▸ h3)]
      simp
    · have third : s.TideTurned t := boundary_eq ▸ .boundary last hn ⟨hm, turns_iff.mp hc, h3⟩
      have dir_eq : t.meas.dir = s.meas.dir.reverse ∧ t.meas.tide = 0 := by
        rw [meas_eq, Meas.countTide_of_third (turns_iff.mp hc) (tide_eq ▸ h3)]
        simp
      exact ⟨dir_eq.1.trans (by cases s.meas.dir <;> rfl), dir_eq.2, third.raised, third.follows⟩

end Sys2Proof.Machine
end

section
/-! The peak band (chapter 5): the queue lead and the usable peak green of a position, and the peak band as the least usable peak green
over the enrolled positions (R82). -/

namespace Sys2Proof.Machine

/-! ### The least member of a list -/

theorem leastOf_eq_min {l : List Nat} (h : l ≠ []) : leastOf l = l.min h := by
  cases l with
  | nil => contradiction
  | cons x rest => rfl

theorem leastOf_mem {l : List Nat} (h : l ≠ []) : leastOf l ∈ l :=
  leastOf_eq_min h ▸ List.min_mem h

theorem leastOf_le_of_mem {l : List Nat} {x : Nat} (h : x ∈ l) : leastOf l ≤ x :=
  leastOf_eq_min (List.ne_nil_of_mem h) ▸ List.min_le_of_mem h

/-! ### The queue lead and the usable peak green of a position (R82) -/

section Position

variable (n : Snapshot) (x : SnapPos)

/-- The lead is cut to half the peak green exactly when the queue would take more. -/
theorem Snapshot.lead_eq_ite :
    n.lead x = if n.peakGreen x / 2 < x.queue * n.headway then n.peakGreen x / 2 else x.queue * n.headway :=
  (min_comm ..).trans (min_def_lt ..)

theorem Snapshot.lead_le_half : n.lead x ≤ n.peakGreen x / 2 := min_le_right ..

theorem Snapshot.usable_le_peakGreen : n.usable x ≤ n.peakGreen x := Nat.sub_le ..

/-- As the lead takes at most half of the peak green, the other half stays usable. -/
theorem Snapshot.half_le_usable : n.peakGreen x / 2 ≤ n.usable x := by
  have := n.lead_le_half x
  unfold Snapshot.usable
  omega

end Position

/-! ### The peak band (R82) -/

theorem Snapshot.peakBand_le_usable {n : Snapshot} {x : SnapPos} (h : x ∈ n.positions) : n.peakBand ≤ n.usable x :=
  leastOf_le_of_mem (List.mem_map_of_mem h)

theorem Snapshot.exists_peakBand_eq_usable {n : Snapshot} (h : n.positions ≠ []) :
    ∃ x, x ∈ n.positions ∧ n.peakBand = n.usable x := by
  obtain ⟨x, hx, least⟩ := List.mem_map.mp (leastOf_mem (mt List.map_eq_nil_iff.mp h : n.positions.map n.usable ≠ []))
  exact ⟨x, hx, least.symm⟩

/-- Settles O58: the peak band is the usable peak green of some position, of which a peak green in 100..C − 100 leaves at least half, 50,
and no more than itself, C − 100. -/
theorem peakBandLaw : Obligations.PeakBandLaw := by
  unfold Obligations.PeakBandLaw
  intro n enrolled greens queueLead
  have usable_eq : ∀ x, n.peakGreen x - queueLead x = n.usable x := fun x =>
    congrArg (n.peakGreen x - ·) (n.lead_eq_ite x).symm
  simp only [usable_eq]
  obtain ⟨x, hx, attained⟩ := Snapshot.exists_peakBand_eq_usable enrolled
  obtain ⟨green_ge, green_le⟩ := greens x hx
  have half := n.half_le_usable x
  have whole := n.usable_le_peakGreen x
  exact ⟨fun _ => Snapshot.peakBand_le_usable, ⟨x, hx, attained⟩, by omega, by omega⟩

end Sys2Proof.Machine
end

section
/-! What a step can do, said once (the laws of Safety.lean rest on it): a small set of changes of the state, and the commands as runs of
them. Four commands do more than such a run: a loss exclusion, an activation at a rollover, a PLAN-CLOSE, and a restart or loss of
supply; `Steps` names each by its own constructor. -/

namespace Sys2Proof.Machine

/-! ### Changes that no law speaks of -/

/-- From `s` to `t` nothing changes that a law speaks of, but for a store write that may become complete. -/
structure State.Aside (s t : State) : Prop where
  pos : t.pos = s.pos := by rfl
  lengths : ∀ l, (t.linkRec l).length = (s.linkRec l).length := by intro l; rfl
  plans : t.plans = s.plans := by rfl
  clock : t.clock = s.clock := by rfl
  inFlight : t.band.inFlight = s.band.inFlight := by rfl
  causes : t.pre.causes = s.pre.causes := by rfl
  vectors : t.pre.vectors = s.pre.vectors := by rfl
  lineCfgs : ∀ k, (t.pre.lines.get k).cfg = (s.pre.lines.get k).cfg := by intro k; rfl
  master : t.ctl.master = s.ctl.master := by rfl
  policy : t.ctl.policy = s.ctl.policy := by rfl
  first : t.faults.first = s.faults.first := by rfl
  next : t.faults.next = s.faults.next := by rfl
  enabled : t.faults.enabled = s.faults.enabled := by rfl
  store : t.store = s.store := by rfl
  unfinished : t.unfinished = s.unfinished ∨ t.unfinished = none := by exact .inl rfl
  powered : t.powered = s.powered := by rfl
  pending : t.pending = s.pending := by rfl

namespace State.Aside

variable (s : State)

theorem refl : s.Aside s := {}
theorem alert (c : AlertClass) : s.Aside (s.alert c) := {}
theorem setTrunk (x : Trunk) : s.Aside (s.setTrunk x) := {}
theorem setMeas (x : Meas) : s.Aside (s.setMeas x) := {}
theorem timeAt (t : Nat) : s.Aside (s.at t) := {}
theorem setPort (p : PortId) (q : Port) : s.Aside (s.setPort p q) := by cases p <;> exact {}

theorem setBand {b : Band} (h : b.inFlight = s.band.inFlight) : s.Aside (s.setBand b) := { inFlight := h }

theorem setCtl {x : Ctl} (hm : x.master = s.ctl.master) (hp : x.policy = s.ctl.policy) : s.Aside (s.setCtl x) :=
  { master := hm, policy := hp }

theorem setFaults {x : FaultUnit} (hf : x.first = s.faults.first) (hn : x.next = s.faults.next)
    (he : x.enabled = s.faults.enabled) : s.Aside (s.setFaults x) := { first := hf, next := hn, enabled := he }

theorem setLine {k : LineIx} {l : PLine} (h : l.cfg = (s.pre.lines.get k).cfg) : s.Aside (s.setLine k l) :=
  { lineCfgs := fun j => by
      show ((s.pre.lines.set k.val l k.isLt).get j).cfg = _
      rw [get_set]
      split
      · next e => rw [← e, h]
      · rfl }

theorem setLinkRec {l : LinkIx} {r : LinkRec} (h : r.length = (s.linkRec l).length) : s.Aside (s.setLinkRec l r) :=
  { lengths := fun m => by
      rw [State.linkRec_setLinkRec]
      split
      · next e => rw [← e, h]
      · rfl }

theorem setLinks {x : Vector LinkRec 23} (h : ∀ l, (x.get l).length = (s.linkRec l).length) :
    s.Aside { s with links := x } := { lengths := h }

theorem mapMeasure (f : Measure → Measure) : s.Aside (s.mapMeasure f) :=
  setLinks s fun l => by simp [State.linkRec]

theorem setInput (l : LineId) (i : Input) : s.Aside (s.setInput l i) := by
  cases l with
  | preempt k => exact setLine s rfl
  | hold => exact {}
  | detach => exact {}
  | key => exact {}

theorem endReply (p : PortId) : s.Aside (s.endReply p) := by
  unfold State.endReply
  split
  · exact refl s
  · next r _ =>
    have closed : Unfinished.closedBy p s.unfinished = s.unfinished ∨ Unfinished.closedBy p s.unfinished = none := by
      unfold Unfinished.closedBy
      split
      · next u h => rw [h]; split <;> simp
      · exact .inr rfl
    have ported := setPort s p { s.port p with inProgress := none, out := some r.reply }
    exact { ported with unfinished := by simpa using closed }

end State.Aside

/-! ### Changes of a position record -/

/-- The changes of one position record that leave its owner, its pending causes and its enrolment alone, under the active plan `h`; `T`
says which targets a completion writes. -/
inductive SeekChange (T : Nat → Prop) (h : Header) (r : PosRec) : PosRec → Prop
  | misses {n : Nat} (hn : r.misses ≤ 5 → n ≤ 5) : SeekChange T h r { r with misses := n, health := healthOf n }
  | available (b : Bool) : SeekChange T h r { r with available := b }
  | sent (x : Option SentCorrection) : SeekChange T h r { r with sent := x }
  | answer (m : Mode) : SeekChange T h r (r.answerMode m)
  | target {n : Nat} (hn : T n) : SeekChange T h r ((({ r with target := some n } : PosRec).reevaluate h).recorrect h)
  | report (a : PlanTag) (rep : Report) (off : Bool) (n : Half) : SeekChange T h r
      ((((((r.takeTag a rep.tag).takeOffset h a rep).takeMode h off rep.mode).reevaluate h).closeRound n).recorrect h)
  | failure (n : Half) : SeekChange T h r (((r.loseOffset h).closeRound n).recorrect h)
  | rises : SeekChange T h r ((r.masterRises h).recorrect h)
  | falls : SeekChange T h r (r.masterFalls.recorrect h)

/-- The changes of one position record that the start or the end of a cause makes, under the active plan `h`. -/
inductive OwnerChange (h : Header) (r : PosRec) : PosRec → Prop
  | seize (v : VecIx) (he : r.enrolment.isEnrolled = true) :
      OwnerChange h r (({ r with owner := some v, claims := [] } : PosRec).seized.recorrect h)
  | handOver (v : VecIx) (l : List VecIx) (ho : r.owner.isSome = true) :
      OwnerChange h r (({ r with owner := some v, claims := l } : PosRec).handedOver.recorrect h)
  | claims (l : List VecIx) : OwnerChange h r { r with claims := l }
  | release (off : Bool) : OwnerChange h r ((({ r with owner := none } : PosRec).released h off).recorrect h)

/-! ### Changes of the state -/

/-- The master state `m` may be entered: coordination is on already, or at least two positions are ENROLLED (R155). -/
def State.MayEnter (s : State) (m : Master) : Prop :=
  m = .coordinating ∨ m = .hold → (s.ctl.master = .coordinating ∨ s.ctl.master = .hold) ∨ 2 ≤ s.enrolledCount

/-- The timebase state, preference and decisecond length go together (R38). -/
def TimebaseOk (tb : Timebase) (pref : Preference) (len : Nat) : Prop :=
  (tb = .internal ↔ pref = .internalOnly) ∧
    match tb with
    | .internal => len = 1000
    | .acquiring n _ => n ≤ 7 ∧ len = 1000
    | .reference _ last => 990 ≤ last ∧ last ≤ 1010 ∧ len = last

/-- The enrolment of `p` at `drop`, up to the trigger (R7). -/
def State.enrolls (port : PortId) (p : Pos) (drop : Nat) (s : State) : State :=
  ((s.putEnrolment (some port) p (.enrolled drop)).bumpMembership).enrolmentEvent p .enrols

/-- The operator takes an ENROLLED position out, up to the trigger (R9). -/
def State.leaves (port : PortId) (p : Pos) (e : Enrolment) (c : EnrolmentChange) (s : State) : State :=
  ((s.putEnrolment (some port) p e).bumpMembership).enrolmentEvent p c

/-- The loss exclusion of `p`, up to the report of the enrolled count (R10). -/
def State.loses (p : Pos) (drop : Nat) (s : State) : State :=
  ((s.putEnrolment none p (.excluded drop .lost)).bumpMembership).enrolmentEvent p .loses

/-- A change of the clock, the plans or the configuration that touches no position. -/
inductive Setting (s : State) : State → Prop
  | advance (h : s.clock.cyclePos + 1 ≠ s.clock.c) : Setting s
      (s.setClock { s.clock with dsRunning := s.clock.dsLength, cyclePos := s.clock.cyclePos + 1 })
  | turnCycle (h : s.plans.pendingSlot = none) : Setting s s.turnCycle
  | timebase {tb : Timebase} {len : Nat}
      (h : TimebaseOk s.clock.tb s.clock.pref s.clock.dsLength → TimebaseOk tb s.clock.pref len) :
      Setting s (s.setTimebase tb len)
  | applyTimebase (hp : s.powered = true) (p : PortId) (x : Preference) : Setting s (s.applyTimebase p x)
  | setInterval (hp : s.powered = true) (p : PortId) (n : Nat) : Setting s (s.setInterval p n)
  | setPolicy (hp : s.powered = true) (p : PortId) (x : Policy) : Setting s (s.setPolicy p x)
  | setEnables (hp : s.powered = true) (p : PortId) (e : Vector Bool 9) : Setting s (s.setEnables p e)
  | setLength (hp : s.powered = true) (p : PortId) (l : LinkIx) (n : Nat) : Setting s (s.setLength p l n)
  | setVector (hp : s.powered = true) (p : PortId) (v : VecIx) (c : VectorCfg) (h : s.causeActive v = false)
      (hd : (c.list.map (·.pos)).Nodup) : Setting s (s.setVector p v c)
  | reconfigureLine (hp : s.powered = true) (p : PortId) (t : Nat) (k : LineIx) (c : LineCfg) :
      Setting s (s.reconfigureLine p t k c)
  | openSlot (hp : s.powered = true) (p : PortId) (i : SlotIx) (h : Header) (base : Nat) (hc : h.cOk) (hn : 1 ≤ h.count)
      (hl : (s.plans.slot i).locked = false) (hu : s.plans.inUse i = false) (hf : s.plans.firstFit i h.count = some base) :
      Setting s (s.openSlot p i h base)
  | writeEntry (i : SlotIx) (h : Header) (q : PortId) (es es' : List (Option Entry))
      (hb : (s.plans.slot i).body = .loading h q es) : Setting s (s.setSlotBody i (.loading h q es'))
  | dropSlot (hp : s.powered = true) (p : PortId) (i : SlotIx) (hl : (s.plans.slot i).locked = false)
      (hu : s.plans.inUse i = false) : Setting s (s.dropSlot p i)
  | setLocked (hp : s.powered = true) (p : PortId) (i : SlotIx) (b : Bool) (h0 : i = 0 → b = true) :
      Setting s (s.setLocked p i b)
  | select (i : SlotIx) (hr : (s.plans.slot i).body.isReady = true)
      (hc : s.enrolledList.all (s.plans.covers i) = true) : Setting s (s.setPlans (s.plans.select i))

/-- A change of the enrolment of a position by a request. -/
inductive Membership (s : State) : State → Prop
  | enrolls (port : PortId) (p : Pos) (drop : Nat) (he : (s.posRec p).enrolment.isEnrolled = false)
      (hd : (s.posRec p).enrolment.drop = some drop ∨ (1 ≤ drop ∧ drop ≤ 31) ∧ s.dropTaken p drop = false)
      (hc : s.plansCover p = true) : Membership s (s.enrolls port p drop)
  | excludes (port : PortId) (p : Pos) (drop : Nat) (he : (s.posRec p).enrolment = .enrolled drop)
      (ho : (s.posRec p).owner = none) (hn : s.ctl.master.runs = true → 3 ≤ s.enrolledCount) :
      Membership s (s.leaves port p (.excluded drop .operator) .excludes)
  | vacates (port : PortId) (p : Pos) (ho : (s.posRec p).owner = none)
      (hn : s.ctl.master.runs = true → 3 ≤ s.enrolledCount) : Membership s (s.leaves port p .vacant (.vacates true))
  | takesOver (port : PortId) (p : Pos) (drop : Nat) (he : (s.posRec p).enrolment = .excluded drop .lost) :
      Membership s (s.putEnrolment (some port) p (.excluded drop .operator))
  | vacateExcluded (port : PortId) (p : Pos) (he : (s.posRec p).enrolment.isEnrolled = false) :
      Membership s (s.vacateExcluded port p)

/-- One change of the state. `T` says which targets a completion writes. -/
inductive Change (T : Nat → Prop) (s : State) : State → Prop
  | aside {t : State} (h : s.Aside t) : Change T s t
  | fault (i : FaultInfo) : Change T s (s.fault i)
  | clearFaults : Change T s (s.setFaults s.faults.clear)
  | record (p : Pos) {r : PosRec} (h : SeekChange T s.plan (s.posRec p) r) : Change T s (s.setPosRec p r)
  | seekRollover : Change T s s.seekRollover
  | activate (v : VecIx) (src : Source) (h : s.causeActive v = false) : Change T s (s.activate v src)
  | endCause (v : VecIx) (reason : EndReason) : Change T s (s.endCause v reason)
  | countDown : Change T s
      (s.setPre { s.pre with causes := Vector.ofFn fun v => (s.pre.causes.get v).map Cause.countDown })
  | setMaster (m : Master) (h : s.MayEnter m) : Change T s (s.setMaster m)
  | newComputation : Change T s (s.setBand { s.band with
      inFlight := some s.newComputation, recompute := false, number := s.newComputation.number })
  | interrupt : Change T s (s.setBand s.band.interrupt)
  | conclude {b : Band} (h : b.inFlight = none) : Change T s (s.setBand b)
  | setting {t : State} (h : Setting s t) : Change T s t
  | membership {t : State} (hp : s.powered = true) (h : Membership s t) : Change T s t

/-- A run of changes. -/
abbrev Changes (T : Nat → Prop) : State → State → Prop := Relation.ReflTransGen (Change T)

/-- The targets that a completion of the computation in flight can write: below the C of its snapshot, when its plan tag is the
one in force (R87, R88). -/
def State.Targets (s : State) (n : Nat) : Prop :=
  ∃ x, s.band.inFlight = some x ∧ s.planTag = { slot := x.snap.slot, gen := x.snap.gen } ∧ (0 < x.snap.c → n < x.snap.c)

/-- No target. -/
abbrev NoTarget : Nat → Prop := fun _ => False

/-- What a command does to the state: a run of changes, with at most one of four larger ones in it. -/
inductive Steps (s : State) : State → Prop
  | run {t : State} (h : Changes s.Targets s t) : Steps s t
  /-- a loss exclusion (R10) -/
  | loss {u t : State} {p : Pos} {drop : Nat} (h : Changes NoTarget s u) (hp : u.powered = true)
      (he : (u.posRec p).enrolment = .enrolled drop) (h' : Changes NoTarget (u.loses p drop).reportCount t) : Steps s t
  /-- a rollover with an activation, up to the position records and after (R31, R32, R47) -/
  | activation {u v t : State} (h : Changes NoTarget s u) (hp : u.powered = true) (ha : u.plans.pendingSlot.isSome = true)
      (hv : Changes NoTarget u.turnCycle v) (h' : Changes NoTarget v.seekActivation t) : Steps s t
  /-- PLAN-CLOSE (R24) -/
  | close {u t : State} {p q : PortId} {i : SlotIx} {h : Header} {es : List (Option Entry)} (hs : s.Aside u)
      (hp : u.powered = true) (hb : (u.plans.slot i).body = .loading h q es) (hf : closeFailure h.c 0 none es = none)
      (ht : (u.closeSlot p i h (es.filterMap id)).Aside t) : Steps s t
  /-- a restart (R168) -/
  | restart {u : State} (h : s.Aside u) : Steps s u.restart
  /-- ERASE (R169) -/
  | erase {u v : State} {p : PortId} (h : s.Aside u) (hv : (u.eraseStore p).Aside v) : Steps s v.restart
  | losePower (torn : Bool) : Steps s (s.losePower torn)

end Sys2Proof.Machine
end

section
/-! The shared operations of the blocks as runs of changes: faults and alerts, the seeks, the computation, preemption, the master
state, the trunk. -/

namespace Sys2Proof.Machine

namespace Changes

variable {T : Nat → Prop}

theorem refl (s : State) : Changes T s s := Relation.ReflTransGen.refl

theorem single {s t : State} (h : Change T s t) : Changes T s t := Relation.ReflTransGen.single h

theorem trans {s t u : State} (h : Changes T s t) (k : Changes T t u) : Changes T s u := Relation.ReflTransGen.trans h k

theorem tail {s t u : State} (h : Changes T s t) (k : Change T t u) : Changes T s u := Relation.ReflTransGen.tail h k

theorem aside {s t : State} (h : s.Aside t) : Changes T s t := .single (.aside h)

theorem foldl {α : Type} {f : State → α → State} (h : ∀ (s : State) (a : α), Changes T s (f s a)) (l : List α) (s : State) :
    Changes T s (l.foldl f s) := by
  induction l generalizing s with
  | nil => exact refl s
  | cons a l ih => exact (h s a).trans (ih _)

variable (s : State)

/-! ### Faults and alerts -/

theorem alert (c : AlertClass) : Changes T s (s.alert c) := aside (.alert s c)
theorem fault (i : FaultInfo) : Changes T s (s.fault i) := .single (.fault i)
theorem setTrunk (x : Trunk) : Changes T s (s.setTrunk x) := aside (.setTrunk s x)

/-! ### Seeks -/

variable {s}

theorem putSeek {p : Pos} {r : PosRec} (h : SeekChange T s.plan (s.posRec p) (r.recorrect s.plan)) :
    Changes T s (s.putSeek p r) := by
  have written : Changes T s (s.setPosRec p (r.recorrect s.plan)) := .single (.record p h)
  unfold State.putSeek
  dsimp only
  split
  · exact written.trans (alert _ .seek)
  · exact written

variable (s)

theorem seekMaster (old new : Master) : Changes T s (s.seekMaster old new) := by
  have rises : Changes T s (allPos.foldl (fun s p => s.putSeek p ((s.posRec p).masterRises s.plan)) s) :=
    foldl (fun _ _ => putSeek .rises) _ _
  have falls : Changes T s (allPos.foldl (fun s p => s.putSeek p (s.posRec p).masterFalls) s) :=
    foldl (fun _ _ => putSeek .falls) _ _
  unfold State.seekMaster
  split
  iterate 4 exact rises
  iterate 5 exact falls
  exact refl s

theorem stepFailure (p : Pos) : Changes T s (s.stepFailure p) := putSeek (.failure _)

theorem reportSeek (p : Pos) (rep : Report) : Changes T s (s.reportSeek p rep) := putSeek (.report _ _ _ _)

/-! ### The computation -/

theorem startComputation : Changes T s s.startComputation :=
  (single .newComputation).trans (foldl (fun s i => fault s i) _ _)

theorem trigger : Changes T s s.trigger := by
  unfold State.trigger
  split
  · exact startComputation s
  · exact aside (.setBand s rfl)

theorem bandMaster (old new : Master) : Changes T s (s.bandMaster old new) := by
  have interrupted : Changes T s (if old = .coordinating then s.setBand s.band.interrupt else s) := by
    split
    · exact .single .interrupt
    · exact refl s
  unfold State.bandMaster
  extract_lets s1
  change Changes T s s1 at interrupted
  clear_value s1
  refine interrupted.trans ?_
  split
  · exact trigger _
  · exact aside (.setBand _ rfl)
  · exact aside (.setBand _ rfl)
  · exact refl _
  · exact refl _

/-! ### Preemption -/

theorem endTransit : Changes T s s.endTransit :=
  foldl (fun s v => by
    split
    · exact .single (.endCause v .master)
    · exact refl s) _ _

theorem preMaster (old : Master) : Changes T s (s.preMaster old) := by
  unfold State.preMaster
  split
  · exact endTransit s
  · exact refl s

theorem disarm (v : VecIx) : Changes T s (s.setPre (s.pre.disarm v)) := by
  unfold Pre.disarm
  split
  · exact refl s
  · next k _ =>
    dsimp only
    split
    · exact aside (.setLine s rfl)
    · exact refl s

theorem expire (v : VecIx) : Changes T s (s.expire v) :=
  ((fault s (.holdExpired v)).trans (disarm _ v)).trans (.single (.endCause v .expiry))

theorem holdCountdown : Changes T s s.holdCountdown := by
  refine (single .countDown).trans (foldl (fun s v => ?_) _ _)
  split
  · split
    · exact expire s v
    · exact refl s
  · exact refl s

theorem holdAt (m : HoldMoment) (o : BoundaryOrder) : Changes T s (s.holdAt m o) := by
  unfold State.holdAt
  split
  · exact holdCountdown s
  · exact refl s

/-! ### The master state -/

variable {s}

theorem changeMaster {m : Master} (h : s.MayEnter m) : Changes T s (s.changeMaster m) :=
  ((((single (.setMaster m h)).trans (seekMaster _ _ _)).trans (preMaster _ _)).trans
    (alert _ .state)).trans (bandMaster _ _ _)

variable (s)

theorem enterFallback (c : FallbackCause) : Changes T s (s.enterFallback c) :=
  (changeMaster (fun h => by simp at h)).trans (fault _ _)

theorem fallbackUnlessOut (c : FallbackCause) : Changes T s (s.fallbackUnlessOut c) := by
  unfold State.fallbackUnlessOut
  split
  iterate 3 exact enterFallback s c
  iterate 2 exact refl s

theorem holdRaised : Changes T s s.holdRaised := by
  unfold State.holdRaised
  split
  · next h => exact changeMaster fun _ => .inl (.inl h)
  · exact refl s

theorem holdWithdrawn : Changes T s s.holdWithdrawn := by
  unfold State.holdWithdrawn
  split
  · next h => exact changeMaster fun _ => .inl (.inr h.1)
  · exact refl s

/-! ### Health and the trunk -/

theorem setOrder (p : Pos) (e : Option OrderEntry) : Changes T s (s.setOrder p e) := setTrunk s _

variable {s}

theorem setMisses {p : Pos} {n : Nat} (h : (s.posRec p).misses ≤ 5 → n ≤ 5) : Changes T s (s.setMisses p n) := by
  have written : Changes T s (s.setPosRec p { s.posRec p with misses := n, health := healthOf n }) :=
    .single (.record p (.misses h))
  unfold State.setMisses
  dsimp only
  split
  · exact (written.trans (fault _ _)).trans (alert _ _)
  · split
    · exact written.trans (alert _ _)
    · exact written

variable (s)

theorem countMiss (p : Pos) : Changes T s (s.countMiss p) :=
  setMisses fun h => by unfold satInc; split <;> omega

theorem clearMisses : Changes T s s.clearMisses := foldl (fun _ _ => setMisses fun _ => Nat.zero_le 5) _ _

theorem landing_mayEnter (r : Resume) : s.MayEnter (s.landing r) := by
  intro h
  have count : ¬s.enrolledCount < 2 := fun hc => by cases r <;> simp [State.landing, hc] at h
  exact .inr (Nat.not_lt.mp count)

theorem depart (r : Resume) : Changes T s (s.depart r) := by
  have landed : Changes T s ((s.setMaster (s.landing r)).clearMisses) :=
    (single (.setMaster _ (landing_mayEnter s r))).trans (clearMisses _)
  unfold State.depart
  dsimp only
  split
  · exact (((landed.trans (seekMaster _ _ _)).trans (preMaster _ _)).trans ((alert _ .state).trans (bandMaster _ _ _))).trans
      (fault _ _)
  · exact landed.trans ((alert _ .state).trans (bandMaster _ _ _))

theorem sendAttempt (k : ExchangeKind) (p : Pos) (d : Nat) (b : Bool) (body : List Byte) :
    Changes T s (s.sendAttempt k p d b body) := setTrunk s _

theorem sendStep (p : Pos) (d : Nat) (b : Bool) : Changes T s (s.sendStep p d b) :=
  (single (.record p (.sent _))).trans (sendAttempt _ _ _ _ _ _)

theorem sendOrder (p : Pos) (e : OrderEntry) (d : Nat) : Changes T s (s.sendOrder p e d) :=
  (setOrder s _ _).trans (sendAttempt _ _ _ _ _ _)

theorem grantProbe : Changes T s s.grantProbe := by
  unfold State.grantProbe
  split
  · exact setTrunk s _
  · split
    · exact sendAttempt s _ _ _ _ _
    · exact setTrunk s _

theorem grantStep (p : Pos) : Changes T s (s.grantStep p) := by
  unfold State.grantStep
  split
  · exact (setTrunk s _).trans (sendStep _ _ _ _)
  · exact refl s

theorem grantOrder (k : ExchangeKind) : Changes T s (s.grantOrder k) := by
  unfold State.grantOrder
  split
  · dsimp only
    split
    · split
      · exact (setTrunk s _).trans (sendOrder _ _ _ _)
      · exact refl s
    · exact refl s
  · exact refl s

/-! ### Answers -/

theorem measureReport (p : Pos) (rep : Report) : Changes T s (s.measureReport p rep) := by
  have inbound : Changes T s (match inboundLink p with
      | some l => s.setLinkRec l
          { s.linkRec l with inb := (s.linkRec l).inb.intake s.plan (s.linkRec l).length rep.transitIn rep.faultIn }
      | none => s) := by
    split
    · exact aside (.setLinkRec s rfl)
    · exact refl s
  unfold State.measureReport
  extract_lets s1
  change Changes T s s1 at inbound
  clear_value s1
  refine inbound.trans ?_
  split
  · exact aside (.setLinkRec _ rfl)
  · exact refl _

theorem acceptReport (x : Exchange) (rep : Report) : Changes T s (s.acceptReport x rep) :=
  (((setTrunk s _).trans (setMisses fun _ => Nat.zero_le 5)).trans
    ((measureReport _ _ _).trans (aside (.setMeas _ _)))).trans (reportSeek _ _ _)

theorem acceptAck (x : Exchange) : Changes T s (s.acceptAck x) := by
  unfold State.acceptAck
  extract_lets s1 s2
  have ended : Changes T s s1 := setTrunk s _
  suffices Changes T s1 s2 from (ended.trans this).trans (setMisses fun _ => Nat.zero_le 5)
  unfold s2
  split
  · split
    · exact setOrder _ _ _
    · exact refl _
  · exact refl _

theorem acceptAnswer (x : Exchange) (m : Mode) : Changes T s (s.acceptAnswer x m) := by
  have seen (u : State) : Changes T u
      (u.setPosRec x.pos (({ u.posRec x.pos with available := true } : PosRec).answerMode m)) := by
    have first : Changes T u (u.setPosRec x.pos { u.posRec x.pos with available := true }) := .single (.record _ (.available _))
    have second := Change.record (T := T) x.pos
      (s := u.setPosRec x.pos { u.posRec x.pos with available := true }) (.answer m)
    have twice : (u.setPosRec x.pos { u.posRec x.pos with available := true }).setPosRec x.pos
        (({ u.posRec x.pos with available := true } : PosRec).answerMode m) =
        u.setPosRec x.pos (({ u.posRec x.pos with available := true } : PosRec).answerMode m) := by
      simp [State.setPosRec]
    simp only [State.posRec_setPosRec, if_true, twice] at second
    exact first.tail second
  have before : Changes T s ((s.endExchange.probeOver x.pos).setMisses x.pos 0) :=
    ((setTrunk s _).trans (setTrunk _ _)).trans (setMisses fun _ => Nat.zero_le 5)
  unfold State.acceptAnswer
  dsimp only
  split
  · exact before.trans (seen _)
  · exact (before.trans (seen _)).trans (alert _ _)

theorem accept (x : Exchange) (a : AwaitedAnswer) : Changes T s (s.accept x a) := by
  cases a with
  | report rep => exact acceptReport s x rep
  | ack => exact acceptAck s x
  | answer m => exact acceptAnswer s x m

/-! ### The clock -/

theorem beaconDue (b : Bool) : Changes T s (s.beaconDue b) := setTrunk s _

variable {s} in
theorem advance (h : s.clock.cyclePos + 1 ≠ s.clock.c) : Changes T s s.advance := by
  have ticked : Changes T s (s.setClock { s.clock with dsRunning := s.clock.dsLength, cyclePos := s.clock.cyclePos + 1 }) :=
    .single (.setting (.advance h))
  unfold State.advance
  dsimp only
  split
  · exact ticked.trans (beaconDue _ _)
  · exact ticked

theorem trunkRollover : Changes T s s.trunkRollover := (setTrunk s _).trans (beaconDue _ _)

theorem bandBoundary (a : Bool) : Changes T s (s.bandBoundary a) := by
  have activated : Changes T s (if a then s.trigger else s) := by
    split
    · exact trigger s
    · exact refl s
  unfold State.bandBoundary
  extract_lets s1
  change Changes T s s1 at activated
  clear_value s1
  refine activated.trans ?_
  split
  · exact trigger _
  · exact refl _

theorem measureBoundary (a : Bool) : Changes T s (s.measureBoundary a) := by
  unfold State.measureBoundary
  split
  · exact aside (.setMeas s _)
  · exact refl s

theorem evaluateTide : Changes T s s.evaluateTide := by
  unfold State.evaluateTide
  dsimp only
  split
  · split
    · exact aside (.setMeas s _)
    · exact ((aside (.setMeas s _)).trans (alert _ _)).trans (trigger _)
  · exact aside (.setMeas s _)

theorem measureRollover (a : Bool) : Changes T s (s.measureRollover a) := by
  unfold State.measureRollover
  extract_lets s1 s2 s3 s4
  have aged : Changes T s s2 := (aside (.mapMeasure s _)).trans (aside (.setMeas _ _))
  have unmarked : Changes T s3 s4 := aside (.mapMeasure s3 Measure.unmark)
  suffices Changes T s2 s3 from ((aged.trans this).trans unmarked).trans (aside (.setMeas _ _))
  unfold s3
  split
  · exact evaluateTide _
  · exact refl _

theorem measureAndTrigger (a : Bool) (m : BandMoment) : Changes T s (s.measureAndTrigger a m) := by
  have ordered : Changes T s (s.measureInOrder a m) := by
    cases m with
    | afterBoth => exact ((measureBoundary s a).trans (measureRollover _ a)).trans (bandBoundary _ a)
    | beforeBoth => exact ((bandBoundary s a).trans (measureBoundary _ a)).trans (measureRollover _ a)
    | betweenRolloverAndActivation => exact ((measureRollover s a).trans (bandBoundary _ a)).trans (measureBoundary _ a)
    | betweenActivationAndRollover => exact ((measureBoundary s a).trans (bandBoundary _ a)).trans (measureRollover _ a)
  have followed (u : State) : Changes T u (u.followActivation a) := by
    unfold State.followActivation
    split
    · split
      · exact aside (.setBand _ rfl)
      · exact refl _
    · exact refl _
  exact ordered.trans (followed _)

end Changes

end Sys2Proof.Machine
end

section
/-! Every command takes `Steps`: first the rulings of the owning blocks as runs of changes, then the commands. -/

namespace Sys2Proof.Machine

/-! ### Supply and the queue are kept -/

section Supply

variable {s t : State}

/-- The supply and the queue of waiting commands are the same in `s` and `t`. -/
def State.SameSupply (s t : State) : Prop := t.powered = s.powered ∧ t.pending = s.pending

theorem State.SameSupply.of_kept (h : t.kept = s.kept) : s.SameSupply t := ⟨congrArg Kept.powered h, congrArg Kept.pending h⟩

theorem Setting.sameSupply (h : Setting s t) : s.SameSupply t := by
  cases h with
  | turnCycle h =>
    have (u : State) : u.SameSupply u.activatePending := by unfold State.activatePending; split <;> exact ⟨rfl, rfl⟩
    exact this _
  | applyTimebase _ p x => unfold State.applyTimebase; split <;> exact ⟨rfl, rfl⟩
  | setEnables _ p e => unfold State.setEnables; split <;> exact ⟨rfl, rfl⟩
  | setVector _ p v c _ _ => unfold State.setVector; dsimp only; split <;> exact ⟨rfl, rfl⟩
  | reconfigureLine _ p t k c => unfold State.reconfigureLine; dsimp only; split <;> exact ⟨rfl, rfl⟩
  | openSlot _ p i h base _ _ _ _ _ => unfold State.openSlot; dsimp only; split <;> exact ⟨rfl, rfl⟩
  | dropSlot _ p i _ _ => unfold State.dropSlot; split <;> exact ⟨rfl, rfl⟩
  | _ => exact ⟨rfl, rfl⟩

theorem State.loses_sameSupply (p : Pos) (d : Nat) : s.SameSupply (s.loses p d) := by
  have event (u : State) : u.SameSupply (u.enrolmentEvent p .loses) := .of_kept (State.kept_enrolmentEvent ..)
  exact event _

theorem Membership.sameSupply (h : Membership s t) : s.SameSupply t := by
  cases h with
  | takesOver port p drop _ => exact ⟨rfl, rfl⟩
  | _ =>
    have event (u : State) (p : Pos) (c : EnrolmentChange) : u.SameSupply (u.enrolmentEvent p c) :=
      .of_kept (State.kept_enrolmentEvent ..)
    exact event _ _ _

theorem Change.sameSupply {T : Nat → Prop} (h : Change T s t) : s.SameSupply t := by
  cases h with
  | aside h => exact ⟨h.powered, h.pending⟩
  | seekRollover => exact .of_kept (State.kept_seekRollover s)
  | activate v src _ => exact .of_kept (State.kept_activate v src s)
  | endCause v reason => exact .of_kept (State.kept_endCause v reason s)
  | setting h => exact h.sameSupply
  | membership _ h => exact h.sameSupply
  | _ => exact ⟨rfl, rfl⟩

theorem Changes.sameSupply {T : Nat → Prop} (h : Changes T s t) : s.SameSupply t := by
  induction h with
  | refl => exact ⟨rfl, rfl⟩
  | tail _ h ih => exact ⟨h.sameSupply.1.trans ih.1, h.sameSupply.2.trans ih.2⟩

theorem Changes.powered {T : Nat → Prop} (h : Changes T s t) : t.powered = s.powered := h.sameSupply.1

end Supply

/-! ### The rulings -/

section Rulings

variable {T : Nat → Prop} {s : State}

namespace Changes

theorem ruleChainLink (hp : s.powered = true) (p : PortId) (b : Nat × Nat) : Changes T s (s.ruleChainLink p b).state := by
  unfold State.ruleChainLink
  split
  · exact refl s
  · split
    · exact refl s
    · split
      · exact refl s
      · split
        · exact refl s
        · exact .single (.setting (.setLength hp _ _ _))

theorem enrolAt (hp : s.powered = true) (port : PortId) {p : Pos} {drop : Nat}
    (he : (s.posRec p).enrolment.isEnrolled = false)
    (hd : (s.posRec p).enrolment.drop = some drop ∨ (1 ≤ drop ∧ drop ≤ 31) ∧ s.dropTaken p drop = false)
    (hm : s.mayEnrol p = true) : Changes T s (s.enrolAt port p drop) :=
  (Changes.single (.membership hp (.enrolls port p drop he hd (State.mayEnrol_iff.mp hm).1))).trans (trigger _)

theorem ruleEnrol (hp : s.powered = true) (port : PortId) (b : Nat × Nat) : Changes T s (s.ruleEnrol port b).state := by
  obtain ⟨n, d⟩ := b
  unfold State.ruleEnrol
  split
  · exact refl s
  · next p _ =>
    dsimp only
    split
    · exact refl s
    · split
      · exact refl s
      · next hr ht =>
        have free (h0 : d ≠ 0) : (1 ≤ d ∧ d ≤ 31) ∧ s.dropTaken p d = false :=
          ⟨by omega, by simpa [h0] using ht⟩
        split
        · next he =>
          split
          · exact refl s
          · next h0 =>
            split
            · next hm => exact enrolAt hp port (by rw [he]; rfl) (.inr (free h0)) hm
            · exact refl s
        · next held c he =>
          split
          · next hm =>
            refine enrolAt hp port (by rw [he]; rfl) ?_ hm
            split
            · exact .inl (by rw [he]; rfl)
            · next h0 => exact .inr (free h0)
          · exact refl s
        · split
          · exact refl s
          · exact refl s

theorem takeOut (hp : s.powered = true) (port : PortId) {p : Pos} {drop : Nat} (vacate : Bool)
    (he : (s.posRec p).enrolment = .enrolled drop) (ho : (s.posRec p).owner = none)
    (hn : s.ctl.master.runs = true → 3 ≤ s.enrolledCount) : Changes T s (s.takeOut port p drop vacate) := by
  unfold State.takeOut
  split
  · exact (Changes.single (.membership hp (.vacates port p ho hn))).trans (trigger _)
  · exact (Changes.single (.membership hp (.excludes port p drop he ho hn))).trans (trigger _)

theorem takeOver (hp : s.powered = true) (port : PortId) {p : Pos} {drop : Nat} {cause : ExclCause}
    (he : (s.posRec p).enrolment = .excluded drop cause) : Changes T s (s.takeOver port p drop cause) := by
  cases cause with
  | operator => exact refl s
  | lost => exact .single (.membership hp (.takesOver port p drop he))

theorem ruleExclude (hp : s.powered = true) (port : PortId) (b : Nat × Nat) : Changes T s (s.ruleExclude port b).state := by
  unfold State.ruleExclude
  split
  · exact refl s
  · split
    · exact refl s
    · split
      · split
        · exact refl s
        · exact refl s
      · next he =>
        split
        · exact takeOver hp port he
        · exact .single (.membership hp (.vacateExcluded port _ (by rw [he]; rfl)))
      · next he =>
        split
        · exact refl s
        · next ho =>
          split
          · exact refl s
          · next hn =>
            exact takeOut hp port _ he (by simpa using ho) fun hr => by simpa [hr] using hn

theorem rulePlanOpen (hp : s.powered = true) (p : PortId) (b : OpenBody) : Changes T s (s.rulePlanOpen p b).state := by
  unfold State.rulePlanOpen
  split
  · next i h _ hh =>
    dsimp only
    split
    · exact refl s
    · next hl =>
      split
      · exact refl s
      · next hu =>
        split
        · exact refl s
        · split
          · exact refl s
          · next base hf =>
            have ranges : h.cOk ∧ 1 ≤ h.count := by
              unfold OpenBody.header at hh
              split at hh
              · split at hh
                · next hr =>
                  have := hr.1
                  simp only [OpenBody.rangesOk, inRange, Bool.and_eq_true, decide_eq_true_eq] at this
                  cases hh
                  exact ⟨⟨by simp; omega, by simp; omega⟩, by simp; omega⟩
                · cases hh
              · cases hh
            exact .single (.setting (.openSlot hp p i h base ranges.1 ranges.2 (by simpa using hl) (by simpa using hu) hf))
  · exact refl s

theorem rulePlanEntry (p : PortId) (b : EntryBody) : Changes T s (s.rulePlanEntry p b).state := by
  unfold State.rulePlanEntry
  split
  · exact refl s
  · split
    · next hb =>
      split
      · exact refl s
      · split
        · exact .single (.setting (.writeEntry _ _ _ _ _ hb))
        · exact refl s
    · exact refl s
    · exact refl s

theorem rulePlanDrop (hp : s.powered = true) (p : PortId) (n : Nat) : Changes T s (s.rulePlanDrop p n).state := by
  unfold State.rulePlanDrop
  split
  · exact refl s
  · split
    · exact refl s
    · next hl =>
      split
      · exact refl s
      · next hu => exact .single (.setting (.dropSlot hp p _ (by simpa using hl) (by simpa using hu)))

theorem rulePlanLock (hp : s.powered = true) (p : PortId) (n : Nat) : Changes T s (s.rulePlanLock p n).state := by
  unfold State.rulePlanLock
  split
  · exact refl s
  · dsimp only
    split
    · exact refl s
    · split
      · exact refl s
      · exact .single (.setting (.setLocked hp p _ true fun _ => rfl))

theorem rulePlanUnlock (hp : s.powered = true) (p : PortId) (n : Nat) : Changes T s (s.rulePlanUnlock p n).state := by
  unfold State.rulePlanUnlock
  split
  · exact refl s
  · split
    · exact refl s
    · next h0 =>
      split
      · exact .single (.setting (.setLocked hp p _ false fun h => absurd h h0))
      · exact refl s

theorem rulePlanSelect (n : Nat) : Changes T s (s.rulePlanSelect n).state := by
  unfold State.rulePlanSelect
  split
  · exact refl s
  · split
    · exact refl s
    · next hr =>
      split
      · next hc => exact .single (.setting (.select _ (by simpa using hr) hc))
      · exact refl s

theorem ruleStart : Changes T s s.ruleStart.state := by
  unfold State.ruleStart
  split
  · exact refl s
  · split
    · exact refl s
    · next hn =>
      split
      · exact changeMaster fun _ => .inr (Nat.not_lt.mp hn)
      · exact refl s

theorem ruleStop : Changes T s s.ruleStop.state := by
  have idle : Changes T s (s.changeMaster .idle) := changeMaster fun h => by simp at h
  unfold State.ruleStop
  split
  iterate 2 exact idle
  iterate 3 exact refl s

theorem setHeld (b : Bool) : Changes T s (s.setHeld b) := aside (.setCtl s rfl rfl)

theorem ruleHold : Changes T s s.ruleHold.state := (setHeld true).trans (holdRaised _)

theorem ruleResume : Changes T s s.ruleResume.state := (setHeld false).trans (holdWithdrawn _)

theorem ruleFallback : Changes T s s.ruleFallback.state := by
  unfold State.ruleFallback
  split
  iterate 3 exact enterFallback s _
  iterate 2 exact refl s

theorem rulePolicy (hp : s.powered = true) (p : PortId) (n : Nat) : Changes T s (s.rulePolicy p n).state := by
  unfold State.rulePolicy
  split
  · exact refl s
  · split
    · exact refl s
    · exact .single (.setting (.setPolicy hp p _))

theorem ruleTimebase (hp : s.powered = true) (p : PortId) (n : Nat) : Changes T s (s.ruleTimebase p n).state := by
  unfold State.ruleTimebase
  split
  · exact refl s
  · exact .single (.setting (.applyTimebase hp p _))

theorem ruleBeaconSet (hp : s.powered = true) (p : PortId) (n : Nat) : Changes T s (s.ruleBeaconSet p n).state := by
  unfold State.ruleBeaconSet
  split
  · exact refl s
  · split
    · exact refl s
    · exact .single (.setting (.setInterval hp p n))

theorem ruleCompute : Changes T s s.ruleCompute.state := by
  unfold State.ruleCompute
  split
  · split
    · exact trigger s
    · exact trigger s
  · exact refl s

/-- Ascending positions are listed once. -/
theorem nodup_of_ascending {l : List Seizure} (h : ascending l = true) : (l.map (·.pos)).Nodup := by
  have sorted : l.IsChain fun a b => a.pos < b.pos := by
    induction l with
    | nil => exact .nil
    | cons a l ih =>
      cases l with
      | nil => exact .singleton a
      | cons b l =>
        simp only [ascending, Bool.and_eq_true, decide_eq_true_eq] at h
        exact .cons_cons h.1 (ih h.2)
  have pairwise : (l.map (·.pos)).Pairwise (· < ·) :=
    List.isChain_iff_pairwise.mp ((List.isChain_map Seizure.pos).mpr sorted)
  exact pairwise.imp fun h => ne_of_lt h

theorem config_nodup {b : VectorBody} {c : VectorCfg} (h : b.config = some c) : (c.list.map (·.pos)).Nodup := by
  unfold VectorBody.config at h
  split at h
  · cases h
  · cases h; exact List.nodup_nil
  · split at h
    · cases h
    · split at h
      · next ha => cases h; exact nodup_of_ascending ha.2.2.1
      · cases h

theorem ruleVectorSet (hp : s.powered = true) (p : PortId) (b : VectorBody) : Changes T s (s.ruleVectorSet p b).state := by
  unfold State.ruleVectorSet
  split
  · next hc =>
    split
    · exact refl s
    · next ha => exact .single (.setting (.setVector hp p _ _ (by simpa using ha) (config_nodup hc)))
  · exact refl s

theorem ruleLineSet (hp : s.powered = true) (p : PortId) (t : Nat) (b : LineBody) :
    Changes T s (s.ruleLineSet p t b).state := by
  unfold State.ruleLineSet
  split
  · split
    · exact refl s
    · exact .single (.setting (.reconfigureLine hp p t _ _))
  · exact refl s

theorem rulePreCall (n : Nat) : Changes T s (s.rulePreCall n).state := by
  unfold State.rulePreCall
  split
  · exact refl s
  · dsimp only
    split
    · exact refl s
    · split
      · exact refl s
      · split
        · exact refl s
        · next ha => exact .single (.activate _ .call (by simpa using ha))

theorem rulePreClear (n : Nat) : Changes T s (s.rulePreClear n).state := by
  unfold State.rulePreClear
  split
  · exact refl s
  · split
    · exact .single (.endCause _ .clear)
    · exact refl s

theorem ruleAlertEnable (hp : s.powered = true) (p : PortId) (b : List Byte) :
    Changes T s (s.ruleAlertEnable p b).state := by
  unfold State.ruleAlertEnable
  split
  · exact refl s
  · exact .single (.setting (.setEnables hp p _))

theorem ruleAlertClear (b : List Byte) : Changes T s (s.ruleAlertClear b).state := by
  unfold State.ruleAlertClear
  split
  · exact refl s
  · exact refl s
  · exact aside (.setFaults s rfl rfl rfl)

theorem ruleNamed {α : Type} (find : Nat → Option α) (record : State → α → List Byte) (n : Nat) :
    Changes T s (s.ruleNamed find record n).state := by
  unfold State.ruleNamed
  split
  · exact refl s
  · exact refl s

theorem ruleQPool (b : Nat × Nat) : Changes T s (s.ruleQPool b).state := by
  unfold State.ruleQPool
  split
  · exact refl s
  · exact refl s

/-! ### The lines -/

theorem setLine (k : LineIx) {l : PLine} (h : l.cfg = (s.pre.lines.get k).cfg) : Changes T s (s.setLine k l) :=
  aside (.setLine s h)

theorem settleLine (k : LineIx) : Changes T s (s.settleLine k) := by
  have lined (l : PLine) (h : l.cfg = (s.pre.lines.get k).cfg) : Changes T s (s.setLine k l) := aside (.setLine s h)
  have started (u : State) (v : VecIx) (h : s.mayStart v = true) (hu : u.causeActive v = s.causeActive v) :
      Changes T u (u.activate v .line) := by
    simp only [Bool.and_eq_true, State.mayStart, Bool.not_eq_true'] at h
    exact .single (.activate v .line (hu.trans h.1.2))
  have ended (u : State) (v : VecIx) : Changes T u (u.endCause v .line) := .single (.endCause v .line)
  unfold State.settleLine
  extract_lets l v done s1 s2
  split
  · split
    · exact lined _ rfl
    · have turned : Changes T s s1 := lined _ rfl
      have causes : s1.causeActive v = s.causeActive v := rfl
      clear_value s1
      split
      · next h => exact turned.trans (started _ _ (Bool.and_eq_true_iff.mp h).2 causes)
      · exact turned
  · have turned : Changes T s s2 := lined _ rfl
    clear_value s2
    split
    · exact turned.trans (ended _ _)
    · exact turned

theorem settleLineAt (k : LineIx) (t : Nat) : Changes T s (s.settleLineAt k t) := by
  unfold State.settleLineAt
  dsimp only
  split
  · exact settleLine k
  · exact refl s

theorem inputChange (l : LineId) (high : Bool) : Changes T s (s.inputChange l high) := by
  unfold State.inputChange
  split
  · exact refl s
  · exact aside (.setInput s l _)

theorem settleAtOnce (l : LineId) : Changes T s (s.settleAtOnce l) := by
  cases l with
  | preempt k =>
    show Changes T s (if _ then _ else _)
    split
    · exact settleLineAt k _
    · exact refl s
  | hold => exact refl s
  | detach => exact refl s
  | key => exact refl s

theorem holdLineAt (high : Bool) (t : Nat) : Changes T s (s.holdLineAt high t) := by
  have turned : Changes T s (s.setCtl (s.ctl.setHoldLine (s.ctl.holdLine.settled high))) := aside (.setCtl s rfl rfl)
  unfold State.holdLineAt
  dsimp only
  split
  · split
    · exact turned
    · split
      · exact turned.trans (holdRaised _)
      · exact turned.trans (holdWithdrawn _)
  · exact refl s

theorem enterDetached : Changes T s s.enterDetached := by
  have entered (m : Resume) : Changes T s (s.changeMaster (.detached m)).cutExchange :=
    (changeMaster fun h => by simp at h).trans (setTrunk _ _)
  unfold State.enterDetached
  split
  · exact refl s
  · exact entered _

theorem leaveDetached : Changes T s s.leaveDetached := by
  unfold State.leaveDetached
  split
  · exact depart s _
  · exact refl s

theorem detachLineAt (high : Bool) (t : Nat) : Changes T s (s.detachLineAt high t) := by
  have turned : Changes T s (s.setCtl (s.ctl.setDetachLine (s.ctl.detachLine.settled high))) := aside (.setCtl s rfl rfl)
  unfold State.detachLineAt
  dsimp only
  split
  · split
    · exact turned
    · split
      · exact turned.trans enterDetached
      · exact turned.trans leaveDetached
  · exact refl s

theorem keyLineAt (high : Bool) (t : Nat) : Changes T s (s.keyLineAt high t) := by
  unfold State.keyLineAt
  dsimp only
  split
  · exact aside (.setCtl s rfl rfl)
  · exact refl s

/-! ### The timebase -/

theorem setTimebase {tb : Timebase} {len : Nat}
    (h : TimebaseOk s.clock.tb s.clock.pref s.clock.dsLength → TimebaseOk tb s.clock.pref len) :
    Changes T s (s.setTimebase tb len) := .single (.setting (.timebase h))

theorem pulseAcquiring {n : Nat} {prev : Option Nat} (t : Nat) (h : s.clock.tb = .acquiring n prev) :
    Changes T s (s.pulseAcquiring n prev t) := by
  have again (m : Nat) (hm : m ≤ 7) : Changes T s (s.setTimebase (.acquiring m (some t)) s.clock.dsLength) :=
    setTimebase fun ok => by
      obtain ⟨hp, hd⟩ := ok
      rw [h] at hp hd
      exact ⟨⟨nofun, fun e => by simp [e] at hp⟩, hm, hd.2⟩
  have count : TimebaseOk s.clock.tb s.clock.pref s.clock.dsLength → n ≤ 7 := fun ok => by
    rw [h] at ok; exact ok.2.1
  unfold State.pulseAcquiring
  split
  · exact again 0 (by omega)
  · next q =>
    split
    · next good =>
      split
      · refine (setTimebase fun ok => ?_).trans (alert _ _)
        obtain ⟨hp, -⟩ := ok
        rw [h] at hp
        simp only [goodInterval, decide_eq_true_eq] at good
        exact ⟨⟨nofun, fun e => by simp [e] at hp⟩, good.1, good.2, rfl⟩
      · next h8 =>
        refine setTimebase fun ok => ?_
        have := count ok
        obtain ⟨hp, hd⟩ := ok
        rw [h] at hp hd
        exact ⟨⟨nofun, fun e => by simp [e] at hp⟩, by omega, hd.2⟩
    · exact again 0 (by omega)

theorem referenceLoss (cause : RefCause) (prev : Option Nat) : Changes T s (s.referenceLoss cause prev) := by
  have offered : Changes T s (s.fault (.referenceLost cause)) := fault s _
  unfold State.referenceLoss
  extract_lets s1
  have pref : s1.clock.pref = s.clock.pref := rfl
  split
  · next h =>
    refine (offered.trans (setTimebase fun _ => ?_)).trans (alert _ _)
    exact ⟨⟨fun _ => by rw [← h, pref]; rfl, fun _ => rfl⟩, rfl⟩
  · next h =>
    have passed : (s1.setTimebase (.acquiring 0 prev) internalLength).alert .timebase =
        (((s.fault (.referenceLost cause)).setTimebase (.acquiring 0 prev) internalLength).alert .timebase).alert
          .timebase := rfl
    rw [passed]
    refine ((offered.trans (setTimebase fun _ => ?_)).trans (alert _ _)).trans (alert _ _)
    have : (s.fault (.referenceLost cause)).clock.pref = .preferReference := by rw [← h, pref]; rfl
    exact ⟨⟨nofun, fun e => nomatch this.symm.trans e⟩, by omega, rfl⟩

theorem refPulseAt (t : Nat) : Changes T s (s.refPulseAt t) := by
  unfold State.refPulseAt
  split
  · exact refl s
  · next h => exact pulseAcquiring t h
  · next h =>
    split
    · next good =>
      refine setTimebase fun ok => ?_
      obtain ⟨hp, -⟩ := ok
      rw [h] at hp
      simp only [goodInterval, decide_eq_true_eq] at good
      exact ⟨⟨nofun, fun e => by simp [e] at hp⟩, good.1, good.2, rfl⟩
    · exact referenceLoss _ _

theorem silenceAt (t : Nat) : Changes T s (s.silenceAt t) := by
  unfold State.silenceAt
  split
  · split
    · exact referenceLoss _ _
    · exact refl s
  · exact refl s
  · exact refl s

/-! ### The completion -/

theorem readRecompute : Changes T s s.readRecompute := by
  unfold State.readRecompute
  split
  · exact startComputation s
  · exact refl s

theorem targetEvents (l : List BandEntry) (h : ∀ e, e ∈ l → T e.target) : Changes T s (s.targetEvents l) := by
  unfold State.targetEvents
  induction l generalizing s with
  | nil => exact refl s
  | cons e l ih =>
    exact (putSeek (.target (h e (.head _)))).trans (ih fun e' he' => h e' (.tail _ he'))

end Changes

end Rulings

end Sys2Proof.Machine
end

section
/-! Every command takes `Steps`. -/

namespace Sys2Proof.Machine

theorem modC_lt (a : Int) {c : Nat} (h : 0 < c) : modC a c < c := by
  have := Int.emod_lt_of_pos a (by exact_mod_cast h : (0 : Int) < c)
  have := Int.emod_nonneg a (by exact_mod_cast h.ne' : (c : Int) ≠ 0)
  unfold modC
  omega

theorem Computation.record_target_lt {x : Computation} (hc : 0 < x.snap.c) {e : BandEntry} (he : e ∈ x.record.entries) :
    e.target < x.snap.c := by
  have entry : ∃ y : Chosen, y.entry x.snap.c = e := by
    unfold Computation.record at he
    dsimp only at he
    split at he <;> simp only [List.mem_reverse, List.mem_map] at he <;> obtain ⟨y, -, rfl⟩ := he <;> exact ⟨y, rfl⟩
  obtain ⟨y, rfl⟩ := entry
  exact modC_lt _ hc

/-- A target is written by the completion of a computation whose plan tag is in force. -/
theorem State.targets_of_accepted {s : State} {x : Computation} (hx : s.band.inFlight = some x)
    (hj : s.judge x = .accepted) {e : BandEntry} (he : e ∈ x.record.entries) : s.Targets e.target := by
  refine ⟨x, hx, ?_, fun hc => Computation.record_target_lt hc he⟩
  by_contra h
  simp [State.judge, h] at hj

/-- Taking a request touches nothing else than its port before and after the ruling. -/
theorem State.serve_cases (s : State) (p : PortId) (f : Frame) (rule : SenderClass → State → Ruling)
    (after : ReplyCode → State → State) : s.serve p f rule after = s ∨
      ∃ q, s.serve p f rule after =
        after (rule (s.senderClass p) (s.setPort p q)).answer.code
          ((rule (s.senderClass p) (s.setPort p q)).state.putReply p f (s.senderClass p)
            (rule (s.senderClass p) (s.setPort p q)).answer) := by
  unfold State.serve
  split
  · exact .inl rfl
  · exact .inr ⟨_, rfl⟩

/-- The checks before the owning block leave the state as it is. -/
theorem checkThenOwn_cases {α : Type} (fieldMay : Bool) (parse : List Byte → Option α) (own : α → State → Ruling)
    (body : List Byte) (cls : SenderClass) (s : State) :
    (∃ c, checkThenOwn fieldMay parse own body cls s = s.refuse c ∧ c ≠ .ok) ∨
      ∃ a, parse body = some a ∧ checkThenOwn fieldMay parse own body cls s = own a s := by
  unfold checkThenOwn
  split
  · exact .inl ⟨_, rfl, nofun⟩
  · next a h =>
    split
    · exact .inl ⟨_, rfl, nofun⟩
    · exact .inr ⟨a, h, rfl⟩

theorem State.Aside.trans {s t u : State} (h : s.Aside t) (k : t.Aside u) : s.Aside u where
  pos := k.pos.trans h.pos
  lengths l := (k.lengths l).trans (h.lengths l)
  plans := k.plans.trans h.plans
  clock := k.clock.trans h.clock
  inFlight := k.inFlight.trans h.inFlight
  causes := k.causes.trans h.causes
  vectors := k.vectors.trans h.vectors
  lineCfgs j := (k.lineCfgs j).trans (h.lineCfgs j)
  master := k.master.trans h.master
  policy := k.policy.trans h.policy
  first := k.first.trans h.first
  next := k.next.trans h.next
  enabled := k.enabled.trans h.enabled
  store := k.store.trans h.store
  unfinished := k.unfinished.elim (fun e => e ▸ h.unfinished) .inr
  powered := k.powered.trans h.powered
  pending := k.pending.trans h.pending

theorem State.Aside.putReply (s : State) (p : PortId) (f : Frame) (cls : SenderClass) (a : Answer) :
    s.Aside (s.putReply p f cls a) := .setPort s p _

/-- What a command does when it is a request: a run of changes around the ruling of its block. -/
theorem Changes.request {T : Nat → Prop} {α : Type} {p : PortId} {kind : Byte} {fieldMay : Bool}
    {parse : List Byte → Option α} {own : α → State → Ruling} {tag : Byte} {body : List Byte} {s : State}
    (hp : s.powered = true) (h : ∀ a u, u.powered = true → Changes T u (own a u).state) :
    Changes T s (s.request p kind fieldMay parse own tag body) := by
  unfold State.request
  obtain e | ⟨q, e⟩ := s.serve_cases p { kind, tag, body } (checkThenOwn fieldMay parse own body) noMore
  · rw [e]
  · rw [e]
    have taken : Changes T s (s.setPort p q) := .aside (.setPort s p q)
    refine (taken.trans ?_).trans (.aside (.putReply _ _ _ _ _))
    obtain ⟨c, e, -⟩ | ⟨a, -, e⟩ := checkThenOwn_cases fieldMay parse own body (s.senderClass p) (s.setPort p q)
    · rw [e]; exact .refl _
    · rw [e]; exact h a _ (by simpa using hp)

namespace Steps

variable {s t : State}

/-- A command that acts under supply alone. -/
theorem of_powered {f : State → State} (h : Sys2Proof.Machine.powered f s = .next t)
    (hf : s.powered = true → Steps s (f s)) : Steps s t := by
  unfold Sys2Proof.Machine.powered at h
  cases h
  split
  · next hp => exact hf hp
  · exact .run (.refl s)

theorem of_changes {f : State → State} (h : Sys2Proof.Machine.powered f s = .next t)
    (hf : s.powered = true → Changes s.Targets s (f s)) : Steps s t := of_powered h fun hp => .run (hf hp)

theorem of_request {α : Type} {p : PortId} {kind : Byte} {fieldMay : Bool} {parse : List Byte → Option α}
    {own : α → State → Ruling} {tag : Byte} {body : List Byte}
    (h : Sys2Proof.Machine.powered (State.request p kind fieldMay parse own tag body) s = .next t)
    (ho : ∀ a u, u.powered = true → Changes s.Targets u (own a u).state) : Steps s t :=
  of_changes h fun hp => .request hp ho

/-- A query. -/
theorem of_query {p : PortId} {kind : Byte} {record : State → List Byte} {tag : Byte} {body : List Byte}
    (h : Sys2Proof.Machine.powered (State.request p kind true noFields (fun _ s => s.grant (record s)) tag body) s = .next t) :
    Steps s t := of_request h fun _ u _ => .refl u

theorem of_timed {f : Nat → State → State} {time : Nat}
    (h : Sys2Proof.Machine.powered (State.timed time f) s = .next t) (hf : ∀ n u, Changes s.Targets u (f n u)) :
    Steps s t :=
  of_changes h fun _ => .trans (.aside (.timeAt s time)) (hf _ _)

/-- PLAN-CLOSE changes nothing or closes a slot. -/
theorem planClose {p : PortId} {tag : Byte} {body : List Byte} (h : execPlanClose p tag body s = .next t) : Steps s t := by
  refine of_powered h fun hp => ?_
  unfold State.request
  obtain e | ⟨q, e⟩ := s.serve_cases p { kind := 6, tag, body } (checkThenOwn false oneByte (State.rulePlanClose p) body) noMore
  · rw [e]; exact .run (.refl s)
  · rw [e]
    have taken : s.Aside (s.setPort p q) := .setPort s p q
    have unruled {r : Ruling} (hr : r.state = s.setPort p q) :
        Steps s (r.state.putReply p { kind := 6, tag, body } (s.senderClass p) r.answer) := by
      rw [hr]
      exact .run (.aside (taken.trans (.putReply _ _ _ _ _)))
    obtain ⟨c, e, -⟩ | ⟨n, -, e⟩ :=
      checkThenOwn_cases false oneByte (State.rulePlanClose p) body (s.senderClass p) (s.setPort p q)
    · rw [e]; exact unruled rfl
    · rw [e]
      unfold State.rulePlanClose
      split
      · exact unruled rfl
      · split
        · next hb =>
          split
          · exact unruled rfl
          · split
            · exact unruled rfl
            · next hf =>
              exact .close taken (by simpa using hp) hb hf (.putReply _ _ _ _ _)
        · exact unruled rfl
        · exact unruled rfl

/-- RESTART. -/
theorem restartRequest {p : PortId} {tag : Byte} {body : List Byte} (h : execRestart p tag body s = .next t) : Steps s t := by
  refine of_powered h fun hp => ?_
  obtain e | ⟨q, e⟩ := s.serve_cases p { kind := 27, tag, body } (checkThenOwn false noFields (fun _ s => s.grant []) body)
    (restartAfter p)
  · rw [e]; exact .run (.refl s)
  · rw [e]
    have taken : s.Aside (s.setPort p q) := .setPort s p q
    obtain ⟨c, e, hc⟩ | ⟨_, -, e⟩ :=
      checkThenOwn_cases false noFields (fun _ s => s.grant []) body (s.senderClass p) (s.setPort p q)
    · rw [e]
      simp only [restartAfter, State.refuse, hc, if_false]
      exact .run (.aside (taken.trans (.putReply _ _ _ _ _)))
    · rw [e]
      exact .restart ((taken.trans (.putReply _ _ _ _ _)).trans (.endReply _ p))

/-- ERASE. -/
theorem eraseRequest {p : PortId} {tag : Byte} {body : List Byte} (h : execErase p tag body s = .next t) : Steps s t := by
  refine of_powered h fun hp => ?_
  obtain e | ⟨q, e⟩ := s.serve_cases p { kind := 28, tag, body }
    (checkThenOwn false noFields (fun _ s => (s.eraseStore p).grant []) body) (eraseAfter p)
  · rw [e]; exact .run (.refl s)
  · rw [e]
    have taken : s.Aside (s.setPort p q) := .setPort s p q
    obtain ⟨c, e, hc⟩ | ⟨_, -, e⟩ :=
      checkThenOwn_cases false noFields (fun _ s => (s.eraseStore p).grant []) body (s.senderClass p) (s.setPort p q)
    · rw [e]
      simp only [eraseAfter, State.refuse, hc, if_false]
      exact .run (.aside (taken.trans (.putReply _ _ _ _ _)))
    · rw [e]
      exact .erase (p := p) taken ((State.Aside.putReply _ _ _ _ _).trans (.endReply _ p))

/-! ### The completion -/

theorem completion : Changes s.Targets s s.completeComputation := by
  unfold State.completeComputation
  split
  · exact .refl s
  · next x hx =>
    suffices Changes s.Targets s (s.concludeAs (s.judge x) x) from this.trans .readRecompute
    have concluded {b : Band} (h : b.inFlight = none) : Changes s.Targets s (s.setBand b) := .single (.conclude h)
    unfold State.concludeAs
    extract_lets src b
    have gone : b.inFlight = none := rfl
    split
    · next hj =>
      exact ((concluded (b := { b with last := some x.record }) gone).trans (.targetEvents _ fun e he => State.targets_of_accepted hx hj he)).trans (.alert _ _)
    · exact concluded gone
    · split
      · exact (concluded gone).trans (.fault _ _)
      · exact concluded gone

/-! ### The boundary of a decisecond -/

theorem boundary {o : BoundaryOrder} (hp : s.powered = true) : Steps s (s.boundary o) := by
  have before {T} : Changes T s (s.holdAt .beforeClock o) := .holdAt s _ _
  unfold State.boundary State.tick
  generalize s.holdAt .beforeClock o = u at before
  have hu : u.powered = true := (before (T := NoTarget)).powered.trans hp
  split
  · unfold State.rollover
    extract_lets activated
    have measured {T} (v : State) (a : Bool) : Changes T v ((v.measureAndTrigger a o.band).holdAt .afterAll o) :=
      (Changes.measureAndTrigger v a o.band).trans (.holdAt _ _ _)
    cases ha : activated with
    | false =>
      have none : u.plans.pendingSlot = none := by simpa [activated] using ha
      have turned : Changes s.Targets u (u.turnCycle.holdAt .beforeSeeks o) :=
        (Changes.single (.setting (.turnCycle none))).trans (.holdAt _ _ _)
      have fanned (v : State) : Changes s.Targets v (v.fanOut false) :=
        (Changes.trunkRollover v).trans (.single .seekRollover)
      exact .run ((before.trans turned).trans ((fanned _).trans ((Changes.holdAt _ _ _).trans (measured _ _))))
    | true =>
      have turned : Changes NoTarget u.turnCycle (u.turnCycle.holdAt .beforeSeeks o).trunkRollover :=
        (Changes.holdAt _ _ _).trans (.trunkRollover _)
      have after (v : State) : Changes NoTarget v (v.seekRollover.alert .plan) :=
        (Changes.single .seekRollover).trans (.alert _ _)
      exact .activation before hu ha turned ((after _).trans ((Changes.holdAt _ _ _).trans (measured _ _)))
  · next hc =>
    exact .run (before.trans (((Changes.advance hc).trans (.holdAt _ _ _)).trans ((Changes.holdAt _ _ _).trans
      (.holdAt _ _ _))))

/-! ### The trunk -/

section Attempts

variable {u : State} (h : ∀ T, Changes T s u) (hp : s.powered = true)
include h

theorem of_any : Steps s u := .run (h _)

include hp

theorem handLoss (p : Pos) : Steps s (u.handLoss p) := by
  have hu : u.powered = true := (h NoTarget).powered.trans hp
  unfold State.handLoss
  split
  · unfold State.lossExclude
    split
    · next he => exact .loss (h _) hu he (.trigger _)
    · exact of_any h
    · exact of_any h
  · exact of_any fun T => (h T).trans (.fallbackUnlessOut _ _)

theorem missStep (p : Pos) : Steps s (u.missStep p) := by
  have counted (T) : Changes T s (u.countMiss p) := (h T).trans (.countMiss _ _)
  unfold State.missStep
  dsimp only
  split
  · exact handLoss counted hp p
  · exact of_any counted

theorem missOrder (p : Pos) : Steps s (u.missOrder p) := by
  have counted (T) : Changes T s (u.countMiss p) := (h T).trans (.countMiss _ _)
  unfold State.missOrder
  dsimp only
  split
  · exact handLoss counted hp p
  · exact of_any counted

theorem orderFailed (p : Pos) : Steps s (u.orderFailed p) := by
  unfold State.orderFailed
  split
  · exact of_any h
  · split
    · dsimp only
      split
      · exact missOrder (fun T => ((h T).trans (.setOrder _ _ _)).trans (.fault _ _)) hp p
      · exact missOrder (fun T => (h T).trans (.setOrder _ _ _)) hp p
    · exact missOrder h hp p

theorem attemptFailed (x : Exchange) : Steps s (u.attemptFailed x) := by
  have free (T) : Changes T s u.endExchange := (h T).trans (.setTrunk _ _)
  have failed (T) : Changes T s (u.endExchange.stepFailure x.pos) := (free T).trans (.stepFailure _ _)
  have done (T) : Changes T s (u.endExchange.probeOver x.pos) := (free T).trans (.setTrunk _ _)
  unfold State.attemptFailed
  dsimp only
  split
  · exact orderFailed free hp _
  · exact orderFailed free hp _
  · split
    · exact missStep failed hp _
    · split
      · exact of_any fun T => (h T).trans (.sendStep _ _ _ _)
      · exact of_any failed
  · split
    · exact of_any done
    · split
      · exact of_any fun T => (h T).trans (.sendAttempt _ _ _ _ _ _)
      · exact of_any done

end Attempts

theorem receiveFrame (hp : s.powered = true) (addr kind : Byte) (body : List Byte) :
    Steps s (s.receiveFrame addr kind body) := by
  unfold State.receiveFrame
  split
  · exact .run (.refl s)
  · split
    · exact .run (.accept s _ _)
    · exact attemptFailed (fun T => .setTrunk s _) hp _

theorem badCheck (hp : s.powered = true) : Steps s s.badCheck := by
  unfold State.badCheck
  split
  · exact .run (.setTrunk s _)
  · exact attemptFailed (fun T => .setTrunk s _) hp _

theorem windowExpires (hp : s.powered = true) : Steps s s.windowExpires := by
  unfold State.windowExpires
  split
  · exact .run (.refl s)
  · exact attemptFailed (fun T => .setTrunk s _) hp _

end Steps

/-- Every command takes the steps that `Steps` names. -/
theorem exec_steps (c : Instr) {s t : State} (h : exec c s = .next t) : Steps s t := by
  cases c with
  | chainLink p tag body => exact .of_request h fun b u hp => .ruleChainLink hp p b
  | enrol p tag body => exact .of_request h fun b u hp => .ruleEnrol hp p b
  | exclude p tag body => exact .of_request h fun b u hp => .ruleExclude hp p b
  | planOpen p tag body => exact .of_request h fun b u hp => .rulePlanOpen hp p b
  | planEntry p tag body => exact .of_request h fun b u _ => .rulePlanEntry p b
  | planClose p tag body => exact .planClose h
  | planDrop p tag body => exact .of_request h fun b u hp => .rulePlanDrop hp p b
  | planLock p tag body => exact .of_request h fun b u hp => .rulePlanLock hp p b
  | planUnlock p tag body => exact .of_request h fun b u hp => .rulePlanUnlock hp p b
  | planSelect p tag body => exact .of_request h fun b u _ => .rulePlanSelect b
  | start p tag body => exact .of_request h fun _ u _ => .ruleStart
  | stop p tag body => exact .of_request h fun _ u _ => .ruleStop
  | hold p tag body => exact .of_request h fun _ u _ => .ruleHold
  | resume p tag body => exact .of_request h fun _ u _ => .ruleResume
  | fallback p tag body => exact .of_request h fun _ u _ => .ruleFallback
  | policy p tag body => exact .of_request h fun b u hp => .rulePolicy hp p b
  | timebase p tag body => exact .of_request h fun b u hp => .ruleTimebase hp p b
  | beaconSet p tag body => exact .of_request h fun b u hp => .ruleBeaconSet hp p b
  | compute p tag body => exact .of_request h fun _ u _ => .ruleCompute
  | vectorSet p tag body => exact .of_request h fun b u hp => .ruleVectorSet hp p b
  | lineSet p tag body => exact .of_request h fun b u hp => .ruleLineSet hp p body.time b
  | preCall p tag body => exact .of_request h fun b u _ => .rulePreCall b
  | preClear p tag body => exact .of_request h fun b u _ => .rulePreClear b
  | faultClear p tag body => exact .of_request h fun _ u _ => .single .clearFaults
  | alertEnable p tag body => exact .of_request h fun b u hp => .ruleAlertEnable hp p b
  | alertClear p tag body => exact .of_request h fun b u _ => .ruleAlertClear b
  | restart p tag body => exact .restartRequest h
  | erase p tag body => exact .eraseRequest h
  | qStatus p tag body => exact .of_query h
  | qChain p tag body => exact .of_query h
  | qJunction p tag body => exact .of_request h fun b u _ => .ruleNamed _ _ b
  | qPlan p tag body => exact .of_request h fun b u _ => .ruleNamed _ _ b
  | qPool p tag body => exact .of_request h fun b u _ => .ruleQPool b
  | qMeasure p tag body => exact .of_request h fun b u _ => .ruleNamed _ _ b
  | qBand p tag body => exact .of_query h
  | qPre p tag body => exact .of_query h
  | qFault p tag body => exact .of_query h
  | qAlert p tag body => exact .of_query h
  | unknownKind p kind tag body =>
    replace h : execUnknownKind p kind tag body s = .next t := h
    unfold execUnknownKind at h
    refine .of_changes h fun _ => ?_
    split
    · exact .refl s
    · obtain e | ⟨q, e⟩ := s.serve_cases p { kind, tag, body } (fun _ s => s.refuse .unknownKind) noMore
      · rw [e]
      · rw [e]; exact .aside ((State.Aside.setPort s p q).trans (.putReply _ _ _ _ _))
  | portFrame p bytes => exact .of_changes h fun _ => .aside (.setPort s p _)
  | portPause p => exact .of_changes h fun _ => .aside (.setPort s p _)
  | replyEnd p => exact .of_changes h fun _ => .aside (.endReply s p)
  | alertRecord =>
    refine .of_changes h fun _ => ?_
    unfold State.alertOut
    split
    · refine .aside (.setFaults s ?_ ?_ ?_) <;> unfold FaultUnit.sendAlert <;> split <;> rfl
    · exact .refl s
  | powerOn => cases h; exact .restart (.refl s)
  | decisecond o => exact .of_powered h .boundary
  | rollover o =>
    refine .of_powered h fun hp => ?_
    split
    · exact .boundary hp
    · exact .run (.refl s)
  | refPulse time => exact .of_timed h fun n u => .refPulseAt n
  | silenceLimit time => exact .of_timed h fun n u => .silenceAt n
  | lineInputChange l high time =>
    cases h
    split
    · exact .run (((Changes.aside (.timeAt s time)).trans (.inputChange l high)).trans (.settleAtOnce l))
    · exact .run (.inputChange l high)
  | preLineSettle k time => exact .of_timed h fun n u => .settleLineAt k n
  | holdLineActive time => exact .of_timed h fun n u => .holdLineAt _ n
  | holdLineInactive time => exact .of_timed h fun n u => .holdLineAt _ n
  | detachLineActive time => exact .of_timed h fun n u => .detachLineAt _ n
  | detachLineInactive time => exact .of_timed h fun n u => .detachLineAt _ n
  | keyLineActive time => exact .of_timed h fun n u => .keyLineAt _ n
  | keyLineInactive time => exact .of_timed h fun n u => .keyLineAt _ n
  | causeExpiry v =>
    replace h : execCauseExpiry v s = .next t := h
    unfold execCauseExpiry at h
    refine .of_changes h fun _ => ?_
    split
    · split
      · exact .expire s v
      · exact .refl s
    · exact .refl s
  | computationCompletion => exact .of_changes h fun _ => Steps.completion
  | beacon =>
    replace h : execBeacon s = .next t := h
    unfold execBeacon at h
    refine .of_changes h fun _ => ?_
    split
    · exact (Changes.setTrunk s _).trans (.setTrunk _ _)
    · exact .refl s
  | stepFrame =>
    replace h : execStepFrame s = .next t := h
    unfold execStepFrame at h
    refine .of_changes h fun _ => ?_
    split
    · exact (Changes.setTrunk s _).trans (.grantStep _ _)
    · exact .refl s
  | preemptFrame => exact .of_changes h fun _ => .grantOrder s _
  | releaseFrame => exact .of_changes h fun _ => .grantOrder s _
  | probeFrame =>
    replace h : execProbeFrame s = .next t := h
    unfold execProbeFrame at h
    refine .of_changes h fun _ => ?_
    split
    · exact (Changes.setTrunk s _).trans (.grantProbe _)
    · exact .refl s
  | report addr body => exact .of_powered h fun hp => .receiveFrame hp _ _ _
  | ack addr body => exact .of_powered h fun hp => .receiveFrame hp _ _ _
  | answer addr body => exact .of_powered h fun hp => .receiveFrame hp _ _ _
  | trunkBadFrame f =>
    replace h : execTrunkBadFrame f s = .next t := h
    unfold execTrunkBadFrame at h
    refine .of_powered h fun hp => ?_
    split
    · exact .badCheck hp
    · exact .receiveFrame hp _ _ _
  | responseWindowExpiry => exact .of_powered h .windowExpires
  | receiveBufferFull p byte =>
    refine .of_changes h fun _ => ?_
    split
    · exact .aside (.setPort s p _)
    · exact .refl s
  | powerLoss torn => exact .of_powered h fun _ => .losePower torn

end Sys2Proof.Machine
end

section
/-! The configuration store mirrors the running configuration (R167): every change leaves both alone or writes both alike. -/

namespace Sys2Proof.Machine

variable {s t : State}

/-! ### What a change does to the store and the configuration -/

/-- From `s` to `t` the store and the running configuration are untouched, but for a store write that may become complete; or the
same rewriting is done to both, and a loss of supply restores the store from before it. -/
inductive State.Mirrored (s t : State) : Prop
  | same (hc : t.configuration = s.configuration) (hs : t.store = s.store)
      (hu : t.unfinished = s.unfinished ∨ t.unfinished = none) (hp : t.powered = s.powered)
  | written (f : Store → Store) (port : Option PortId) (hc : t.configuration = f s.configuration) (hs : t.store = f s.store)
      (hu : t.unfinished = some { before := s.store, port }) (hp : s.powered = true) (hp' : t.powered = true)

theorem State.configuration_of_kept (h : t.kept = s.kept) : t.configuration = s.configuration := by
  have chain : (Vector.ofFn fun p => (t.posRec p).enrolment) = Vector.ofFn fun p => (s.posRec p).enrolment :=
    ext_get fun p => by simpa [State.kept] using congrArg (fun k => k.chain.get p) h
  have links : t.links = s.links := congrArg Kept.links h
  have plans : t.plans = s.plans := congrArg Kept.plans h
  have clock : t.clock = s.clock := congrArg Kept.clock h
  have vectors : t.pre.vectors = s.pre.vectors := congrArg Kept.vectors h
  have lines : (Vector.ofFn fun k => (t.pre.lines.get k).cfg) = Vector.ofFn fun k => (s.pre.lines.get k).cfg :=
    ext_get fun k => by simpa [State.kept] using congrArg (fun x => x.lineCfgs.get k) h
  have policy : t.ctl.policy = s.ctl.policy := congrArg Kept.policy h
  have enabled : t.faults.enabled = s.faults.enabled := congrArg Kept.enabled h
  simp only [State.configuration, State.linkRec, chain, links, plans, clock, vectors, lines, policy, enabled]

namespace State.Mirrored

theorem of_kept (h : t.kept = s.kept) : s.Mirrored t :=
  .same (State.configuration_of_kept h) (congrArg Kept.store h) (.inl (congrArg Kept.unfinished h)) (congrArg Kept.powered h)

theorem of_aside (h : s.Aside t) : s.Mirrored t := by
  refine .same ?_ h.store h.unfinished h.powered
  simp [State.configuration, State.posRec, h.pos, h.lengths, h.plans, h.clock, h.vectors, h.lineCfgs, h.policy, h.enabled]

/-- What follows a change and keeps the frame adds nothing to it. -/
theorem then_kept {u : State} (h : s.Mirrored t) (hu : u.kept = t.kept) : s.Mirrored u := by
  have hc := State.configuration_of_kept hu
  have hs : u.store = t.store := congrArg Kept.store hu
  have hn : u.unfinished = t.unfinished := congrArg Kept.unfinished hu
  have hp : u.powered = t.powered := congrArg Kept.powered hu
  cases h with
  | same c st n p => exact .same (hc.trans c) (hs.trans st) (by rwa [hn]) (hp.trans p)
  | written f port c st n p p' => exact .written f port (hc.trans c) (hs.trans st) (hn.trans n) p (hp.trans p')

end State.Mirrored

/-! ### The rewritings of the configuration -/

theorem ofFn_set {α β : Type} {n : Nat} (v : Vector α n) (i : Fin n) (x : α) (g : α → β) :
    (Vector.ofFn fun j => g ((v.set i.val x i.isLt).get j)) = (Vector.ofFn fun j => g (v.get j)).set i.val (g x) i.isLt := by
  apply ext_get
  intro j
  simp only [get_ofFn, get_set]
  split <;> rfl

theorem set_get {α : Type} {n : Nat} (v : Vector α n) (i : Fin n) : v.set i.val (v.get i) i.isLt = v := by
  apply ext_get
  intro j
  rw [get_set]
  split
  · next e => rw [e]
  · rfl

theorem State.configuration_setSlot (i : SlotIx) (x : Slot) :
    (s.setPlans (s.plans.setSlot i x)).configuration =
      { s.configuration with slots := s.configuration.slots.set i.val x.stored i.isLt } := by
  have : (Vector.ofFn fun j => ((s.plans.setSlot i x).slot j).stored) =
      (Vector.ofFn fun j => (s.plans.slot j).stored).set i.val x.stored i.isLt := ofFn_set s.plans.slots i x Slot.stored
  simp only [State.configuration, State.setPlans_plans, this]
  rfl

/-- A slot rewritten without its stored part leaves the configuration as it is. -/
theorem State.configuration_setSlot_same {i : SlotIx} {x : Slot} (h : x.stored = (s.plans.slot i).stored) :
    (s.setPlans (s.plans.setSlot i x)).configuration = s.configuration := by
  have slot : (s.plans.slot i).stored = s.configuration.slots.get i := by simp [State.configuration]
  rw [State.configuration_setSlot, h, slot, set_get]

theorem State.configuration_setVector (v : VecIx) (c : VectorCfg) :
    (s.setPre { s.pre with vectors := s.pre.vectors.set v.val c v.isLt }).configuration =
      { s.configuration with vectors := s.configuration.vectors.set v.val c v.isLt } := rfl

theorem State.configuration_setLine (k : LineIx) (l : PLine) : (s.setLine k l).configuration =
    { s.configuration with lines := s.configuration.lines.set k.val l.cfg k.isLt } := by
  have : (Vector.ofFn fun j => ((s.setLine k l).pre.lines.get j).cfg) =
      (Vector.ofFn fun j => (s.pre.lines.get j).cfg).set k.val l.cfg k.isLt := ofFn_set s.pre.lines k l PLine.cfg
  simp only [State.configuration, this]
  rfl

theorem State.configuration_putEnrolment (port : Option PortId) (p : Pos) (e : Enrolment) :
    (s.putEnrolment port p e).configuration = s.configuration.setEnrolment p e := by
  have : (Vector.ofFn fun q => ((s.putEnrolment port p e).posRec q).enrolment) =
      (Vector.ofFn fun q => (s.posRec q).enrolment).set p.val e p.isLt :=
    ofFn_set s.pos p { s.posRec p with enrolment := e } PosRec.enrolment
  simp only [State.configuration, this]
  rfl

theorem State.Mirrored.putEnrolment (hp : s.powered = true) (port : Option PortId) (p : Pos) (e : Enrolment) :
    s.Mirrored (s.putEnrolment port p e) :=
  .written (Store.setEnrolment p e) port (State.configuration_putEnrolment port p e) rfl rfl hp hp

theorem State.Mirrored.event (hp : s.powered = true) (port : Option PortId) (p : Pos) (e : Enrolment) (c : EnrolmentChange) :
    s.Mirrored (((s.putEnrolment port p e).bumpMembership).enrolmentEvent p c) := by
  have put : s.Mirrored (s.putEnrolment port p e).bumpMembership :=
    .written (Store.setEnrolment p e) port (State.configuration_putEnrolment port p e) rfl rfl hp hp
  exact put.then_kept (State.kept_enrolmentEvent ..)

/-- The activation of the pending plan, and the clock's part of a rollover. -/
theorem State.Mirrored.turnCycle (hp : s.plans.pendingSlot.isSome = true → s.powered = true) : s.Mirrored s.turnCycle := by
  have activate (u : State) (hu : u.plans.pendingSlot.isSome = true → u.powered = true) :
      u.Mirrored u.activatePending := by
    unfold State.activatePending
    split
    · exact .of_kept rfl
    · next i h =>
      have hp := hu (by simp [h])
      exact .written (fun st => { st with active := i }) none rfl rfl rfl hp hp
  have around := activate (s.setClock { s.clock with dsRunning := s.clock.dsLength, cyclePos := 0, cycleNo := s.clock.cycleNo + 1 })
    hp
  unfold State.turnCycle
  extract_lets k s1
  cases around with
  | same hc hs hu hp => exact .same hc hs hu hp
  | written f port hc hs hu hp hp' => exact .written f port hc hs hu hp hp'

theorem Setting.mirrored (h : Setting s t) : s.Mirrored t := by
  cases h with
  | advance _ => exact .same rfl rfl (.inl rfl) rfl
  | turnCycle h => exact .turnCycle fun e => by simp [h] at e
  | timebase _ => exact .same rfl rfl (.inl rfl) rfl
  | applyTimebase hp p x =>
    unfold State.applyTimebase
    split
    iterate 3 exact .written (fun st => { st with pref := _ }) (some p) rfl rfl rfl hp hp
    iterate 3 exact .same rfl rfl (.inl rfl) rfl
  | setInterval hp p n => exact .written (fun st => { st with beaconInterval := n }) (some p) rfl rfl rfl hp hp
  | setPolicy hp p x => exact .written (fun st => { st with policy := x }) (some p) rfl rfl rfl hp hp
  | setEnables hp p e =>
    unfold State.setEnables
    split
    · exact .same rfl rfl (.inl rfl) rfl
    · exact .written (fun st => { st with enabled := e }) (some p) rfl rfl rfl hp hp
  | setLength hp p l n =>
    refine .written (fun st => { st with lengths := st.lengths.set l.val n l.isLt }) (some p) ?_ rfl rfl hp hp
    have : (Vector.ofFn fun m => ((s.setLength p l n).linkRec m).length) =
        (Vector.ofFn fun m => (s.linkRec m).length).set l.val n l.isLt :=
      ofFn_set s.links l { s.linkRec l with length := n } LinkRec.length
    simp only [State.configuration, this]
    rfl
  | setVector hp p v c _ _ =>
    unfold State.setVector
    dsimp only
    split
    · next h =>
      refine .same ?_ rfl (.inl rfl) rfl
      rw [State.configuration_setVector, ← h]
      exact congrArg (fun x => ({ s.configuration with vectors := x } : Store)) (set_get _ _)
    · exact .written (fun st => { st with vectors := st.vectors.set v.val c v.isLt }) (some p) rfl rfl rfl hp hp
  | reconfigureLine hp p time k c =>
    have lined := (s.at time).configuration_setLine k ((s.pre.lines.get k).reconfigured (s.at time).now c)
    unfold State.reconfigureLine
    dsimp only
    split
    · next h =>
      refine .same (lined.trans ?_) rfl (.inl rfl) rfl
      have line : c = (s.at time).configuration.lines.get k := by simp [State.configuration, h]
      show ({ (s.at time).configuration with lines := (s.at time).configuration.lines.set k.val c k.isLt } : Store) = _
      rw [line, set_get]
      rfl
    · exact .written (fun st => { st with lines := st.lines.set k.val c k.isLt }) (some p) lined rfl rfl hp hp
  | openSlot hp p i h base _ _ _ _ _ =>
    unfold State.openSlot
    dsimp only
    split
    · exact .written (Store.setSlot i { locked := (s.plans.slot i).locked, gen := (s.plans.slot i).gen, plan := none })
        (some p) (State.configuration_setSlot (s := s) i _) rfl rfl hp hp
    · next hr =>
      refine .same (State.configuration_setSlot_same ?_) rfl (.inl rfl) rfl
      cases hb : (s.plans.slot i).body with
      | ready h es => simp [hb, SlotBody.isReady] at hr
      | empty => simp [Slot.stored, hb]
      | loading h q es => simp [Slot.stored, hb]
  | writeEntry i h q es es' hb =>
    exact .same (State.configuration_setSlot_same (by simp [Slot.stored, hb])) rfl (.inl rfl) rfl
  | dropSlot hp p i _ _ =>
    unfold State.dropSlot
    split
    · exact .of_kept rfl
    · next hb => exact .same (State.configuration_setSlot_same (by simp [Slot.stored, hb])) rfl (.inl rfl) rfl
    · exact .written (Store.setSlot i { locked := (s.plans.slot i).locked, gen := (s.plans.slot i).gen, plan := none })
        (some p) (State.configuration_setSlot (s := s) i _) rfl rfl hp hp
  | setLocked hp p i b _ =>
    refine .written (fun st => st.setSlot i { st.slots.get i with locked := b }) (some p) ?_ rfl rfl hp hp
    have slot : s.configuration.slots.get i = (s.plans.slot i).stored := by simp [State.configuration]
    refine (State.configuration_setSlot (s := s) i { s.plans.slot i with locked := b }).trans ?_
    simp only [slot]
    rfl
  | select i _ _ =>
    unfold PlanStore.select
    split <;> exact .same rfl rfl (.inl rfl) rfl

theorem Membership.mirrored (hp : s.powered = true) (h : Membership s t) : s.Mirrored t := by
  cases h with
  | enrolls port p drop _ _ _ => exact .event hp _ _ _ _
  | excludes port p drop _ _ _ => exact .event hp _ _ _ _
  | vacates port p _ _ => exact .event hp _ _ _ _
  | takesOver port p drop _ => exact .putEnrolment hp _ _ _
  | vacateExcluded port p _ =>
    exact (State.Mirrored.putEnrolment hp (some port) p .vacant).then_kept (State.kept_enrolmentEvent ..)

theorem Change.mirrored {T : Nat → Prop} (h : Change T s t) : s.Mirrored t := by
  cases h with
  | aside h => exact .of_aside h
  | fault i => exact .of_kept (State.kept_fault i s)
  | clearFaults => exact .of_kept rfl
  | record p h =>
    refine .of_kept (State.kept_setPosRec ?_)
    cases h <;> simp
  | seekRollover => exact .of_kept (State.kept_seekRollover s)
  | activate v src _ => exact .of_kept (State.kept_activate v src s)
  | endCause v reason => exact .of_kept (State.kept_endCause v reason s)
  | countDown => exact .of_kept rfl
  | setMaster m _ => exact .of_kept (State.kept_setMaster m s)
  | newComputation => exact .of_kept rfl
  | interrupt => exact .of_kept rfl
  | conclude _ => exact .of_kept rfl
  | setting h => exact h.mirrored
  | membership hp h => exact h.mirrored hp

theorem State.Mirrored.closeSlot (hp : s.powered = true) (p : PortId) (i : SlotIx) (h : Header) (es : List Entry) :
    s.Mirrored (s.closeSlot p i h es) :=
  .written (Store.setSlot i { locked := (s.plans.slot i).locked, gen := (s.plans.slot i).gen + 1, plan := some ⟨h, es⟩ })
    (some p) (State.configuration_setSlot (s := s) i _) rfl rfl hp hp

theorem State.Mirrored.loses (hp : s.powered = true) (p : Pos) (drop : Nat) : s.Mirrored (s.loses p drop) :=
  .event hp _ _ _ _

/-! ### The restart -/

theorem StoredSlot.stored_restored (x : StoredSlot) : x.restored.stored = x := by
  obtain ⟨locked, gen, plan⟩ := x
  cases plan <;> rfl

section Restart

variable (s : State)

@[simp] theorem State.restartBlocks_plans : s.restartBlocks.plans = .restarted s.store := by simp only [State.restartBlocks]
@[simp] theorem State.restartBlocks_clock : s.restartBlocks.clock = .restarted s.store := by simp only [State.restartBlocks]
@[simp] theorem State.restartBlocks_band : s.restartBlocks.band = .restarted := by simp only [State.restartBlocks]
@[simp] theorem State.restartBlocks_pre : s.restartBlocks.pre = .restarted s.store s.pre := by
  simp only [State.restartBlocks]
@[simp] theorem State.restartBlocks_ctl : s.restartBlocks.ctl = .restarted s.store s.ctl := by
  simp only [State.restartBlocks]
@[simp] theorem State.restartBlocks_faults : s.restartBlocks.faults = .restarted s.store s.faults := by
  simp only [State.restartBlocks]
@[simp] theorem State.restartBlocks_store : s.restartBlocks.store = s.store := by simp only [State.restartBlocks]
@[simp] theorem State.restartBlocks_unfinished : s.restartBlocks.unfinished = none := by simp only [State.restartBlocks]
@[simp] theorem State.restartBlocks_powered : s.restartBlocks.powered = true := by simp only [State.restartBlocks]
@[simp] theorem State.restartBlocks_pending : s.restartBlocks.pending = s.pending := by simp only [State.restartBlocks]
@[simp] theorem State.restartBlocks_posRec (p : Pos) :
    s.restartBlocks.posRec p = .restarted (s.store.chain.get p) := by
  simp only [State.restartBlocks, State.posRec, get_ofFn]
@[simp] theorem State.restartBlocks_linkRec (l : LinkIx) :
    s.restartBlocks.linkRec l = .restarted (s.store.lengths.get l) := by
  simp only [State.restartBlocks, State.linkRec, get_ofFn]

/-- The passage to ACQUIRING is a change of the clock and an alert. -/
theorem State.acquireAfterRestart_eq (u : State) :
    ∃ k f, u.acquireAfterRestart = (u.setClock k).setFaults f ∧ f.enabled = u.faults.enabled ∧
      k.pref = u.clock.pref ∧ k.beaconInterval = u.clock.beaconInterval ∧ k.cyclePos = u.clock.cyclePos ∧ k.c = u.clock.c := by
  unfold State.acquireAfterRestart
  split
  · exact ⟨u.clock, u.faults, rfl, rfl, rfl, rfl, rfl, rfl⟩
  · exact ⟨_, _, rfl, rfl, rfl, rfl, rfl, rfl⟩

theorem State.restart_store : s.restart.store = s.store := by
  have passed (u : State) : u.acquireAfterRestart.store = u.store := by
    obtain ⟨k, f, h, -⟩ := u.acquireAfterRestart_eq
    rw [h]; rfl
  exact (passed _).trans s.restartBlocks_store

theorem State.restart_unfinished : s.restart.unfinished = none := by
  have passed (u : State) : u.acquireAfterRestart.unfinished = u.unfinished := by
    obtain ⟨k, f, h, -⟩ := u.acquireAfterRestart_eq
    rw [h]; rfl
  exact (passed _).trans s.restartBlocks_unfinished

theorem State.restart_plans : s.restart.plans = .restarted s.store := by
  have passed (u : State) : u.acquireAfterRestart.plans = u.plans := by
    obtain ⟨k, f, h, -⟩ := u.acquireAfterRestart_eq
    rw [h]; rfl
  exact (passed _).trans s.restartBlocks_plans

theorem State.restart_posRec (p : Pos) : s.restart.posRec p = .restarted (s.store.chain.get p) := by
  have passed (u : State) : u.acquireAfterRestart.posRec p = u.posRec p := by
    obtain ⟨k, f, h, -⟩ := u.acquireAfterRestart_eq
    rw [h]; rfl
  exact (passed _).trans (s.restartBlocks_posRec p)

theorem State.restart_band : s.restart.band = .restarted := by
  have passed (u : State) : u.acquireAfterRestart.band = u.band := by
    obtain ⟨k, f, h, -⟩ := u.acquireAfterRestart_eq
    rw [h]; rfl
  exact (passed _).trans s.restartBlocks_band

theorem State.restart_pre : s.restart.pre = .restarted s.store s.pre := by
  have passed (u : State) : u.acquireAfterRestart.pre = u.pre := by
    obtain ⟨k, f, h, -⟩ := u.acquireAfterRestart_eq
    rw [h]; rfl
  exact (passed _).trans s.restartBlocks_pre

theorem State.restart_ctl : s.restart.ctl = .restarted s.store s.ctl := by
  have passed (u : State) : u.acquireAfterRestart.ctl = u.ctl := by
    obtain ⟨k, f, h, -⟩ := u.acquireAfterRestart_eq
    rw [h]; rfl
  exact (passed _).trans s.restartBlocks_ctl

theorem State.restart_pending : s.restart.pending = s.pending := by
  have passed (u : State) : u.acquireAfterRestart.pending = u.pending := by
    obtain ⟨k, f, h, -⟩ := u.acquireAfterRestart_eq
    rw [h]; rfl
  exact (passed _).trans s.restartBlocks_pending

/-- A restart runs with the configuration of the store. -/
theorem State.restart_configuration : s.restart.configuration = s.store := by
  have blocks : s.restartBlocks.configuration = s.store := by
    have chain : (Vector.ofFn fun p => (s.restartBlocks.posRec p).enrolment) = s.store.chain :=
      ext_get fun p => by simp [PosRec.restarted]
    have lengths : (Vector.ofFn fun l => (s.restartBlocks.linkRec l).length) = s.store.lengths :=
      ext_get fun l => by simp [LinkRec.restarted]
    have slots : (Vector.ofFn fun i => (s.restartBlocks.plans.slot i).stored) = s.store.slots :=
      ext_get fun i => by simp [PlanStore.slot, PlanStore.restarted, StoredSlot.stored_restored]
    have lines : (Vector.ofFn fun k => (s.restartBlocks.pre.lines.get k).cfg) = s.store.lines :=
      ext_get fun k => by simp [Pre.restarted, PLine.restarted]
    simp only [State.configuration, chain, lengths, slots, lines]
    simp [PlanStore.restarted, Clock.restarted, Pre.restarted, Ctl.restarted, FaultUnit.restarted]
  have passed (u : State) : u.acquireAfterRestart.configuration = u.configuration := by
    obtain ⟨k, f, h, enabled, pref, interval, -⟩ := u.acquireAfterRestart_eq
    rw [h]
    simp [State.configuration, State.posRec, State.linkRec, enabled, pref, interval]
  exact (passed _).trans blocks

end Restart

/-! ### Laws of the configuration -/

/-- A law of the configuration: `A` says what a store may hold and `B` what the running part may. It asks `A` of the store and of the
content a loss of supply could restore, `B` of the running part, and that the store mirrors the running configuration. -/
structure ConfigLaw (A : Store → Prop) (B : State → Prop) (s : State) : Prop where
  mirror : MirrorLaw s
  stored : A s.store
  before : ∀ u, s.unfinished = some u → A u.before
  running : s.powered = true → B s

/-- What a law of the configuration needs to be kept by every step: the running part's half of it is kept by each change, a mirror
carries it into the store, and a restart back. -/
structure ConfigLaw.Kept (A : Store → Prop) (B : State → Prop) : Prop where
  mirrored : ∀ s : State, s.store = s.configuration → B s → A s.store
  restart : ∀ s : State, A s.store → B s.restart
  factory : A Store.factory
  change : ∀ (T : Nat → Prop) (s t : State), Change T s t → s.powered = true → B s → B t
  turnCycle : ∀ s : State, s.powered = true → B s → B s.turnCycle
  seekActivation : ∀ s : State, s.powered = true → B s → B s.seekActivation
  loses : ∀ (s : State) (p : Pos) (drop : Nat), (s.posRec p).enrolment = .enrolled drop → B s → B (s.loses p drop)
  closeSlot : ∀ (s : State) (p q : PortId) (i : SlotIx) (h : Header) (es : List (Option Entry)), (s.plans.slot i).body = .loading h q es → closeFailure h.c 0 none es = none → B s →
    B (s.closeSlot p i h (es.filterMap id))

namespace ConfigLaw

variable {A : Store → Prop} {B : State → Prop}

theorem of_mirrored (k : ConfigLaw.Kept A B) (hB : s.powered = true → B s → B t) (m : s.Mirrored t) (h : ConfigLaw A B s) :
    ConfigLaw A B t := by
  obtain ⟨mirror, stored, before, running⟩ := h
  cases m with
  | same hc hs hu hp =>
    refine ⟨fun e => ?_, hs ▸ stored, fun u e => ?_, fun e => hB (hp ▸ e) (running (hp ▸ e))⟩
    · rw [hs, hc]; exact mirror (hp ▸ e)
    · obtain h | h := hu
      · exact before u (h ▸ e)
      · simp [h] at e
  | written f port hc hs hu hp hp' =>
    have both : t.store = t.configuration := by rw [hs, hc, mirror hp]
    have run := hB hp (running hp)
    refine ⟨fun _ => both, k.mirrored t both run, fun u e => ?_, fun _ => run⟩
    rw [hu] at e
    cases e
    exact stored

theorem changes (k : ConfigLaw.Kept A B) {T : Nat → Prop} (hc : Changes T s t) (h : ConfigLaw A B s) : ConfigLaw A B t := by
  induction hc with
  | refl => exact h
  | tail _ c ih => exact ih.of_mirrored k (k.change T _ _ c) c.mirrored

theorem aside (k : ConfigLaw.Kept A B) (ha : s.Aside t) (h : ConfigLaw A B s) : ConfigLaw A B t :=
  h.changes (T := NoTarget) k (.aside ha)

theorem restarted (k : ConfigLaw.Kept A B) (h : A s.store) : ConfigLaw A B s.restart where
  mirror _ := by rw [State.restart_store, State.restart_configuration]
  stored := by rwa [State.restart_store]
  before u e := by simp [State.restart_unfinished] at e
  running _ := k.restart s h

theorem steps (k : ConfigLaw.Kept A B) (hs : Steps s t) (h : ConfigLaw A B s) : ConfigLaw A B t := by
  cases hs with
  | run c => exact h.changes k c
  | loss c hp he c' =>
    have lost := (h.changes k c).of_mirrored k (fun _ => k.loses _ _ _ he) (.loses hp _ _)
    refine ConfigLaw.changes (T := NoTarget) k ?_ lost |>.changes k c'
    unfold State.reportCount
    split
    · exact .fallbackUnlessOut _ _
    · exact .refl _
  | activation c hp _ c1 c2 =>
    have turned := (h.changes k c).of_mirrored k (k.turnCycle _) (.turnCycle fun _ => hp)
    have sought := (turned.changes k c1).of_mirrored k (k.seekActivation _) (.of_kept (State.kept_seekActivation _))
    exact sought.changes k c2
  | close ha hp hb hf ha' =>
    exact ((h.aside k ha).of_mirrored k (fun _ => k.closeSlot _ _ _ _ _ _ hb hf) (.closeSlot hp _ _ _ _)).aside k ha'
  | restart ha => exact restarted k (h.aside k ha).stored
  | erase ha hv =>
    refine restarted k ?_
    rw [hv.store]
    exact k.factory
  | losePower torn =>
    have kept : A (s.keepStore torn) := by
      unfold State.keepStore
      split
      · next u e =>
        split
        · exact h.before u e
        · exact h.stored
      · exact h.stored
    exact ⟨nofun, kept, nofun, nofun⟩

end ConfigLaw

end Sys2Proof.Machine
end

section
/-! The laws of the configuration: the mirror (R167), the drop addresses (R5), the clock and the plans (R21, R27, R29, R48), and with them
the queue of waiting commands and the timebase (R38). -/

namespace Sys2Proof.Machine

variable {s t : State}

/-- A step idles, or runs a command on the queue's rest. -/
theorem step_cases (h : step s = .next t) : t = s ∨ ∃ rest, Steps { s with pending := rest } t := by
  unfold step at h
  split at h
  · cases h; exact .inl rfl
  · next c rest _ => exact .inr ⟨rest, exec_steps c h⟩

/-- Settles O1: the definition of the step. -/
theorem stepRunsFrontCommand : Obligations.StepRunsFrontCommand := fun _ _ _ => rfl

/-! ### The queue -/

theorem Steps.pending (h : Steps s t) : t.pending = s.pending := by
  have restarted (u : State) : u.restart.pending = u.pending := u.restart_pending
  cases h with
  | run c => exact c.sameSupply.2
  | loss c hp he c' =>
    have counted (u : State) : Changes NoTarget u u.reportCount := by
      unfold State.reportCount
      split
      · exact .fallbackUnlessOut _ _
      · exact .refl _
    exact c'.sameSupply.2.trans ((counted _).sameSupply.2.trans ((State.loses_sameSupply _ _).2.trans c.sameSupply.2))
  | activation c hp ha c1 c2 =>
    have turned (u : State) : u.turnCycle.pending = u.pending := by
      unfold State.turnCycle State.activatePending
      dsimp only
      split <;> rfl
    have sought (u : State) : u.seekActivation.pending = u.pending := u.mapPosRec_pending _
    exact c2.sameSupply.2.trans ((sought _).trans (c1.sameSupply.2.trans ((turned _).trans c.sameSupply.2)))
  | close ha hp hb hf ha' => exact ha'.pending.trans ha.pending
  | restart ha => exact (restarted _).trans ha.pending
  | erase ha hv => exact (restarted _).trans (hv.pending.trans ha.pending)
  | losePower torn => rfl

/-- Settles O2: every change keeps the queue. -/
theorem commandsKeepQueue : Obligations.CommandsKeepQueue := fun c _ _ h => (exec_steps c h).pending

/-! ### The mirror -/

theorem mirrorLaw_iff : MirrorLaw s ↔ ConfigLaw (fun _ => True) (fun _ => True) s :=
  ⟨fun h => ⟨h, trivial, fun _ _ => trivial, fun _ => trivial⟩, fun h => h.mirror⟩

theorem mirrorLaw_kept : ConfigLaw.Kept (fun _ => True) (fun _ => True) := by
  constructor <;> intros <;> trivial

/-- Settles O55: the store and the running configuration are written alike. -/
theorem stepKeepsMirrorLaw : Obligations.StepKeepsMirrorLaw := by
  intro s t h hs
  obtain rfl | ⟨rest, hr⟩ := step_cases h
  · exact hs
  · exact mirrorLaw_iff.mpr (ConfigLaw.steps mirrorLaw_kept hr (mirrorLaw_iff.mp hs))

/-! ### Which changes reach an enrolment, the plans or the clock -/

theorem State.enrolment_of_kept (h : t.kept = s.kept) (p : Pos) : (t.posRec p).enrolment = (s.posRec p).enrolment := by
  simpa [State.kept] using congrArg (fun k => k.chain.get p) h

theorem State.posRec_of_pos (h : t.pos = s.pos) (p : Pos) : t.posRec p = s.posRec p := by simp [State.posRec, h]

theorem Setting.pos (h : Setting s t) : t.pos = s.pos := by
  cases h with
  | turnCycle h => exact State.turnCycle_pos s
  | applyTimebase _ p x => unfold State.applyTimebase; split <;> rfl
  | setEnables _ p e => unfold State.setEnables; split <;> rfl
  | setVector _ p v c _ _ => unfold State.setVector; dsimp only; split <;> rfl
  | reconfigureLine _ p t k c => unfold State.reconfigureLine; dsimp only; split <;> rfl
  | openSlot _ p i h base _ _ _ _ _ => unfold State.openSlot; dsimp only; split <;> rfl
  | dropSlot _ p i _ _ => unfold State.dropSlot; split <;> rfl
  | _ => rfl

/-- Every change but one of settings or membership keeps the frame, or is aside of every law. -/
theorem Change.quiet {T : Nat → Prop} (h : Change T s t) :
    s.Aside t ∨ t.kept = s.kept ∨ Setting s t ∨ s.powered = true ∧ Membership s t := by
  cases h with
  | aside h => exact .inl h
  | setting h => exact .inr (.inr (.inl h))
  | membership hp h => exact .inr (.inr (.inr ⟨hp, h⟩))
  | fault i => exact .inr (.inl (State.kept_fault i s))
  | record p h => exact .inr (.inl (State.kept_setPosRec (by cases h <;> simp)))
  | seekRollover => exact .inr (.inl (State.kept_seekRollover s))
  | activate v src _ => exact .inr (.inl (State.kept_activate v src s))
  | endCause v reason => exact .inr (.inl (State.kept_endCause v reason s))
  | setMaster m _ => exact .inr (.inl (State.kept_setMaster m s))
  | _ => exact .inr (.inl rfl)

theorem Change.enrolment {T : Nat → Prop} (h : Change T s t) :
    (∀ p, (t.posRec p).enrolment = (s.posRec p).enrolment) ∨ Membership s t := by
  obtain h | h | h | ⟨-, h⟩ := h.quiet
  · exact .inl fun p => by rw [State.posRec_of_pos h.pos]
  · exact .inl (State.enrolment_of_kept h)
  · exact .inl fun p => by rw [State.posRec_of_pos h.pos]
  · exact .inr h

/-- Only the enrolment of `p` changes, and becomes `e`. -/
def State.Reenrols (p : Pos) (e : Enrolment) (s t : State) : Prop :=
  ∀ q, (t.posRec q).enrolment = if p = q then e else (s.posRec q).enrolment

theorem State.putEnrolment_reenrols (port : Option PortId) (p : Pos) (e : Enrolment) :
    s.Reenrols p e (s.putEnrolment port p e) := fun q => by
  show ((s.setPosRec p { s.posRec p with enrolment := e }).posRec q).enrolment = _
  rw [State.posRec_setPosRec]
  split <;> rfl

theorem State.Reenrols.event {u : State} {p : Pos} {e : Enrolment} (h : s.Reenrols p e u) (c : EnrolmentChange) :
    s.Reenrols p e (u.enrolmentEvent p c) := fun q =>
  (State.enrolment_of_kept (State.kept_enrolmentEvent p c u) q).trans (h q)

theorem State.loses_reenrols (p : Pos) (drop : Nat) : s.Reenrols p (.excluded drop .lost) (s.loses p drop) :=
  State.Reenrols.event (u := (s.putEnrolment none p (.excluded drop .lost)).bumpMembership)
    (State.putEnrolment_reenrols none p _) .loses

theorem State.leaves_reenrols (port : PortId) (p : Pos) (e : Enrolment) (c : EnrolmentChange) :
    s.Reenrols p e (s.leaves port p e c) :=
  State.Reenrols.event (u := (s.putEnrolment (some port) p e).bumpMembership) (State.putEnrolment_reenrols (some port) p _) c

theorem State.enrolls_reenrols (port : PortId) (p : Pos) (drop : Nat) :
    s.Reenrols p (.enrolled drop) (s.enrolls port p drop) :=
  State.Reenrols.event (u := (s.putEnrolment (some port) p (.enrolled drop)).bumpMembership)
    (State.putEnrolment_reenrols (some port) p _) .enrols

/-- The address `d` may be held by `p`: it holds it already, or it is in range and free (R6). -/
def State.MayHold (s : State) (p : Pos) (d : Nat) : Prop :=
  (s.posRec p).enrolment.drop = some d ∨ (1 ≤ d ∧ d ≤ 31) ∧ s.dropTaken p d = false

/-- A change of membership: one enrolment, with an address that may be held, covered by the plans. -/
theorem Membership.enrolment (h : Membership s t) : ∃ p e, s.Reenrols p e t ∧
    (∀ d, e.drop = some d → s.MayHold p d) ∧ (e.isEnrolled = true → s.plansCover p = true) := by
  cases h with
  | enrolls port p drop _ hd hc =>
    exact ⟨p, _, State.enrolls_reenrols port p drop, fun d e => by cases e; exact hd, fun _ => hc⟩
  | excludes port p drop he _ _ =>
    exact ⟨p, _, State.leaves_reenrols port p _ _, fun d e => by cases e; exact .inl (by rw [he]; rfl), nofun⟩
  | vacates port p _ _ => exact ⟨p, _, State.leaves_reenrols port p _ _, nofun, nofun⟩
  | takesOver port p drop he =>
    exact ⟨p, _, State.putEnrolment_reenrols _ p _, fun d e => by cases e; exact .inl (by rw [he]; rfl), nofun⟩
  | vacateExcluded port p _ =>
    exact ⟨p, _, (State.putEnrolment_reenrols (some port) p .vacant).event (.vacates false), nofun, nofun⟩

/-! ### The drop addresses -/

/-- Every drop address of the running part is 1..31 and held by one position (R5). -/
def State.DropsRun (s : State) : Prop :=
  (∀ p d, (s.posRec p).enrolment.drop = some d → 1 ≤ d ∧ d ≤ 31) ∧
    ∀ p q d, (s.posRec p).enrolment.drop = some d → (s.posRec q).enrolment.drop = some d → p = q

theorem State.DropsRun.of_enrolment (he : ∀ p, (t.posRec p).enrolment = (s.posRec p).enrolment) (h : s.DropsRun) :
    t.DropsRun := by
  simpa only [State.DropsRun, he] using h

theorem State.DropsRun.reenrols {p : Pos} {e : Enrolment} (hr : s.Reenrols p e t)
    (hd : ∀ d, e.drop = some d → s.MayHold p d) (h : s.DropsRun) : t.DropsRun := by
  obtain ⟨range, unique⟩ := h
  have other {q d} (hq : p ≠ q) (hm : s.MayHold p d) : (s.posRec q).enrolment.drop ≠ some d := by
    intro e
    obtain own | ⟨-, free⟩ := hm
    · exact hq (unique p q d own e)
    · have := State.dropTaken_iff.mpr ⟨q, hq.symm, e⟩
      simp [this] at free
  constructor
  · intro q d
    rw [hr q]
    split
    · intro e
      obtain own | ⟨inRange, -⟩ := hd d e
      · exact range p d own
      · exact inRange
    · exact range q d
  · intro q r d
    rw [hr q, hr r]
    split <;> split
    · next hq hr => exact fun _ _ => hq.symm.trans hr
    · next hq hr => exact fun e e' => absurd e' (other hr (hd d e))
    · next hq hr => exact fun e e' => absurd e (other hq (hd d e'))
    · exact unique q r d

theorem dropsOk_iff {chain : Vector Enrolment 24} (hc : ∀ p, chain.get p = (s.posRec p).enrolment) :
    dropsOk chain ↔ s.DropsRun := by
  simp only [dropsOk, State.DropsRun, hc]

theorem State.configuration_chain (p : Pos) : s.configuration.chain.get p = (s.posRec p).enrolment := by
  simp [State.configuration]

theorem dropLaw_iff : DropLaw s ↔ ConfigLaw (fun st => dropsOk st.chain) State.DropsRun s :=
  ⟨fun ⟨m, a, b⟩ => ⟨m, a, b, fun hp => (dropsOk_iff fun p => by rw [m hp, State.configuration_chain]).mp a⟩,
    fun h => ⟨h.mirror, h.stored, h.before⟩⟩

theorem dropLaw_kept : ConfigLaw.Kept (fun st => dropsOk st.chain) State.DropsRun where
  mirrored s m h := (dropsOk_iff fun p => by rw [m, State.configuration_chain]).mpr h
  restart s h := (dropsOk_iff fun p => by rw [State.restart_posRec]; rfl).mp h
  factory := ⟨fun p d e => by simp [Store.factory, Enrolment.drop] at e, fun p q d e => by
    simp [Store.factory, Enrolment.drop] at e⟩
  change T s t c _ h := by
    obtain same | m := c.enrolment
    · exact h.of_enrolment same
    · obtain ⟨p, e, hr, hd, -⟩ := m.enrolment
      exact h.reenrols hr hd
  turnCycle s _ h := h.of_enrolment fun p => by rw [State.posRec_of_pos (State.turnCycle_pos s)]
  seekActivation s _ h := h.of_enrolment (State.enrolment_of_kept (State.kept_seekActivation s))
  loses s p drop he h := h.reenrols (State.loses_reenrols p drop) fun d e => by cases e; exact .inl (by rw [he]; rfl)
  closeSlot s p q i h es _ _ hs := hs.of_enrolment fun _ => rfl

/-- Settles O57: an address is kept, or is in range and free. -/
theorem stepKeepsDropLaw : Obligations.StepKeepsDropLaw := by
  intro s t h hs
  obtain rfl | ⟨rest, hr⟩ := step_cases h
  · exact hs
  · exact dropLaw_iff.mpr (ConfigLaw.steps dropLaw_kept hr (dropLaw_iff.mp hs))

/-! ### The clock and the active plan -/

/-- The laws of the clock and the active plan in the running part: every plan held has its cycle length in range, the active and the
pending slot are READY, and the clock runs below the C of the active plan (R19, R29, R48). -/
structure State.ClockRuns (s : State) : Prop where
  loading : ∀ i h q es, (s.plans.slot i).body = .loading h q es → h.cOk
  ready : ∀ i h es, (s.plans.slot i).body = .ready h es → h.cOk
  pendingReady : ∀ i, s.plans.pendingSlot = some i → (s.plans.slot i).body.isReady = true
  activeReady : (s.plans.slot s.plans.active).body.isReady = true
  below : s.clock.cyclePos < s.clock.c
  inForce : s.clock.c = s.plan.c

theorem SlotBody.isReady_iff {b : SlotBody} : b.isReady = true ↔ ∃ h es, b = .ready h es := by
  cases b <;> simp [SlotBody.isReady]

namespace State.ClockRuns

theorem congr (h : s.ClockRuns) (hp : t.plans = s.plans) (hc : t.clock = s.clock) : t.ClockRuns := by
  obtain ⟨loading, ready, pend, act, below, inForce⟩ := h
  constructor <;> simp only [State.plan, hp, hc] <;> assumption

theorem plan_pos (h : s.ClockRuns) : 300 ≤ s.plan.c := by
  obtain ⟨hd, es, hb⟩ := SlotBody.isReady_iff.mp h.activeReady
  have := (h.ready _ _ _ hb).1
  simpa only [State.plan, PlanStore.header, hb, SlotBody.header] using this

end State.ClockRuns

@[simp] theorem PlanStore.slot_setSlot (ps : PlanStore) (i j : SlotIx) (x : Slot) :
    (ps.setSlot i x).slot j = if i = j then x else ps.slot j := by simp [PlanStore.slot, PlanStore.setSlot]

@[simp] theorem PlanStore.setSlot_active (ps : PlanStore) (i : SlotIx) (x : Slot) : (ps.setSlot i x).active = ps.active := rfl
@[simp] theorem PlanStore.setSlot_pendingSlot (ps : PlanStore) (i : SlotIx) (x : Slot) :
    (ps.setSlot i x).pendingSlot = ps.pendingSlot := rfl

theorem PlanStore.inUse_eq_false {ps : PlanStore} {i : SlotIx} (h : ps.inUse i = false) :
    ps.active ≠ i ∧ ps.pendingSlot ≠ some i := by simpa [PlanStore.inUse] using h

/-- A slot is rewritten: its cycle length is in range, and a slot in use stays READY under the same C. -/
theorem State.ClockRuns.setSlot {i : SlotIx} {x : Slot} (h : s.ClockRuns)
    (hl : ∀ hd q es, x.body = .loading hd q es → hd.cOk) (hr : ∀ hd es, x.body = .ready hd es → hd.cOk)
    (hu : s.plans.inUse i = true → (s.plans.slot i).body.isReady = true →
      x.body.isReady = true ∧ x.body.header.c = (s.plans.slot i).body.header.c) :
    (s.setPlans (s.plans.setSlot i x)).ClockRuns := by
  obtain ⟨loading, ready, pend, act, below, inForce⟩ := h
  refine ⟨fun j hd q es => ?_, fun j hd es => ?_, fun j hj => ?_, ?_, below, inForce.trans ?_⟩
  · simp only [State.setPlans_plans, PlanStore.slot_setSlot]
    split
    · exact hl hd q es
    · exact loading j hd q es
  · simp only [State.setPlans_plans, PlanStore.slot_setSlot]
    split
    · exact hr hd es
    · exact ready j hd es
  · replace hj : s.plans.pendingSlot = some j := hj
    simp only [State.setPlans_plans, PlanStore.slot_setSlot]
    split
    · next e => exact (hu (by simp [PlanStore.inUse, e, hj]) (e ▸ pend j hj)).1
    · exact pend j hj
  · simp only [State.setPlans_plans, PlanStore.slot_setSlot, PlanStore.setSlot_active]
    split
    · next e => exact (hu (by simp [PlanStore.inUse, e]) (e ▸ act)).1
    · exact act
  · simp only [State.plan, PlanStore.header, State.setPlans_plans, PlanStore.slot_setSlot, PlanStore.setSlot_active]
    split
    · next e => rw [(hu (by simp [PlanStore.inUse, e]) (e ▸ act)).2, e]
    · rfl

theorem State.setSlotBody_eq (i : SlotIx) (b : SlotBody) :
    s.setSlotBody i b = s.setPlans (s.plans.setSlot i { s.plans.slot i with body := b }) := rfl

/-- The plans after a rollover: the pending plan, if any, is active. -/
theorem State.turnCycle_plans (s : State) : s.turnCycle.plans =
    match s.plans.pendingSlot with
    | none => s.plans
    | some i => { s.plans with active := i, pendingSlot := none } := by
  cases h : s.plans.pendingSlot with
  | none => simp [State.turnCycle, State.activatePending, h]
  | some i => simp [State.turnCycle, State.activatePending, h]

/-- The clock after a rollover. -/
theorem State.turnCycle_clock (s : State) : s.turnCycle.clock =
    { s.clock with dsRunning := s.clock.dsLength, cyclePos := 0, cycleNo := s.clock.cycleNo + 1, c := s.turnCycle.plan.c } := by
  have activated (u : State) : u.activatePending.clock = u.clock := by unfold State.activatePending; split <;> rfl
  unfold State.turnCycle
  dsimp only [State.setClock_clock]
  rw [activated]
  rfl

theorem State.ClockRuns.turnCycle (h : s.ClockRuns) : s.turnCycle.ClockRuns := by
  have plans := s.turnCycle_plans
  obtain ⟨loading, ready, pend, act, below, inForce⟩ := h
  have slot (i : SlotIx) : s.turnCycle.plans.slot i = s.plans.slot i := by rw [plans]; split <;> rfl
  have active : (s.turnCycle.plans.slot s.turnCycle.plans.active).body.isReady = true := by
    rw [slot, plans]
    split
    · exact act
    · next i hi => exact pend i hi
  have clock := s.turnCycle_clock
  obtain ⟨hd, es, hb⟩ := SlotBody.isReady_iff.mp active
  have range : 300 ≤ s.turnCycle.plan.c := by
    have := (ready s.turnCycle.plans.active hd es (by rw [← slot]; exact hb)).1
    simpa only [State.plan, PlanStore.header, hb, SlotBody.header] using this
  refine ⟨fun i h q es => ?_, fun i h es => ?_, fun i hi => ?_, active, ?_, ?_⟩
  · rw [slot]; exact loading i h q es
  · rw [slot]; exact ready i h es
  · rw [plans] at hi
    rw [slot]
    split at hi
    · exact pend i hi
    · cases hi
  · rw [clock]; exact Nat.lt_of_lt_of_le (Nat.zero_lt_succ 299) range
  · rw [clock]

theorem Setting.clockRuns (h : Setting s t) (hs : s.ClockRuns) : t.ClockRuns := by
  have same {u : State} (hp : u.plans = s.plans) (hc : u.clock.cyclePos = s.clock.cyclePos)
      (hc' : u.clock.c = s.clock.c) : u.ClockRuns := by
    obtain ⟨loading, ready, pend, act, below, inForce⟩ := hs
    constructor <;> simp only [State.plan, hp, hc, hc'] <;> assumption
  cases h with
  | advance h =>
    obtain ⟨loading, ready, pend, act, below, inForce⟩ := hs
    exact ⟨loading, ready, pend, act, Nat.lt_of_le_of_ne below h, inForce⟩
  | turnCycle _ => exact hs.turnCycle
  | applyTimebase _ p x => unfold State.applyTimebase; split <;> exact same rfl rfl rfl
  | setEnables _ p e => unfold State.setEnables; split <;> exact same rfl rfl rfl
  | setVector _ p v c _ _ => unfold State.setVector at same ⊢; dsimp only; split <;> exact same rfl rfl rfl
  | reconfigureLine _ p t k c =>
    unfold State.reconfigureLine at same ⊢; dsimp only; split <;> exact same rfl rfl rfl
  | openSlot _ p i h base hc _ _ hu _ =>
    have opened : (s.setSlotBody i (.loading { h with base } p (List.replicate h.count none))).ClockRuns :=
      hs.setSlot (fun hd q es e => by cases e; exact hc) nofun fun e => by simp [hu] at e
    unfold State.openSlot
    dsimp only
    split
    · exact opened.congr rfl rfl
    · exact opened
  | writeEntry i h q es es' hb =>
    refine hs.setSlot (fun hd q' es'' e => ?_) nofun fun _ e => by simp [hb, SlotBody.isReady] at e
    cases e
    exact hs.loading i h q es hb
  | dropSlot _ p i _ hu =>
    have dropped : (s.setSlotBody i .empty).ClockRuns := hs.setSlot nofun nofun fun e => by simp [hu] at e
    unfold State.dropSlot
    split
    · exact hs
    · exact dropped
    · exact dropped.congr rfl rfl
  | setLocked _ p i b _ =>
    exact (hs.setSlot (i := i) (x := { s.plans.slot i with locked := b }) (hs.loading i) (hs.ready i)
      fun _ e => ⟨e, rfl⟩).congr rfl rfl
  | select i hr _ =>
    obtain ⟨loading, ready, pend, act, below, inForce⟩ := hs
    unfold PlanStore.select
    split
    · exact ⟨loading, ready, nofun, act, below, inForce⟩
    · exact ⟨loading, ready, fun j e => by cases e; exact hr, act, below, inForce⟩
  | _ => exact same rfl rfl rfl

theorem Membership.plans_clock (h : Membership s t) : t.plans = s.plans ∧ t.clock = s.clock := by
  have event (u : State) (p : Pos) (c : EnrolmentChange) :
      (u.enrolmentEvent p c).plans = u.plans ∧ (u.enrolmentEvent p c).clock = u.clock :=
    ⟨congrArg Kept.plans (State.kept_enrolmentEvent p c u), congrArg Kept.clock (State.kept_enrolmentEvent p c u)⟩
  cases h with
  | takesOver port p drop _ => exact ⟨rfl, rfl⟩
  | _ => exact event _ _ _

theorem State.loses_plans_clock (p : Pos) (drop : Nat) :
    (s.loses p drop).plans = s.plans ∧ (s.loses p drop).clock = s.clock := by
  have event (u : State) : (u.enrolmentEvent p .loses).plans = u.plans ∧ (u.enrolmentEvent p .loses).clock = u.clock :=
    ⟨congrArg Kept.plans (State.kept_enrolmentEvent p _ u), congrArg Kept.clock (State.kept_enrolmentEvent p _ u)⟩
  exact event _

theorem Change.plans_clock {T : Nat → Prop} (h : Change T s t) : t.plans = s.plans ∧ t.clock = s.clock ∨ Setting s t := by
  obtain h | h | h | ⟨-, h⟩ := h.quiet
  · exact .inl ⟨h.plans, h.clock⟩
  · exact .inl ⟨congrArg Kept.plans h, congrArg Kept.clock h⟩
  · exact .inr h
  · exact .inl h.plans_clock

theorem State.ClockRuns.closeSlot {i : SlotIx} {h : Header} {q : PortId} {es : List (Option Entry)}
    (hb : (s.plans.slot i).body = .loading h q es) (hs : s.ClockRuns) (p : PortId) (es' : List Entry) :
    (s.closeSlot p i h es').ClockRuns :=
  (hs.setSlot (i := i) (x := { locked := (s.plans.slot i).locked, gen := (s.plans.slot i).gen + 1, body := .ready h es' })
    nofun (fun hd es e => by cases e; exact hs.loading i h q _ hb) fun _ e => by simp [hb, SlotBody.isReady] at e).congr rfl rfl

theorem State.restart_clock_c : s.restart.clock.cyclePos = 0 ∧ s.restart.clock.c = s.restart.plan.c := by
  have plan : s.restart.plan = (PlanStore.restarted s.store).header s.store.active := by
    show s.restart.plans.header s.restart.plans.active = _
    rw [State.restart_plans]
    rfl
  rw [plan]
  obtain ⟨k, f, h, -, -, -, cyclePos, c⟩ := s.restartBlocks.acquireAfterRestart_eq
  have clock := s.restartBlocks_clock
  rw [State.restart, h]
  exact ⟨cyclePos.trans (by rw [clock]; rfl), c.trans (by rw [clock]; rfl)⟩

theorem restored_body (x : StoredSlot) : (∀ h q es, x.restored.body ≠ .loading h q es) ∧
    (∀ h es, x.restored.body = .ready h es ↔ x.plan = some ⟨h, es⟩) ∧ x.restored.body.isReady = x.plan.isSome := by
  obtain ⟨locked, gen, plan⟩ := x
  cases plan with
  | none => exact ⟨nofun, fun h es => ⟨nofun, nofun⟩, rfl⟩
  | some q =>
    refine ⟨nofun, fun h es => ?_, rfl⟩
    simp only [StoredSlot.restored, SlotBody.ready.injEq, Option.some.injEq]
    exact ⟨fun ⟨a, b⟩ => by rw [← a, ← b], fun e => by rw [e]; exact ⟨rfl, rfl⟩⟩

theorem PlanStore.restarted_slot (st : Store) (i : SlotIx) : (PlanStore.restarted st).slot i = (st.slots.get i).restored := by
  simp [PlanStore.restarted, PlanStore.slot]

theorem State.ClockRuns.restart (h : s.store.plansOk) : s.restart.ClockRuns := by
  obtain ⟨range, act⟩ := h
  have slot (i : SlotIx) : s.restart.plans.slot i = (s.store.slots.get i).restored := by
    rw [State.restart_plans, PlanStore.restarted_slot]
  have active : s.restart.plans.active = s.store.active := by rw [State.restart_plans]; rfl
  have readyCOk (i : SlotIx) (h : Header) (es : List Entry) (e : (s.restart.plans.slot i).body = .ready h es) : h.cOk :=
    range i ⟨h, es⟩ (((restored_body _).2.1 h es).mp (by rw [← slot]; exact e))
  have activeReady : (s.restart.plans.slot s.restart.plans.active).body.isReady = true := by
    rw [slot, active, (restored_body _).2.2]; exact act
  have planC : 300 ≤ s.restart.plan.c := by
    obtain ⟨h, es, hb⟩ := SlotBody.isReady_iff.mp activeReady
    have := (readyCOk _ _ _ hb).1
    simpa only [State.plan, PlanStore.header, hb, SlotBody.header] using this
  obtain ⟨cyclePos, c⟩ := State.restart_clock_c (s := s)
  refine ⟨fun i h q es e => absurd (by rw [← slot]; exact e) ((restored_body _).1 h q es), readyCOk, fun i e => ?_,
    activeReady, ?_, c⟩
  · rw [State.restart_plans] at e; cases e
  · rw [cyclePos, c]; omega

theorem Slot.stored_plan (x : Slot) : (∀ q, x.stored.plan = some q ↔ x.body = .ready q.h q.entries) ∧
    x.stored.plan.isSome = x.body.isReady := by
  obtain ⟨locked, gen, body⟩ := x
  cases body with
  | ready h es =>
    refine ⟨fun q => ?_, rfl⟩
    simp only [Slot.stored, Option.some.injEq, SlotBody.ready.injEq]
    exact ⟨fun e => by rw [← e]; exact ⟨rfl, rfl⟩, fun ⟨a, b⟩ => by rw [a, b]⟩
  | empty => exact ⟨fun q => ⟨nofun, nofun⟩, rfl⟩
  | loading h q es => exact ⟨fun q => ⟨nofun, nofun⟩, rfl⟩

theorem State.configuration_slots (i : SlotIx) : s.configuration.slots.get i = (s.plans.slot i).stored := by
  simp [State.configuration]

theorem Store.plansOk_of_mirror (m : s.store = s.configuration) :
    s.store.plansOk ↔ (∀ i h es, (s.plans.slot i).body = .ready h es → h.cOk) ∧
      (s.plans.slot s.plans.active).body.isReady = true := by
  have active : s.store.active = s.plans.active := by rw [m]; rfl
  have slot (i : SlotIx) : s.store.slots.get i = (s.plans.slot i).stored := by rw [m, State.configuration_slots]
  simp only [Store.plansOk, active, slot, (Slot.stored_plan _).1, (Slot.stored_plan _).2]
  exact and_congr_left fun _ => ⟨fun h i hd es e => h i ⟨hd, es⟩ e, fun h i q e => h i _ _ e⟩

theorem clockLaw_iff : ClockBase s ∧ ClockLaw s ↔ ConfigLaw Store.plansOk State.ClockRuns s := by
  constructor
  · rintro ⟨⟨mirror, stored, before, running⟩, clock⟩
    refine ⟨mirror, stored, before, fun hp => ?_⟩
    obtain ⟨loading, pend⟩ := running hp
    obtain ⟨below, inForce, act⟩ := clock hp
    exact ⟨loading, ((Store.plansOk_of_mirror (mirror hp)).mp stored).1, pend, act, below, inForce⟩
  · rintro ⟨mirror, stored, before, running⟩
    exact ⟨⟨mirror, stored, before, fun hp => ⟨(running hp).loading, (running hp).pendingReady⟩⟩,
      fun hp => ⟨(running hp).below, (running hp).inForce, (running hp).activeReady⟩⟩

theorem Store.factory_slots (i : SlotIx) : Store.factory.slots.get i =
    if 0 = i then { locked := true, gen := 0, plan := some factoryPlan } else { locked := false, gen := 0, plan := none } := by
  unfold Store.factory
  have read (a b : StoredSlot) : ((Vector.replicate 16 a).set 0 b).get i = if 0 = i then b else a := by
    simp [Vector.get_eq_getElem, Vector.getElem_set, Fin.ext_iff]
  simp only [read]

/-- The factory configuration holds one plan, in slot 0. -/
theorem Store.factory_plan {i : SlotIx} {q : StoredPlan} (h : (Store.factory.slots.get i).plan = some q) :
    i = 0 ∧ q = factoryPlan := by
  rw [Store.factory_slots] at h
  split at h
  · next e => exact ⟨e.symm, (Option.some.inj h).symm⟩
  · cases h

theorem Store.factory_active : Store.factory.active = 0 := by unfold Store.factory; rfl

theorem Store.factory_plansOk : Store.factory.plansOk := by
  have range : factoryPlan.h.cOk := show 300 ≤ 900 ∧ 900 ≤ 2400 by decide
  have active : (Store.factory.slots.get Store.factory.active).plan = some factoryPlan := by
    rw [Store.factory_active, Store.factory_slots, if_pos rfl]
  exact ⟨fun i q e => (Store.factory_plan e).2 ▸ range, by rw [active]; rfl⟩

theorem State.seekActivation_plans_clock (s : State) :
    s.seekActivation.plans = s.plans ∧ s.seekActivation.clock = s.clock :=
  ⟨s.mapPosRec_plans _, s.mapPosRec_clock _⟩

theorem clockLaw_kept : ConfigLaw.Kept Store.plansOk State.ClockRuns where
  mirrored s m h := (Store.plansOk_of_mirror m).mpr ⟨h.ready, h.activeReady⟩
  restart s h := .restart h
  factory := Store.factory_plansOk
  change T s t c _ h := by
    obtain ⟨hp, hc⟩ | h' := c.plans_clock
    · exact h.congr hp hc
    · exact h'.clockRuns h
  turnCycle s _ h := h.turnCycle
  seekActivation s _ h := h.congr s.seekActivation_plans_clock.1 s.seekActivation_plans_clock.2
  loses s p drop _ h := h.congr (State.loses_plans_clock p drop).1 (State.loses_plans_clock p drop).2
  closeSlot s p q i h es hb _ hs := hs.closeSlot hb p _

/-! ### The plans, their runs and what they cover -/

namespace State.PlansKept

/-- The laws of the plans read the plans and the enrolments alone. -/
theorem congr (h : s.PlansKept) (hp : t.plans = s.plans) (he : ∀ p, t.isEnrolled p = s.isEnrolled p) : t.PlansKept := by
  obtain ⟨factory, inPool, apart, covered⟩ := h
  constructor <;> simp only [hp, he] <;> assumption

theorem congr_enrolment (h : s.PlansKept) (hp : t.plans = s.plans)
    (he : ∀ p, (t.posRec p).enrolment = (s.posRec p).enrolment) : t.PlansKept :=
  h.congr hp fun p => by simp only [State.isEnrolled, he]

/-- A slot other than slot 0 is rewritten: its run lies in the pool apart from the others, and in use it keeps its entries. -/
theorem setSlot {i : SlotIx} {x : Slot} (h : s.PlansKept)
    (h0 : i = 0 → x = ⟨true, 0, .ready factoryHeader factoryEntries⟩)
    (hin : x.body ≠ .empty → 1 ≤ x.body.header.count ∧ x.body.header.base + x.body.header.count ≤ 256)
    (ha : ∀ j, j ≠ i → x.body ≠ .empty → (s.plans.slot j).body ≠ .empty →
      x.body.header.base + x.body.header.count ≤ (s.plans.header j).base ∨
        (s.plans.header j).base + (s.plans.header j).count ≤ x.body.header.base)
    (hc : s.plans.inUse i = true → (s.plans.slot i).body.entries ≠ [] → x.body.entries = (s.plans.slot i).body.entries) :
    (s.setPlans (s.plans.setSlot i x)).PlansKept := by
  obtain ⟨factory, inPool, apart, covered⟩ := h
  have header (j : SlotIx) : (s.plans.setSlot i x).header j = if i = j then x.body.header else s.plans.header j := by
    simp only [PlanStore.header, PlanStore.slot_setSlot]
    split <;> rfl
  constructor
  · simp only [State.setPlans_plans, PlanStore.slot_setSlot]
    split
    · next e => exact h0 e
    · exact factory
  · intro j
    simp only [State.setPlans_plans, PlanStore.slot_setSlot, header]
    split
    · exact hin
    · exact inPool j
  · intro j k hjk
    simp only [State.setPlans_plans, PlanStore.slot_setSlot, header]
    split <;> split
    · next hj hk => exact absurd (hj.symm.trans hk) hjk
    · next hj _ => exact fun hx hk => ha k (fun e => hjk (hj.symm.trans e.symm)) hx hk
    · next hk => exact fun hj hx => (ha j (fun e => hjk (e.trans hk)) hx hj).symm
    · exact apart j k hjk
  · intro p j he hj
    simp only [State.setPlans_plans, PlanStore.slot_setSlot]
    have old := covered p j he hj
    split
    · next e =>
      have used : s.plans.inUse i = true := by
        rw [e]
        obtain hj | hj := hj
        · simp [PlanStore.inUse, show j = s.plans.active from hj]
        · simp [PlanStore.inUse, show s.plans.pendingSlot = some j from hj]
      obtain ⟨_, hm, -⟩ := old
      rw [hc used (e ▸ List.ne_nil_of_mem hm), e]
      exact covered p j he hj
    · exact old

end State.PlansKept

theorem PlanStore.entryOf_isSome {ps : PlanStore} {i : SlotIx} {p : Pos} (h : (ps.entryOf i p).isSome = true) :
    ∃ e, e ∈ (ps.slot i).body.entries ∧ e.position = p.val + 1 := by
  obtain ⟨e, he⟩ := Option.isSome_iff_exists.mp h
  unfold PlanStore.entryOf at he
  exact ⟨e, List.mem_of_find?_eq_some he, by simpa [posNum] using List.find?_some he⟩

/-- A run placed first-fit lies in the pool and meets no run of another slot (R21). -/
theorem PlanStore.firstFit_spec {ps : PlanStore} {i : SlotIx} {n base : Nat} (h : ps.firstFit i n = some base) :
    base + n ≤ 256 ∧ ∀ j, j ≠ i → (ps.slot j).body ≠ .empty →
      base + n ≤ (ps.header j).base ∨ (ps.header j).base + (ps.header j).count ≤ base := by
  have found := List.find?_some h
  simp only [Bool.and_eq_true, decide_eq_true_eq, PlanStore.runFree, List.all_eq_true] at found
  refine ⟨found.1, fun j hj hb => ?_⟩
  have := found.2 j (List.mem_finRange j)
  unfold PlanStore.header
  cases hs : (ps.slot j).body with
  | empty => exact absurd hs hb
  | loading h q es =>
    simpa [hj, hs, SlotBody.run, PoolRun.disjoint, SlotBody.header] using this
  | ready h es =>
    simpa [hj, hs, SlotBody.run, PoolRun.disjoint, SlotBody.header] using this

theorem State.PlansKept.zero_locked (h : s.PlansKept) {i : SlotIx} (hl : (s.plans.slot i).locked = false) : i ≠ 0 := by
  rintro rfl
  rw [h.factory] at hl
  cases hl

theorem State.PlansKept.zero_ready (h : s.PlansKept) {i : SlotIx} (hl : (s.plans.slot i).body.isReady = false) : i ≠ 0 := by
  rintro rfl
  rw [h.factory] at hl
  cases hl

/-- A slot rewritten with the run it has. -/
theorem State.PlansKept.sameRun {i : SlotIx} {x : Slot} (h : s.PlansKept)
    (h0 : i = 0 → x = ⟨true, 0, .ready factoryHeader factoryEntries⟩) (hn : (s.plans.slot i).body ≠ .empty)
    (hh : x.body.header = s.plans.header i)
    (hc : s.plans.inUse i = true → (s.plans.slot i).body.entries ≠ [] → x.body.entries = (s.plans.slot i).body.entries) :
    (s.setPlans (s.plans.setSlot i x)).PlansKept :=
  h.setSlot h0 (fun _ => hh ▸ h.inPool i hn) (fun j hj _ hb => hh ▸ h.apart i j hj.symm hn hb) hc

theorem State.PlansKept.turnCycle (h : s.PlansKept) : s.turnCycle.PlansKept := by
  have plans := s.turnCycle_plans
  have enrolled (p : Pos) : s.turnCycle.isEnrolled p = s.isEnrolled p := by
    simp only [State.isEnrolled, State.posRec_of_pos (State.turnCycle_pos s)]
  obtain ⟨factory, inPool, apart, covered⟩ := h
  have slot (i : SlotIx) : s.turnCycle.plans.slot i = s.plans.slot i := by rw [plans]; split <;> rfl
  have header (i : SlotIx) : s.turnCycle.plans.header i = s.plans.header i := by simp only [PlanStore.header, slot]
  constructor
  · rw [slot]; exact factory
  · intro i; rw [slot, header]; exact inPool i
  · intro i j; rw [slot, slot, header, header]; exact apart i j
  · intro p i he hi
    rw [enrolled] at he
    rw [slot]
    refine covered p i he ?_
    rw [plans] at hi
    split at hi
    · exact hi
    · next j hj =>
      obtain rfl | hi := hi
      · exact .inr hj
      · cases hi

theorem Setting.plansKept (h : Setting s t) (hs : s.PlansKept) : t.PlansKept := by
  have same {u : State} (hp : u.plans = s.plans) (hu : u.pos = s.pos) : u.PlansKept :=
    hs.congr hp fun p => by simp only [State.isEnrolled, State.posRec_of_pos hu]
  cases h with
  | turnCycle _ => exact hs.turnCycle
  | applyTimebase _ p x => unfold State.applyTimebase; split <;> exact same rfl rfl
  | setEnables _ p e => unfold State.setEnables; split <;> exact same rfl rfl
  | setVector _ p v c _ _ => unfold State.setVector; dsimp only; split <;> exact same rfl rfl
  | reconfigureLine _ p t k c => unfold State.reconfigureLine; dsimp only; split <;> exact same rfl rfl
  | openSlot _ p i h base hc hn hl hu hf =>
    obtain ⟨fits, apart⟩ := PlanStore.firstFit_spec hf
    have opened : (s.setSlotBody i (.loading { h with base } p (List.replicate h.count none))).PlansKept :=
      hs.setSlot (fun e => absurd e (hs.zero_locked hl)) (fun _ => ⟨hn, fits⟩) (fun j hj _ hb => apart j hj hb)
        fun e => by simp [hu] at e
    unfold State.openSlot
    dsimp only
    split
    · exact opened.congr rfl fun _ => rfl
    · exact opened
  | writeEntry i h q es es' hb =>
    refine hs.sameRun (fun e => absurd e (hs.zero_ready (by rw [hb]; rfl))) (by simp [hb]) ?_ fun _ e => ?_
    · simp [PlanStore.header, hb, SlotBody.header]
    · simp [hb, SlotBody.entries] at e
  | dropSlot _ p i hl hu =>
    have dropped : (s.setSlotBody i .empty).PlansKept :=
      hs.setSlot (fun e => absurd e (hs.zero_locked hl)) (fun e => absurd rfl e) (fun j _ e => absurd rfl e)
        fun e => by simp [hu] at e
    unfold State.dropSlot
    split
    · exact hs
    · exact dropped
    · exact dropped.congr rfl fun _ => rfl
  | setLocked _ p i b h0 =>
    have locked : (s.setPlans (s.plans.setSlot i { s.plans.slot i with locked := b })).PlansKept := by
      refine hs.setSlot (fun e => ?_) (hs.inPool i) (fun j hj hn hb => hs.apart i j hj.symm hn hb) fun _ _ => rfl
      rw [h0 e, e, hs.factory]
    exact locked.congr rfl fun _ => rfl
  | select i hr hc =>
    obtain ⟨factory, inPool, apart, covered⟩ := hs
    have covers (p : Pos) (he : s.isEnrolled p = true) : ∃ e, e ∈ (s.plans.slot i).body.entries ∧ e.position = p.val + 1 :=
      PlanStore.entryOf_isSome (List.all_eq_true.mp hc p (List.mem_filter.mpr ⟨List.mem_finRange p, he⟩))
    unfold PlanStore.select
    split
    · exact ⟨factory, inPool, apart, fun p j he hj => covered p j he (hj.imp_right nofun)⟩
    · refine ⟨factory, inPool, apart, fun p j he hj => ?_⟩
      obtain hj | hj := hj
      · exact covered p j he (.inl hj)
      · cases hj
        exact covers p he
  | _ => exact same rfl rfl

theorem Membership.plansKept (h : Membership s t) (hs : s.PlansKept) : t.PlansKept := by
  obtain ⟨p, e, hr, -, hc⟩ := h.enrolment
  have plans := h.plans_clock.1
  obtain ⟨factory, inPool, apart, covered⟩ := hs
  constructor <;> simp only [plans] <;> try assumption
  intro q i he hi
  rw [State.isEnrolled, hr q] at he
  split at he
  · next e =>
    subst e
    obtain ⟨active, pend⟩ := State.plansCover_iff.mp (hc he)
    obtain rfl | hi := hi
    · exact PlanStore.entryOf_isSome active
    · exact PlanStore.entryOf_isSome (pend i hi)
  · exact covered q i he hi

theorem State.PlansKept.loses (hs : s.PlansKept) (p : Pos) (drop : Nat) : (s.loses p drop).PlansKept := by
  have plans := (State.loses_plans_clock (s := s) p drop).1
  obtain ⟨factory, inPool, apart, covered⟩ := hs
  constructor <;> simp only [plans] <;> try assumption
  intro q i he hi
  rw [State.isEnrolled, State.loses_reenrols p drop q] at he
  split at he
  · cases he
  · exact covered q i he hi

theorem State.PlansKept.stored (m : s.store = s.configuration) (h : s.PlansKept) : s.store.PlansKept := by
  obtain ⟨factory, inPool, apart, covered⟩ := h
  have slot (i : SlotIx) : s.store.slots.get i = (s.plans.slot i).stored := by rw [m, State.configuration_slots]
  have body {i x} (hx : (s.store.slots.get i).plan = some x) : (s.plans.slot i).body = .ready x.h x.entries :=
    ((Slot.stored_plan _).1 x).mp (by rw [← slot]; exact hx)
  have header {i x} (hx : (s.store.slots.get i).plan = some x) : s.plans.header i = x.h := by
    simp only [PlanStore.header, body hx, SlotBody.header]
  have filled {i x} (hx : (s.store.slots.get i).plan = some x) : (s.plans.slot i).body ≠ .empty := by
    rw [body hx]; nofun
  refine ⟨by rw [slot, factory]; rfl, fun i x hx => ?_, fun i j x y hij hx hy => ?_, fun p x he hx => ?_⟩
  · rw [← header hx]; exact inPool i (filled hx)
  · rw [← header hx, ← header hy]; exact apart i j hij (filled hx) (filled hy)
  · have active : s.store.active = s.plans.active := by rw [m]; rfl
    rw [m, State.configuration_chain] at he
    have := covered p s.plans.active he (.inl rfl)
    rw [← active, body hx] at this
    exact this

theorem State.PlansKept.restart (ok : s.store.plansOk) (h : s.store.PlansKept) : s.restart.PlansKept := by
  obtain ⟨factory, inPool, apart, covered⟩ := h
  have slot (i : SlotIx) : s.restart.plans.slot i = (s.store.slots.get i).restored := by
    rw [State.restart_plans, PlanStore.restarted_slot]
  have plan {i} (hb : (s.restart.plans.slot i).body ≠ .empty) : (s.store.slots.get i).plan =
      some ⟨s.restart.plans.header i, (s.restart.plans.slot i).body.entries⟩ := by
    rw [PlanStore.header, slot]
    rw [slot] at hb
    cases hp : (s.store.slots.get i).plan with
    | none => simp [StoredSlot.restored, hp] at hb
    | some q => simp [StoredSlot.restored, hp, SlotBody.header, SlotBody.entries]
  refine ⟨by rw [slot, factory]; rfl, fun i hb => inPool i _ (plan hb),
    fun i j hij hi hj => apart i j _ _ hij (plan hi) (plan hj), fun p i he hi => ?_⟩
  have active : s.restart.plans.active = s.store.active ∧ s.restart.plans.pendingSlot = none := by
    rw [State.restart_plans]; exact ⟨rfl, rfl⟩
  rw [active.1, active.2] at hi
  obtain rfl := hi.resolve_right nofun
  rw [State.isEnrolled, State.restart_posRec] at he
  obtain ⟨q, hq⟩ := Option.isSome_iff_exists.mp ok.2
  have entries : (s.restart.plans.slot s.store.active).body.entries = q.entries := by
    rw [slot, ((restored_body _).2.1 q.h q.entries).mpr hq]; rfl
  rw [entries]
  exact covered p q he hq

theorem Store.factory_plansKept : Store.factory.PlansKept := by
  refine ⟨by rw [Store.factory_slots, if_pos rfl], fun i x hx => ?_, fun i j x y hij hx hy => ?_, fun p x he _ => ?_⟩
  · rw [(Store.factory_plan hx).2]
    exact show 1 ≤ 24 ∧ 0 + 24 ≤ 256 by decide
  · exact absurd ((Store.factory_plan hx).1.trans (Store.factory_plan hy).1.symm) hij
  · simp [Store.factory, Enrolment.isEnrolled] at he

/-- What a store may hold of plans, and what the running part may. -/
abbrev Store.PlansRight (st : Store) : Prop := st.plansOk ∧ st.PlansKept
abbrev State.PlansRight (s : State) : Prop := s.ClockRuns ∧ s.PlansKept

theorem planLaw_kept : ConfigLaw.Kept Store.PlansRight State.PlansRight where
  mirrored s m h := ⟨clockLaw_kept.mirrored s m h.1, h.2.stored m⟩
  restart s h := ⟨.restart h.1, .restart h.1 h.2⟩
  factory := ⟨Store.factory_plansOk, Store.factory_plansKept⟩
  change T s t c hp h := by
    refine ⟨clockLaw_kept.change T s t c hp h.1, ?_⟩
    obtain a | k | c | ⟨-, c⟩ := c.quiet
    · exact h.2.congr_enrolment a.plans fun p => by rw [State.posRec_of_pos a.pos]
    · exact h.2.congr_enrolment (congrArg Kept.plans k) (State.enrolment_of_kept k)
    · exact c.plansKept h.2
    · exact c.plansKept h.2
  turnCycle s hp h := ⟨h.1.turnCycle, h.2.turnCycle⟩
  seekActivation s hp h := ⟨clockLaw_kept.seekActivation s hp h.1,
    h.2.congr_enrolment s.seekActivation_plans_clock.1
      (State.enrolment_of_kept (State.kept_seekActivation s))⟩
  loses s p drop he h := ⟨clockLaw_kept.loses s p drop he h.1, h.2.loses p drop⟩
  closeSlot s p q i h es hb hf hs := by
    refine ⟨hs.1.closeSlot hb p _, ?_⟩
    have closed : (s.setPlans (s.plans.setSlot i
        ⟨(s.plans.slot i).locked, (s.plans.slot i).gen + 1, .ready h (es.filterMap id)⟩)).PlansKept :=
      hs.2.sameRun (fun e => absurd e (hs.2.zero_ready (by rw [hb]; rfl))) (by simp [hb])
        (by simp [PlanStore.header, hb, SlotBody.header]) fun _ e => by simp [hb, SlotBody.entries] at e
    exact closed.congr rfl fun _ => rfl

theorem planLaw_iff (h : ConfigLaw Store.plansOk State.ClockRuns s) :
    PlanLaw s ↔ ConfigLaw Store.PlansRight State.PlansRight s :=
  ⟨fun ⟨a, b, c⟩ => ⟨h.mirror, ⟨h.stored, a⟩, fun u e => ⟨h.before u e, b u e⟩, fun hp => ⟨h.running hp, c hp⟩⟩,
    fun k => ⟨k.stored.2, fun u e => (k.before u e).2, fun hp => (k.running hp).2⟩⟩

/-- Settles O56: the plans in use are READY, their runs placed apart, and every enrolment covered. -/
theorem stepKeepsClockLaw : Obligations.StepKeepsClockLaw := by
  intro s t h base clock
  obtain rfl | ⟨rest, hr⟩ := step_cases h
  · exact ⟨base, clock, id⟩
  · have law : ConfigLaw Store.plansOk State.ClockRuns { s with pending := rest } := clockLaw_iff.mp ⟨base, clock⟩
    have kept := ConfigLaw.steps clockLaw_kept hr law
    obtain ⟨base', clock'⟩ := clockLaw_iff.mpr kept
    refine ⟨base', clock', fun ⟨stored, before, running⟩ => (planLaw_iff kept).mpr (ConfigLaw.steps planLaw_kept hr ?_)⟩
    exact (planLaw_iff law).mp ⟨stored, before, fun hp => (running hp).congr rfl fun _ => rfl⟩

end Sys2Proof.Machine
end

section
/-! The laws of the timebase (R38), of the fault record (R171) and of the members of coordination (R155). -/

namespace Sys2Proof.Machine

variable {s t : State}

/-- What every change keeps, a run of changes keeps. -/
theorem Changes.keep {L : State → Prop} (hc : ∀ (T : Nat → Prop) (s t : State), Change T s t → L s → L t) {T : Nat → Prop}
    (h : Changes T s t) (hs : L s) : L t := by
  induction h with
  | refl => exact hs
  | tail _ c ih => exact hc T _ _ c ih

/-- A law of the running part is kept by `Steps` when every change keeps it, and the larger changes do. -/
structure RunningLaw (L : State → Prop) : Prop where
  change : ∀ (T : Nat → Prop) (s t : State), Change T s t → L s → L t
  loss : ∀ (s : State) (p : Pos) (drop : Nat), (s.posRec p).enrolment = .enrolled drop → L s → L (s.loses p drop).reportCount
  turnCycle : ∀ s : State, s.plans.pendingSlot.isSome = true → L s → L s.turnCycle
  seekActivation : ∀ s : State, L s → L s.seekActivation
  closeSlot : ∀ (s : State) (p q : PortId) (i : SlotIx) (h : Header) (es : List (Option Entry)),
    (s.plans.slot i).body = .loading h q es → L s → L (s.closeSlot p i h (es.filterMap id))
  restart : ∀ s : State, L s → L s.restart
  eraseStore : ∀ (s : State) (p : PortId), L s → L (s.eraseStore p)
  losePower : ∀ (s : State) (torn : Bool), L s → L (s.losePower torn)

namespace RunningLaw

variable {L : State → Prop}

theorem changes (k : RunningLaw L) {T : Nat → Prop} (h : Changes T s t) (hs : L s) : L t := h.keep k.change hs

theorem aside (k : RunningLaw L) (h : s.Aside t) (hs : L s) : L t := k.change NoTarget s t (.aside h) hs

theorem steps (k : RunningLaw L) (h : Steps s t) (hs : L s) : L t := by
  cases h with
  | run c => exact k.changes c hs
  | loss c _ he c' => exact k.changes c' (k.loss _ _ _ he (k.changes c hs))
  | activation c _ ha c1 c2 =>
    exact k.changes c2 (k.seekActivation _ (k.changes c1 (k.turnCycle _ ha (k.changes c hs))))
  | close ha _ hb _ ha' => exact k.aside ha' (k.closeSlot _ _ _ _ _ _ hb (k.aside ha hs))
  | restart ha => exact k.restart _ (k.aside ha hs)
  | erase ha hv => exact k.restart _ (k.aside hv (k.eraseStore _ _ (k.aside ha hs)))
  | losePower torn => exact k.losePower _ torn hs

/-- A law that a step keeps. -/
theorem step (k : RunningLaw L) (hq : ∀ (s : State) (rest : List Instr), L s → L { s with pending := rest })
    (h : Sys2Proof.Machine.step s = .next t) (hs : L s) : L t := by
  obtain rfl | ⟨rest, hr⟩ := step_cases h
  · exact hs
  · exact k.steps hr (hq s rest hs)

end RunningLaw

theorem Changes.reportCount {T : Nat → Prop} (s : State) : Changes T s s.reportCount := by
  unfold State.reportCount
  split
  · exact .fallbackUnlessOut _ _
  · exact .refl _

/-! ### The timebase -/

theorem Setting.timebaseLaw (h : Setting s t) (hs : TimebaseLaw s) : TimebaseLaw t := by
  have same {u : State} (hu : u.clock = s.clock) : TimebaseLaw u := by rw [TimebaseLaw, hu]; exact hs
  cases h with
  | advance _ => exact hs
  | turnCycle _ => rw [TimebaseLaw, State.turnCycle_clock]; exact hs
  | timebase h => exact h hs
  | applyTimebase _ p x =>
    obtain ⟨pref, len⟩ := hs
    unfold State.applyTimebase
    split
    iterate 2 exact ⟨⟨fun _ => rfl, fun _ => rfl⟩, rfl⟩
    · next e =>
      refine ⟨⟨nofun, nofun⟩, by omega, ?_⟩
      rw [e] at len
      exact len
    iterate 3 exact ⟨pref, len⟩
  | setInterval _ p n => exact hs
  | setEnables _ p e => unfold State.setEnables; split <;> exact same rfl
  | setVector _ p v c _ _ => unfold State.setVector; dsimp only; split <;> exact same rfl
  | reconfigureLine _ p t k c => unfold State.reconfigureLine; dsimp only; split <;> exact same rfl
  | openSlot _ p i h base _ _ _ _ _ => unfold State.openSlot; dsimp only; split <;> exact same rfl
  | dropSlot _ p i _ _ => unfold State.dropSlot; split <;> exact same rfl
  | _ => exact same rfl

theorem TimebaseLaw.restart (s : State) : TimebaseLaw s.restart := by
  obtain h | ⟨pref, h⟩ : (s.restart = s.restartBlocks ∧ s.restartBlocks.clock.pref = .internalOnly) ∨
      s.restartBlocks.clock.pref = .preferReference ∧
        s.restart = (s.restartBlocks.setTimebase (.acquiring 0 none) s.restartBlocks.clock.dsLength).alert .timebase := by
    rw [State.restart]
    generalize s.restartBlocks = u
    unfold State.acquireAfterRestart
    split
    · next e => exact .inl ⟨rfl, e⟩
    · next e => exact .inr ⟨e, rfl⟩
  · obtain ⟨h, pref⟩ := h
    rw [TimebaseLaw, h, pref, State.restartBlocks_clock]
    exact ⟨⟨fun _ => rfl, fun _ => rfl⟩, rfl⟩
  · have clock : s.restart.clock = { s.restartBlocks.clock with tb := .acquiring 0 none } := by rw [h]; rfl
    rw [TimebaseLaw, clock]
    refine ⟨⟨nofun, fun e => nomatch pref.symm.trans e⟩, by omega, ?_⟩
    rw [State.restartBlocks_clock]
    rfl

theorem timebaseLaw_running : RunningLaw TimebaseLaw := by
  have same {s t : State} (h : t.clock = s.clock) (hs : TimebaseLaw s) : TimebaseLaw t := by rw [TimebaseLaw, h]; exact hs
  have change (T : Nat → Prop) (s t : State) (c : Change T s t) (hs : TimebaseLaw s) : TimebaseLaw t := by
    obtain ⟨-, h⟩ | h := c.plans_clock
    · exact same h hs
    · exact h.timebaseLaw hs
  exact {
    change
    loss := fun s p drop _ hs =>
      (Changes.reportCount (T := NoTarget) _).keep change (same (State.loses_plans_clock p drop).2 hs)
    turnCycle := fun s _ hs => by rw [TimebaseLaw, State.turnCycle_clock]; exact hs
    seekActivation := fun s hs => same s.seekActivation_plans_clock.2 hs
    closeSlot := fun s p q i h es _ hs => same (by rfl) hs
    restart := fun s _ => .restart s
    eraseStore := fun s p hs => hs
    losePower := fun s torn hs => hs }

/-- Settles O54: INTERNAL is entered under INTERNAL_ONLY alone and left otherwise, and the decisecond follows the state. -/
theorem stepKeepsTimebaseLaw : Obligations.StepKeepsTimebaseLaw := fun _ _ h hs =>
  timebaseLaw_running.step (fun _ _ hs => hs) h hs

/-! ### The members of coordination -/

theorem State.enrolledCount_of_enrolment (h : ∀ p, (t.posRec p).enrolment = (s.posRec p).enrolment) :
    t.enrolledCount = s.enrolledCount := by
  have enrolled : t.isEnrolled = s.isEnrolled := funext fun p => by simp only [State.isEnrolled, h]
  simp only [State.enrolledCount, State.enrolledList, enrolled]

/-- Filters that agree but for one element, met once, differ in length by at most one. -/
theorem length_filter_le_of_agree {α : Type} {f g : α → Bool} {l : List α} (hl : l.Nodup) {a : α}
    (h : ∀ b, b ≠ a → g b = f b) : (l.filter f).length ≤ (l.filter g).length + 1 := by
  induction l with
  | nil => simp
  | cons b l ih =>
    obtain ⟨hb, hl⟩ := List.nodup_cons.mp hl
    by_cases e : b = a
    · subst e
      have rest : l.filter g = l.filter f := List.filter_congr fun c hc => h c fun e => hb (e ▸ hc)
      simp only [List.filter_cons, rest]
      grind
    · have := ih hl
      simp only [List.filter_cons, h b e]
      split
      · simpa using this
      · exact this

theorem State.Reenrols.enrolledCount_le {p : Pos} {e : Enrolment} (h : s.Reenrols p e t) :
    s.enrolledCount ≤ t.enrolledCount + 1 := by
  refine length_filter_le_of_agree (a := p) (List.nodup_finRange 24) fun q hq => ?_
  simp only [State.isEnrolled, h q, if_neg (Ne.symm hq)]

/-- A position that is not ENROLLED changes its enrolment. -/
theorem State.Reenrols.enrolledCount_mono {p : Pos} {e : Enrolment} (h : s.Reenrols p e t)
    (hp : (s.posRec p).enrolment.isEnrolled = true → e.isEnrolled = true) : s.enrolledCount ≤ t.enrolledCount := by
  refine List.Sublist.length_le (List.monotone_filter_right allPos fun q => ?_)
  simp only [State.isEnrolled, h q]
  split
  · next e => subst e; exact hp
  · exact id

theorem Membership.master (h : Membership s t) : t.ctl = s.ctl := by
  have setMisses (u : State) (p : Pos) (n : Nat) : (u.setMisses p n).ctl = u.ctl := by
    unfold State.setMisses
    dsimp only
    split
    · rfl
    · split <;> rfl
  have putSeek (u : State) (p : Pos) (r : PosRec) : (u.putSeek p r).ctl = u.ctl := by
    unfold State.putSeek
    dsimp only
    split <;> rfl
  cases h with
  | enrolls port p drop _ _ _ => exact (putSeek _ _ _).trans (setMisses _ _ _)
  | excludes port p drop _ _ _ => exact putSeek _ _ _
  | vacates port p _ _ => exact (putSeek _ _ _).trans (setMisses _ _ _)
  | takesOver port p drop _ => rfl
  | vacateExcluded port p _ => exact setMisses _ _ _

end Sys2Proof.Machine
end

section
/-! What a step does to one position record: the record operations by their fields, the changes of `Change` as steps of each record,
and the laws that speak of one record at a time. -/

namespace Sys2Proof.Machine

variable {s t : State}

/-! ### Records after the writes of the blocks -/

section Writes

variable (s : State) (p q : Pos)

@[simp] theorem State.posRec_alert (c : AlertClass) : (s.alert c).posRec q = s.posRec q := rfl
@[simp] theorem State.posRec_fault (i : FaultInfo) : (s.fault i).posRec q = s.posRec q := rfl
@[simp] theorem State.posRec_setTrunk (x : Trunk) : (s.setTrunk x).posRec q = s.posRec q := rfl
@[simp] theorem State.posRec_setBand (x : Band) : (s.setBand x).posRec q = s.posRec q := rfl
@[simp] theorem State.posRec_setPre (x : Pre) : (s.setPre x).posRec q = s.posRec q := rfl
@[simp] theorem State.posRec_setOrder (e : Option OrderEntry) : (s.setOrder p e).posRec q = s.posRec q := rfl
@[simp] theorem State.posRec_placeOrder (o : Order) : (s.placeOrder p o).posRec q = s.posRec q := rfl
@[simp] theorem State.posRec_bumpMembership : s.bumpMembership.posRec q = s.posRec q := rfl

@[simp] theorem State.posRec_putSeek (r : PosRec) :
    (s.putSeek p r).posRec q = if p = q then r.recorrect s.plan else s.posRec q := by
  unfold State.putSeek
  dsimp only
  split
  · rw [State.posRec_alert, State.posRec_setPosRec]
  · rw [State.posRec_setPosRec]

@[simp] theorem State.posRec_setMisses (n : Nat) : (s.setMisses p n).posRec q =
    if p = q then { s.posRec p with misses := n, health := healthOf n } else s.posRec q := by
  unfold State.setMisses
  dsimp only
  split
  · rw [State.posRec_alert, State.posRec_fault, State.posRec_setPosRec]
  · split
    · rw [State.posRec_alert, State.posRec_setPosRec]
    · rw [State.posRec_setPosRec]

@[simp] theorem State.posRec_setAvailable (b : Bool) : (s.setAvailable p b).posRec q =
    if p = q then { s.posRec p with available := b } else s.posRec q := State.posRec_setPosRec ..

@[simp] theorem State.posRec_putEnrolment (port : Option PortId) (e : Enrolment) : (s.putEnrolment port p e).posRec q =
    if p = q then { s.posRec p with enrolment := e } else s.posRec q := State.posRec_setPosRec ..

@[simp] theorem State.plan_alert (c : AlertClass) : (s.alert c).plan = s.plan := rfl
@[simp] theorem State.plan_fault (i : FaultInfo) : (s.fault i).plan = s.plan := rfl
@[simp] theorem State.plan_setTrunk (x : Trunk) : (s.setTrunk x).plan = s.plan := rfl
@[simp] theorem State.plan_setPosRec (r : PosRec) : (s.setPosRec p r).plan = s.plan := rfl
@[simp] theorem State.plan_setOrder (e : Option OrderEntry) : (s.setOrder p e).plan = s.plan := rfl
@[simp] theorem State.plan_placeOrder (o : Order) : (s.placeOrder p o).plan = s.plan := rfl
@[simp] theorem State.plan_setPre (x : Pre) : (s.setPre x).plan = s.plan := rfl
@[simp] theorem State.plan_bumpMembership : s.bumpMembership.plan = s.plan := rfl
@[simp] theorem State.plan_setAvailable (b : Bool) : (s.setAvailable p b).plan = s.plan := rfl
@[simp] theorem State.plan_putEnrolment (port : Option PortId) (e : Enrolment) :
    (s.putEnrolment port p e).plan = s.plan := rfl
@[simp] theorem State.plan_mapPosRec (f : PosRec → PosRec) : (s.mapPosRec f).plan = s.plan :=
  congrArg (fun x => x.header x.active) (s.mapPosRec_plans f)

@[simp] theorem State.plan_putSeek (r : PosRec) : (s.putSeek p r).plan = s.plan := by
  unfold State.putSeek
  dsimp only
  split <;> rfl

@[simp] theorem State.plan_setMisses (n : Nat) : (s.setMisses p n).plan = s.plan :=
  State.plan_of_kept (State.kept_setMisses p n s)

/-! The master state is written by no operation on a position. -/

@[simp] theorem State.putSeek_ctl (r : PosRec) : (s.putSeek p r).ctl = s.ctl := by
  unfold State.putSeek
  dsimp only
  split <;> rfl

@[simp] theorem State.setMisses_ctl (n : Nat) : (s.setMisses p n).ctl = s.ctl := by
  unfold State.setMisses
  dsimp only
  split
  · rfl
  · split <;> rfl

@[simp] theorem State.setAvailable_ctl (b : Bool) : (s.setAvailable p b).ctl = s.ctl := rfl
@[simp] theorem State.setOrder_ctl (e : Option OrderEntry) : (s.setOrder p e).ctl = s.ctl := rfl
@[simp] theorem State.putEnrolment_ctl (port : Option PortId) (e : Enrolment) : (s.putEnrolment port p e).ctl = s.ctl := rfl
@[simp] theorem State.bumpMembership_ctl : s.bumpMembership.ctl = s.ctl := rfl

end Writes

/-! ### Records after a change of enrolment -/

/-- A record after its enrolment at `drop` under plan `h`, while coordination runs or not (R7, R113, R119). -/
def PosRec.enrolledAt (h : Header) (drop : Nat) (runs : Bool) (r : PosRec) : PosRec :=
  (({ r with enrolment := .enrolled drop, misses := 0, health := .online, available := false } : PosRec).enrols runs).recorrect h

/-- A record after its exclusion by the operator (R9, R113, R119). -/
def PosRec.excludedAs (h : Header) (e : Enrolment) (r : PosRec) : PosRec :=
  (({ r with enrolment := e, available := false } : PosRec).leaves).recorrect h

/-- A record after ENROLLED to VACANT (R9, R113, R119). -/
def PosRec.vacatedFrom (h : Header) (r : PosRec) : PosRec :=
  (({ r with enrolment := .vacant, misses := 0, health := .online, available := false } : PosRec).leaves).recorrect h

/-- A record after EXCLUDED to VACANT (R9, R119). -/
def PosRec.vacated (r : PosRec) : PosRec :=
  { r with enrolment := .vacant, misses := 0, health := .online, available := false }

/-- A record after its owner and its pending causes go without a RELEASE (R110, R151). -/
def PosRec.disowned (h : Header) (r : PosRec) : PosRec :=
  if r.owner.isSome then ({ r with owner := none, claims := [] } : PosRec).dropped.recorrect h else { r with claims := [] }

theorem State.posRec_enrolls (port : PortId) (p q : Pos) (d : Nat) : (s.enrolls port p d).posRec q =
    if p = q then (s.posRec p).enrolledAt s.plan d s.ctl.master.runs else s.posRec q := by
  simp only [State.enrolls, State.enrolmentEvent, State.trunkEnrolment, State.seekEnrolment, State.preEnrolment,
    State.posRec_putSeek]
  split <;> simp [PosRec.enrolledAt, healthOf, *]

theorem State.posRec_leaves_excludes (port : PortId) (p q : Pos) (e : Enrolment) :
    (s.leaves port p e .excludes).posRec q = if p = q then (s.posRec p).excludedAs s.plan e else s.posRec q := by
  simp only [State.leaves, State.enrolmentEvent, State.trunkEnrolment, State.seekEnrolment, State.preEnrolment,
    State.posRec_putSeek]
  split <;> simp [PosRec.excludedAs, *]

theorem State.posRec_leaves_vacates (port : PortId) (p q : Pos) :
    (s.leaves port p .vacant (.vacates true)).posRec q = if p = q then (s.posRec p).vacatedFrom s.plan else s.posRec q := by
  simp only [State.leaves, State.enrolmentEvent, State.trunkEnrolment, State.seekEnrolment, State.preEnrolment,
    State.posRec_putSeek]
  split <;> simp [PosRec.vacatedFrom, healthOf, *]

theorem State.posRec_vacateExcluded (port : PortId) (p q : Pos) :
    (s.vacateExcluded port p).posRec q = if p = q then (s.posRec p).vacated else s.posRec q := by
  simp only [State.vacateExcluded, State.enrolmentEvent, State.trunkEnrolment, State.seekEnrolment, State.preEnrolment,
    State.posRec_setOrder, State.posRec_setAvailable]
  split <;> simp [PosRec.vacated, healthOf, *]

theorem State.posRec_dropOwner (p q : Pos) :
    (s.dropOwner p).posRec q = if p = q then (s.posRec p).disowned s.plan else s.posRec q := by
  unfold State.dropOwner PosRec.disowned
  dsimp only
  split
  · simp
  · simp

theorem State.posRec_loses (p q : Pos) (d : Nat) : (s.loses p d).posRec q =
    if p = q then ((s.posRec p).excludedAs s.plan (.excluded d .lost)).disowned s.plan else s.posRec q := by
  simp only [State.loses, State.enrolmentEvent, State.trunkEnrolment, State.seekEnrolment, State.preEnrolment,
    State.posRec_dropOwner]
  split <;> simp [PosRec.excludedAs, *]

/-! ### The steps of one record -/

/-- One step of a record under plan `h`. -/
inductive RecordStep (T : Nat → Prop) (h : Header) (r : PosRec) : PosRec → Prop
  | seek {r' : PosRec} (c : SeekChange T h r r') : RecordStep T h r r'
  | owner {r' : PosRec} (c : OwnerChange h r r') : RecordStep T h r r'
  | unspent : RecordStep T h r (({ r with spent := false } : PosRec).recorrect h)

/-- Some steps of a record under plan `h`. -/
abbrev RecordSteps (T : Nat → Prop) (h : Header) : PosRec → PosRec → Prop := Relation.ReflTransGen (RecordStep T h)

/-- From `s` to `t` the plan is kept and every record takes steps under it. -/
def State.Records (T : Nat → Prop) (s t : State) : Prop :=
  t.plan = s.plan ∧ ∀ p, RecordSteps T s.plan (s.posRec p) (t.posRec p)

namespace State.Records

variable {T : Nat → Prop}

theorem refl (s : State) : s.Records T s := ⟨rfl, fun _ => .refl⟩

theorem trans {u : State} (h : s.Records T t) (k : t.Records T u) : s.Records T u :=
  ⟨k.1.trans h.1, fun p => (h.2 p).trans (h.1 ▸ k.2 p)⟩

theorem of_eq (hp : t.plan = s.plan) (h : ∀ p, t.posRec p = s.posRec p) : s.Records T t :=
  ⟨hp, fun p => by rw [h p]⟩

theorem foldl {α : Type} {f : State → α → State} (h : ∀ (s : State) (a : α), s.Records T (f s a)) (l : List α) (s : State) :
    s.Records T (l.foldl f s) := by
  induction l generalizing s with
  | nil => exact refl s
  | cons a l ih => exact (h s a).trans (ih _)

/-- One record takes a step, and the others stay. -/
theorem one {p : Pos} {r : PosRec} (hp : t.plan = s.plan) (h : ∀ q, t.posRec q = if p = q then r else s.posRec q)
    (hr : RecordStep T s.plan (s.posRec p) r) : s.Records T t := by
  refine ⟨hp, fun q => ?_⟩
  rw [h q]
  split
  · next e => exact e ▸ .single hr
  · exact .refl

theorem alert (c : AlertClass) (s : State) : s.Records T (s.alert c) := of_eq rfl fun _ => rfl

theorem setPre (x : Pre) (s : State) : s.Records T (s.setPre x) := of_eq rfl fun _ => rfl

/-! The start and the end of a cause (R145, R148). -/

theorem claim (v : VecIx) (p : Pos) (s : State) : s.Records T (s.claim v p) := by
  unfold State.claim
  dsimp only
  split
  · next hc =>
    have enrolled : (s.posRec p).enrolment.isEnrolled = true := (Bool.and_eq_true_iff.mp hc).1
    split
    · exact one (by simp) (fun q => by rw [State.posRec_placeOrder, State.posRec_putSeek]) (.owner (.seize v enrolled))
    · next o ho =>
      split
      · exact one (by simp) (fun q => by rw [State.posRec_placeOrder, State.posRec_putSeek])
          (.owner (.handOver v _ (by rw [ho]; rfl)))
      · exact one (by simp) (fun q => by rw [State.posRec_setPosRec]) (.owner (.claims _))
  · exact refl s

theorem activate (v : VecIx) (src : Source) (s : State) : s.Records T (s.activate v src) := by
  unfold State.activate
  have claims (u : State) := foldl (T := T) (fun s (z : Seizure) => claim v z.pos s) (s.pre.vectors.get v).list u
  refine trans ?_ (alert _ _)
  exact (setPre _ s).trans (claims _)

theorem giveUp (v : VecIx) (p : Pos) (s : State) : s.Records T (s.giveUp v p) := by
  unfold State.giveUp
  dsimp only
  split
  · next ho =>
    split
    · exact one (by simp) (fun q => State.posRec_putSeek ..) (.owner (.release _))
    · exact one (by simp) (fun q => by rw [State.posRec_placeOrder, State.posRec_putSeek])
        (.owner (.handOver _ _ (by rw [ho]; rfl)))
  · exact refl s

theorem leaveClaims (v : VecIx) (s : State) : s.Records T (s.leaveClaims v) :=
  ⟨State.plan_mapPosRec .., fun p => by
    rw [State.leaveClaims, State.posRec_mapPosRec]
    exact .single (.owner (.claims _))⟩

theorem endCause (v : VecIx) (reason : EndReason) (s : State) : s.Records T (s.endCause v reason) := by
  unfold State.endCause
  exact (((foldl (fun s p => giveUp v p s) _ _).trans (leaveClaims v _)).trans (setPre _ _)).trans (alert _ _)

end State.Records

theorem Setting.plan (h : Setting s t) : t.plan = s.plan := by
  have slot {i : SlotIx} {x : Slot} (hx : i = s.plans.active → x.body.header = (s.plans.slot i).body.header) :
      (s.plans.setSlot i x).header (s.plans.setSlot i x).active = s.plan := by
    rw [PlanStore.header, PlanStore.slot_setSlot, PlanStore.setSlot_active]
    split
    · next e => rw [hx e, e]; rfl
    · rfl
  cases h with
  | turnCycle h => exact State.turnCycle_plan_of_none h
  | applyTimebase _ p x => unfold State.applyTimebase; split <;> rfl
  | setEnables _ p e => unfold State.setEnables; split <;> rfl
  | setVector _ p v c _ _ => unfold State.setVector; dsimp only; split <;> rfl
  | reconfigureLine _ p t k c => unfold State.reconfigureLine; dsimp only; split <;> rfl
  | openSlot _ p i h base _ _ _ hu _ =>
    have other := slot (x := { s.plans.slot i with body := .loading { h with base } p (List.replicate h.count none) })
      fun e => absurd e.symm (PlanStore.inUse_eq_false hu).1
    unfold State.openSlot
    dsimp only
    split <;> exact other
  | writeEntry i h q es es' hb => exact slot fun _ => by rw [hb]; rfl
  | dropSlot _ p i _ hu =>
    have other := slot (x := { s.plans.slot i with body := .empty }) fun e => absurd e.symm (PlanStore.inUse_eq_false hu).1
    unfold State.dropSlot
    split
    · rfl
    · exact other
    · exact other
  | setLocked _ p i b _ => exact slot (x := { s.plans.slot i with locked := b }) fun _ => rfl
  | select i _ _ => unfold PlanStore.select; split <;> rfl
  | _ => rfl

theorem State.closeSlot_plan {i : SlotIx} {h : Header} {q : PortId} {es : List (Option Entry)}
    (hb : (s.plans.slot i).body = .loading h q es) (p : PortId) (es' : List Entry) : (s.closeSlot p i h es').plan = s.plan := by
  show (s.plans.setSlot i ⟨_, _, .ready h es'⟩).header s.plans.active = _
  rw [PlanStore.header, PlanStore.slot_setSlot]
  split
  · next e => rw [State.plan, PlanStore.header, ← e, hb]; rfl
  · rfl

theorem Change.records {T : Nat → Prop} (h : Change T s t) : s.Records T t ∨ Membership s t := by
  cases h with
  | aside h => exact .inl (.of_eq (by rw [State.plan, h.plans]; rfl) (State.posRec_of_pos h.pos))
  | record p h => exact .inl (.one rfl (fun q => by rw [State.posRec_setPosRec]) (.seek h))
  | seekRollover =>
    exact .inl ⟨State.plan_mapPosRec .., fun p => by
      rw [State.seekRollover, State.posRec_mapPosRec]
      exact .single .unspent⟩
  | activate v src _ => exact .inl (.activate v src s)
  | endCause v reason => exact .inl (.endCause v reason s)
  | setting h => exact .inl (.of_eq h.plan (State.posRec_of_pos h.pos))
  | membership _ h => exact .inr h
  | _ => exact .inl (.of_eq rfl fun _ => rfl)

theorem Membership.plan (h : Membership s t) : t.plan = s.plan := by rw [State.plan, h.plans_clock.1]; rfl

theorem Change.plan {T : Nat → Prop} (h : Change T s t) : t.plan = s.plan := by
  obtain ⟨plan, -⟩ | h := h.records
  · exact plan
  · exact h.plan

theorem Changes.plan {T : Nat → Prop} (h : Changes T s t) : t.plan = s.plan := by
  induction h with
  | refl => rfl
  | tail _ h ih => exact h.plan.trans ih

/-! ### Laws of one record -/

/-- A law `P` of one record is kept by everything a step does to a record under plan `h`. -/
structure RecordLaw (T : Nat → Prop) (h : Header) (P : PosRec → Prop) : Prop where
  step : ∀ {r r' : PosRec}, RecordStep T h r r' → P r → P r'
  enrols : ∀ (r : PosRec) (d : Nat) (b : Bool), r.enrolment.isEnrolled = false → P r → P (r.enrolledAt h d b)
  leaves : ∀ (r : PosRec) (e : Enrolment), r.owner = none → P r → P (r.excludedAs h e)
  vacates : ∀ r : PosRec, r.owner = none → P r → P (r.vacatedFrom h)
  vacated : ∀ r : PosRec, r.enrolment.isEnrolled = false → P r → P r.vacated
  takenOver : ∀ (r : PosRec) (e : Enrolment), r.enrolment.isEnrolled = false → e.isEnrolled = false → P r →
    P { r with enrolment := e }
  lost : ∀ (r : PosRec) (e : Enrolment), e.isEnrolled = false → P r → P ((r.excludedAs h e).disowned h)
  restarted : ∀ e : Enrolment, P (.restarted e)

/-- Every record meets `P`. -/
def State.Each (P : PosRec → Prop) (s : State) : Prop := ∀ p, P (s.posRec p)

theorem State.Each.one {P : PosRec → Prop} {p : Pos} {r : PosRec} (hs : s.Each P)
    (h : ∀ q, t.posRec q = if p = q then r else s.posRec q) (hr : P r) : t.Each P := fun q => by
  rw [h q]
  split
  · exact hr
  · exact hs q

namespace RecordLaw

variable {T : Nat → Prop} {P : PosRec → Prop}

/-- The law that says nothing. -/
theorem trivial (h : Header) : RecordLaw T h fun _ => True :=
  ⟨fun _ _ => ⟨⟩, fun _ _ _ _ _ => ⟨⟩, fun _ _ _ _ => ⟨⟩, fun _ _ _ => ⟨⟩, fun _ _ _ => ⟨⟩, fun _ _ _ _ _ => ⟨⟩,
    fun _ _ _ _ => ⟨⟩, fun _ => ⟨⟩⟩

theorem recordSteps {h : Header} (k : RecordLaw T h P) {r r' : PosRec} (c : RecordSteps T h r r') (hr : P r) : P r' := by
  induction c with
  | refl => exact hr
  | tail _ c ih => exact k.step c ih

theorem membership (k : RecordLaw T s.plan P) (h : Membership s t) (hs : s.Each P) : t.Each P := by
  cases h with
  | enrolls port p d he _ _ => exact hs.one (fun q => State.posRec_enrolls port p q d) (k.enrols _ d _ he (hs p))
  | excludes port p d _ ho _ => exact hs.one (fun q => State.posRec_leaves_excludes port p q _) (k.leaves _ _ ho (hs p))
  | vacates port p ho _ => exact hs.one (fun q => State.posRec_leaves_vacates port p q) (k.vacates _ ho (hs p))
  | takesOver port p d he =>
    exact hs.one (fun q => State.posRec_putEnrolment s p q (some port) _)
      (k.takenOver _ _ (by rw [he]; rfl) rfl (hs p))
  | vacateExcluded port p he => exact hs.one (fun q => State.posRec_vacateExcluded port p q) (k.vacated _ he (hs p))

theorem change (k : RecordLaw T s.plan P) (c : Change T s t) (hs : s.Each P) : t.Each P := by
  obtain ⟨-, steps⟩ | h := c.records
  · exact fun p => k.recordSteps (steps p) (hs p)
  · exact k.membership h hs

theorem changes (k : RecordLaw T s.plan P) (c : Changes T s t) (hs : s.Each P) : t.Each P := by
  induction c with
  | refl => exact hs
  | tail c' c ih =>
    rw [← Changes.plan c'] at k
    exact k.change c ih

theorem loses (k : RecordLaw T s.plan P) (p : Pos) (d : Nat) (hs : s.Each P) : (s.loses p d).Each P :=
  hs.one (fun q => State.posRec_loses p q d) (k.lost _ _ rfl (hs p))

/-- A record law over a step: `k` with the targets of the computation in flight, `k'` without any, and across an activation
the weaker `P'`, from which the activation makes `P` again. -/
theorem steps {P : Header → PosRec → Prop} {P' : PosRec → Prop} (k : RecordLaw s.Targets s.plan (P s.plan))
    (k' : ∀ h, RecordLaw NoTarget h (P h)) (weak : ∀ h, RecordLaw NoTarget h P') (weaken : ∀ h r, P h r → P' r)
    (act : ∀ (h : Header) (r : PosRec), P' r → P h (r.activates.recorrect h)) (c : Steps s t)
    (hs : s.Each (P s.plan)) : t.Each (P t.plan) := by
  have along {u v : State} (c : Changes NoTarget u v) (hu : u.Each (P u.plan)) : v.Each (P v.plan) := by
    rw [c.plan]
    exact (k' _).changes c hu
  cases c with
  | run c => rw [c.plan]; exact k.changes c hs
  | @loss u t p d c _ _ c' =>
    have lost : (u.loses p d).plan = u.plan := by rw [State.plan, (State.loses_plans_clock p d).1]; rfl
    refine along c' (along (.reportCount _) ?_)
    rw [lost]
    exact (k' _).loses p d (along c hs)
  | @activation u v t c _ _ c1 c2 =>
    have turned : u.turnCycle.Each P' := fun p => by
      rw [State.posRec_of_pos (State.turnCycle_pos u)]
      exact weaken _ _ (along c hs p)
    have sought : v.seekActivation.Each (P v.seekActivation.plan) := fun p => by
      rw [State.seekActivation, State.plan_mapPosRec, State.posRec_mapPosRec]
      exact act _ _ ((weak _).changes c1 turned p)
    exact along c2 sought
  | @close u t p q i h es ha _ hb _ ha' =>
    have hu : u.Each (P u.plan) := along (.single (.aside ha)) hs
    refine along (.single (.aside ha')) ?_
    rw [State.closeSlot_plan hb]
    exact hu
  | restart ha => exact fun p => by rw [State.restart_posRec]; exact (k' _).restarted _
  | erase ha hv => exact fun p => by rw [State.restart_posRec]; exact (k' _).restarted _
  | losePower torn => exact hs

/-- A law that does not speak of the plan and that the activation keeps. -/
theorem steps_of_kept (k : ∀ T h, RecordLaw T h P) (act : ∀ (h : Header) (r : PosRec), P r → P (r.activates.recorrect h))
    (c : Steps s t) : s.Each P → t.Each P :=
  steps (P := fun _ => P) (k _ _) (k _) (k _) (fun _ _ hr => hr) act c

/-- A law that every activation makes hold. -/
theorem steps_of_activates {P : Header → PosRec → Prop} (k : RecordLaw s.Targets s.plan (P s.plan))
    (k' : ∀ h, RecordLaw NoTarget h (P h)) (act : ∀ (h : Header) (r : PosRec), P h (r.activates.recorrect h)) (c : Steps s t) :
    s.Each (P s.plan) → t.Each (P t.plan) :=
  steps k k' trivial (fun _ _ _ => ⟨⟩) (fun h r _ => act h r) c

end RecordLaw

end Sys2Proof.Machine
end

section
/-! The laws of one position record: health (R118), ownership (R142, R145), IN_STEP (R96), and direction, remaining and round
correction (R95 to R101). -/

namespace Sys2Proof.Machine

variable {s t : State}

theorem Steps.powered_or_restarts (c : Steps s t) (ht : t.powered = true) :
    s.powered = true ∨ ∃ e : Pos → Enrolment, ∀ p, t.posRec p = .restarted (e p) := by
  cases c with
  | run c => exact .inl (c.powered ▸ ht)
  | loss c hp _ _ => exact .inl (c.powered ▸ hp)
  | activation c hp _ _ _ => exact .inl (c.powered ▸ hp)
  | close ha hp _ _ _ => exact .inl (ha.powered ▸ hp)
  | restart _ => exact .inr ⟨_, fun p => State.restart_posRec _ p⟩
  | erase _ _ => exact .inr ⟨_, fun p => State.restart_posRec _ p⟩
  | losePower torn => cases ht

/-! ### Health -/

/-- The fields of a record that no seek event writes: the enrolment, the Trunk Controller's and the Preemption Unit's. -/
def PosRec.standing (r : PosRec) : Enrolment × Bool × Health × Nat × Option VecIx × List VecIx :=
  (r.enrolment, r.available, r.health, r.misses, r.owner, r.claims)

theorem PosRec.standing_eq {r r' : PosRec} (e : r'.standing = r.standing) :
    r'.enrolment = r.enrolment ∧ r'.available = r.available ∧ r'.health = r.health ∧ r'.misses = r.misses ∧
      r'.owner = r.owner ∧ r'.claims = r.claims := by
  simpa only [PosRec.standing, Prod.mk.injEq] using e

theorem PosRec.owner_of_standing {r r' : PosRec} (e : r'.standing = r.standing) : r'.owner = r.owner := by
  obtain ⟨-, -, -, -, owner, -⟩ := PosRec.standing_eq e
  exact owner

section Standing

variable (h : Header) (r : PosRec)

@[simp] theorem PosRec.standing_recorrect : (r.recorrect h).standing = r.standing := rfl

@[simp] theorem PosRec.standing_evaluate : (r.evaluate h).standing = r.standing := by
  unfold PosRec.evaluate
  split
  · split <;> rfl
  · rfl

@[simp] theorem PosRec.standing_reevaluate : (r.reevaluate h).standing = r.standing := by
  unfold PosRec.reevaluate
  split
  · exact r.standing_evaluate h
  · rfl

@[simp] theorem PosRec.standing_endSuspension (off : Bool) : (r.endSuspension h off).standing = r.standing := by
  unfold PosRec.endSuspension
  split
  · split
    · rfl
    · exact r.standing_evaluate h
  · rfl

@[simp] theorem PosRec.standing_takeTag (a : PlanTag) (tag : Option PlanTag) : (r.takeTag a tag).standing = r.standing := rfl

@[simp] theorem PosRec.standing_takeOffset (a : PlanTag) (rep : Report) : (r.takeOffset h a rep).standing = r.standing := by
  unfold PosRec.takeOffset
  split
  · split <;> rfl
  · rfl

@[simp] theorem PosRec.standing_takeMode (off : Bool) (m : Mode) : (r.takeMode h off m).standing = r.standing := by
  unfold PosRec.takeMode
  split
  · rfl
  · split
    · split <;> rfl
    · exact PosRec.standing_endSuspension ..

@[simp] theorem PosRec.standing_closeRound (n : Half) : (r.closeRound n).standing = r.standing := by
  unfold PosRec.closeRound
  split <;> rfl

@[simp] theorem PosRec.standing_loseOffset : (r.loseOffset h).standing = r.standing := by
  unfold PosRec.loseOffset
  split
  · split
    · exact PosRec.standing_reevaluate ..
    · rfl
  · rfl

@[simp] theorem PosRec.standing_masterRises : (r.masterRises h).standing = r.standing := by
  unfold PosRec.masterRises
  split
  · split
    · exact r.standing_evaluate h
    · rfl
  · rfl
  · rfl

@[simp] theorem PosRec.standing_answerMode (m : Mode) : (r.answerMode m).standing = r.standing := by
  unfold PosRec.answerMode
  split <;> rfl

@[simp] theorem PosRec.standing_dropped : r.dropped.standing = r.standing := by
  unfold PosRec.dropped
  split <;> rfl

theorem PosRec.standing_disowned : (r.disowned h).standing = ({ r with owner := none, claims := [] } : PosRec).standing := by
  unfold PosRec.disowned
  split
  · exact PosRec.standing_dropped _
  · next e =>
    have none : r.owner = none := by simpa using e
    simp only [PosRec.standing, none]

end Standing

/-- The health that the miss count gives (R118). -/
def PosRec.Healthy (r : PosRec) : Prop :=
  r.misses ≤ 5 ∧ (r.health = .online ↔ r.misses ≤ 1) ∧ (r.health = .lost ↔ r.misses = 5)

theorem PosRec.Healthy.of_standing {r r' : PosRec} (e : r'.standing = r.standing) (h : r.Healthy) : r'.Healthy := by
  obtain ⟨-, -, hh, hm, -⟩ := PosRec.standing_eq e
  rw [PosRec.Healthy, hm, hh]
  exact h

theorem healthOf_law {n : Nat} (h : n ≤ 5) : (healthOf n = .online ↔ n ≤ 1) ∧ (healthOf n = .lost ↔ n = 5) := by
  unfold healthOf
  split
  · exact ⟨by simp; omega, by simp; omega⟩
  · split
    · exact ⟨by simp; omega, by simp; omega⟩
    · exact ⟨by simp; omega, by simp; omega⟩

theorem RecordStep.healthy {T : Nat → Prop} {h : Header} {r r' : PosRec} (c : RecordStep T h r r') (hr : r.Healthy) :
    r'.Healthy := by
  cases c with
  | seek c =>
    cases c with
    | misses hn => exact ⟨hn hr.1, healthOf_law (hn hr.1)⟩
    | available b => exact hr
    | sent x => exact hr
    | answer m => exact hr.of_standing (by simp)
    | target hn => exact hr.of_standing (by rw [PosRec.standing_recorrect, PosRec.standing_reevaluate]; rfl)
    | report a rep off n => exact hr.of_standing (by simp)
    | failure n => exact hr.of_standing (by simp)
    | rises => exact hr.of_standing (by simp)
    | falls => exact hr
  | owner c =>
    cases c with
    | seize v he => exact hr
    | handOver v l ho => exact hr
    | claims l => exact hr
    | release off =>
      exact PosRec.Healthy.of_standing (r := { r with owner := none, mode := .coordinated })
        (PosRec.standing_endSuspension h _ off) hr
  | unspent => exact hr

theorem PosRec.healthy_recordLaw (T : Nat → Prop) (h : Header) : RecordLaw T h PosRec.Healthy where
  step := RecordStep.healthy
  enrols _ _ _ _ _ := ⟨Nat.zero_le _, healthOf_law (Nat.zero_le _)⟩
  leaves _ _ _ hr := hr
  vacates _ _ _ := ⟨Nat.zero_le _, healthOf_law (Nat.zero_le _)⟩
  vacated _ _ _ := ⟨Nat.zero_le _, healthOf_law (Nat.zero_le _)⟩
  takenOver _ _ _ _ hr := hr
  lost r e _ hr := PosRec.Healthy.of_standing (r := { r.excludedAs h e with owner := none, claims := [] })
    (PosRec.standing_disowned h _) hr
  restarted _ := ⟨Nat.zero_le _, healthOf_law (Nat.zero_le _)⟩

theorem HealthLaw.steps (c : Steps s t) (hs : HealthLaw s) : HealthLaw t :=
  RecordLaw.steps_of_kept PosRec.healthy_recordLaw (fun _ _ hr => hr) c hs

/-! ### Ownership -/

/-- An owned position is ENROLLED, PREEMPTED and SUSPENDED (R142, R145). -/
def PosRec.Owned (r : PosRec) : Prop :=
  r.owner.isSome = true → r.enrolment.isEnrolled = true ∧ r.mode = .preempted ∧ r.seek.isSuspended = true

/-- What `Owned` speaks of. -/
def PosRec.holding (r : PosRec) : Option VecIx × Bool × Mode × Bool :=
  (r.owner, r.enrolment.isEnrolled, r.mode, r.seek.isSuspended)

theorem PosRec.Owned.of_holding {r r' : PosRec} (e : r'.holding = r.holding) (h : r.Owned) : r'.Owned := by
  simp only [PosRec.holding, Prod.mk.injEq] at e
  obtain ⟨ho, he, hm, hk⟩ := e
  rw [PosRec.Owned, ho, he, hm, hk]
  exact h

theorem PosRec.Owned.of_none {r : PosRec} (h : r.owner = none) : r.Owned := fun ho => by rw [h] at ho; cases ho

/-- Without an owner before and after there is nothing to keep. -/
theorem PosRec.Owned.cases {r r' : PosRec} (hr : r.Owned) (hn : r.owner = none → r'.owner = none)
    (hs : ∀ v, r.owner = some v → r.enrolment.isEnrolled = true → r.mode = .preempted → r.seek.isSuspended = true →
      r'.Owned) : r'.Owned := by
  cases ho : r.owner with
  | none => exact .of_none (hn ho)
  | some v =>
    obtain ⟨he, hm, hk⟩ := hr (by rw [ho]; rfl)
    exact hs v ho he hm hk

section Holding

variable (h : Header) (r : PosRec)

theorem SeekState.not_isActive_of_isSuspended {k : SeekState} (hk : k.isSuspended = true) : k.isActive = false := by
  cases k with
  | suspended ret => rfl
  | _ => cases hk

theorem PosRec.holding_takeOffset (a : PlanTag) (rep : Report) : (r.takeOffset h a rep).holding = r.holding := by
  unfold PosRec.takeOffset
  split
  · split <;> rfl
  · rfl

theorem PosRec.holding_closeRound (n : Half) : (r.closeRound n).holding = r.holding := by
  unfold PosRec.closeRound
  split <;> rfl

theorem PosRec.owner_disowned : (r.disowned h).owner = none := PosRec.owner_of_standing (r.standing_disowned h)

variable {h} {r}

theorem PosRec.Owned.reevaluate (hr : r.Owned) : (r.reevaluate h).Owned :=
  hr.cases (PosRec.owner_of_standing (r.standing_reevaluate h)).trans fun v _ _ _ hk => by
    rw [PosRec.reevaluate, SeekState.not_isActive_of_isSuspended hk]
    exact hr

theorem PosRec.Owned.takeMode (off : Bool) (m : Mode) (hr : r.Owned) : (r.takeMode h off m).Owned :=
  hr.cases (PosRec.owner_of_standing (r.standing_takeMode h off m)).trans fun v ho _ _ _ => by
    rw [PosRec.takeMode, ho]
    exact hr

end Holding

theorem RecordStep.owned {T : Nat → Prop} {h : Header} {r r' : PosRec} (c : RecordStep T h r r') (hr : r.Owned) : r'.Owned := by
  cases c with
  | seek c =>
    cases c with
    | answer m =>
      unfold PosRec.answerMode
      split
      · exact hr
      · next ho => exact fun h => absurd h ho
    | @target n hn => exact PosRec.Owned.reevaluate (r := { r with target := some n }) hr
    | report a rep off n =>
      have tag : (r.takeTag a rep.tag).Owned := hr
      exact (((tag.of_holding (PosRec.holding_takeOffset h _ a rep)).takeMode off rep.mode).reevaluate).of_holding
        (PosRec.holding_closeRound _ n)
    | failure n =>
      refine PosRec.Owned.of_holding (r := r.loseOffset h) (PosRec.holding_closeRound _ n) ?_
      unfold PosRec.loseOffset
      split
      · split
        · exact PosRec.Owned.reevaluate (r := { r with running := none }) hr
        · exact hr
      · exact hr
    | rises =>
      refine hr.cases (PosRec.owner_of_standing (r.standing_masterRises h)).trans fun v ho he hm hk => ?_
      cases e : r.seek with
      | suspended ret => exact fun _ => by simp only [PosRec.masterRises, e]; exact ⟨he, hm, rfl⟩
      | _ => rw [e] at hk; cases hk
    | falls =>
      refine hr.cases id fun v ho he hm hk => ?_
      cases e : r.seek with
      | suspended ret => exact fun _ => ⟨he, hm, by simp only [PosRec.masterFalls, PosRec.recorrect, e, ho]; rfl⟩
      | _ => rw [e] at hk; cases hk
    | _ => exact hr
  | owner c =>
    cases c with
    | seize v he =>
      refine fun _ => ⟨he, rfl, ?_⟩
      unfold PosRec.seized PosRec.recorrect
      dsimp only
      split <;> rfl
    | handOver v l ho =>
      obtain ⟨he, -, hk⟩ := hr ho
      exact fun _ => ⟨he, rfl, hk⟩
    | claims l => exact hr
    | release off => exact .of_none (PosRec.owner_of_standing (PosRec.standing_endSuspension ..))
  | unspent => exact hr

theorem PosRec.Owned.owner_eq_none {r : PosRec} (hr : r.Owned) (he : r.enrolment.isEnrolled = false) : r.owner = none := by
  cases ho : r.owner with
  | none => rfl
  | some v => exact absurd (he.symm.trans (hr (by rw [ho]; rfl)).1) (by decide)

theorem PosRec.owned_recordLaw (T : Nat → Prop) (h : Header) : RecordLaw T h PosRec.Owned where
  step := RecordStep.owned
  enrols _ _ _ he hr := .of_none (hr.owner_eq_none he)
  leaves _ _ ho _ := .of_none ho
  vacates _ ho _ := .of_none ho
  vacated _ he hr := .of_none (hr.owner_eq_none he)
  takenOver _ _ he _ hr := .of_none (hr.owner_eq_none he)
  lost _ _ _ _ := .of_none (PosRec.owner_disowned _ _)
  restarted _ := .of_none rfl

theorem PosRec.Owned.activates {r : PosRec} (h : Header) (hr : r.Owned) : (r.activates.recorrect h).Owned := by
  refine hr.cases id fun v ho he hm hk => ?_
  cases e : r.seek with
  | suspended ret => exact fun _ => ⟨he, hm, by simp only [PosRec.activates, PosRec.recorrect, e]; rfl⟩
  | _ => rw [e] at hk; cases hk

theorem OwnerLaw.steps (c : Steps s t) (hs : OwnerLaw s) : OwnerLaw t :=
  RecordLaw.steps_of_kept PosRec.owned_recordLaw (fun h _ hr => hr.activates h) c hs

/-- Settles O51: an owner stands only where a cause seized an ENROLLED position, and whatever ends the mode or the suspension ends the
owner first. -/
theorem stepKeepsOwnerLaw : Obligations.StepKeepsOwnerLaw := by
  intro s t h hs
  obtain rfl | ⟨rest, hr⟩ := step_cases h
  · exact hs
  · exact OwnerLaw.steps hr hs

/-! ### IN_STEP -/

/-- An IN_STEP record runs at its target (R96). -/
def PosRec.InStepOk (r : PosRec) : Prop := r.seek = .inStep → r.target.isSome = true ∧ r.running = r.target

/-- Only a SEEKING record has a direction and a remaining (R95). -/
def PosRec.Quiet (r : PosRec) : Prop := r.seek ≠ .seeking → r.travel = none

/-- Direction and remaining are the ones the fields give, and an IN_STEP record runs at its target (R95, R96, R98, R99). -/
structure PosRec.Sought (h : Header) (r : PosRec) : Prop where
  travel : r.seek = .seeking → r.travel = r.seekTravel h
  apart : r.seek = .seeking → r.target = none ∨ r.target ≠ r.running
  quiet : r.Quiet

/-- What `InStepOk` and `Sought` speak of. -/
def PosRec.course (r : PosRec) : SeekState × Option Nat × Option Nat × Option Travel := (r.seek, r.target, r.running, r.travel)

section Course

variable {h : Header} {r r' : PosRec}

theorem PosRec.course_eq (e : r'.course = r.course) :
    r'.seek = r.seek ∧ r'.target = r.target ∧ r'.running = r.running ∧ r'.travel = r.travel := by
  simpa only [PosRec.course, Prod.mk.injEq] using e

theorem PosRec.InStepOk.of_course (e : r'.course = r.course) (hr : r.InStepOk) : r'.InStepOk := by
  obtain ⟨hs, ht, hu, -⟩ := PosRec.course_eq e
  rw [PosRec.InStepOk, hs, ht, hu]
  exact hr

theorem PosRec.Quiet.of_eq (hs : r'.seek = r.seek) (ht : r'.travel = r.travel) (hr : r.Quiet) : r'.Quiet := by
  rw [PosRec.Quiet, hs, ht]
  exact hr

theorem PosRec.Sought.of_course (e : r'.course = r.course) (hr : r.Sought h) : r'.Sought h := by
  obtain ⟨hs, ht, hu, hv⟩ := PosRec.course_eq e
  have travel : r'.seekTravel h = r.seekTravel h := by rw [PosRec.seekTravel, PosRec.seekTravel, ht, hu]
  refine ⟨?_, ?_, hr.quiet.of_eq hs hv⟩
  · rw [hs, hv, travel]; exact hr.travel
  · rw [hs, ht, hu]; exact hr.apart

theorem PosRec.InStepOk.of_seek (h : r.seek ≠ .inStep) : r.InStepOk := fun e => absurd e h

theorem PosRec.Sought.of_seek (hn : r.seek ≠ .seeking) (ht : r.travel = none) : r.Sought h :=
  ⟨fun e => absurd e hn, fun e => absurd e hn, fun _ => ht⟩

/-- Without a target there is nothing to travel. -/
theorem PosRec.Sought.of_target (hn : r.target = none) (ht : r.travel = none) : r.Sought h :=
  ⟨fun _ => by rw [ht, PosRec.seekTravel, hn], fun _ => .inl hn, fun _ => ht⟩

/-- R98 in the words of the model's limits. -/
theorem Header.seekChoice_eq (h : Header) (t o : Nat) :
    h.seekChoice t o =
      (let d := modC ((t : Int) - (o : Int)) h.c
      if h.lmax = 0 ∧ h.smax = 0 then ⟨.lengthen, d⟩
      else if h.lmax = 0 then ⟨.shorten, h.c - d⟩
      else if h.smax = 0 then ⟨.lengthen, d⟩
      else if ceilDiv d h.lmax < ceilDiv (h.c - d) h.smax then ⟨.lengthen, d⟩
      else if ceilDiv (h.c - d) h.smax < ceilDiv d h.lmax then ⟨.shorten, h.c - d⟩
      else if h.c - d < d then ⟨.shorten, h.c - d⟩
      else ⟨.lengthen, d⟩) := rfl

theorem chooseTravel_eq_seekChoice (h : Header) (t o : Nat) : chooseTravel h t o = h.seekChoice t o := by
  rw [Header.seekChoice_eq, chooseTravel]
  generalize modC ((t : Int) - (o : Int)) h.c = d
  by_cases hm : h.smax = 0
  · by_cases hl : h.lmax = 0 <;> simp [hm, hl]
  · by_cases hl : h.lmax = 0
    · simp [hm, hl]
    · simp only [hl, hm, false_and, if_false]
      split
      · rfl
      · split
        · rfl
        · by_cases hd : d ≤ h.c - d
          · rw [if_pos hd, if_neg (by omega)]
          · rw [if_neg hd, if_pos (by omega)]

theorem PosRec.evaluate_inStepOk (h : Header) (r : PosRec) : (r.evaluate h).InStepOk := by
  unfold PosRec.evaluate
  split
  · next t x ht hx =>
    split
    · next e => exact fun _ => ⟨by rw [ht]; rfl, by rw [ht, hx, e]⟩
    · exact .of_seek nofun
  · exact .of_seek nofun

theorem PosRec.evaluate_sought (h : Header) (r : PosRec) : (r.evaluate h).Sought h := by
  unfold PosRec.evaluate
  split
  · next t x ht hx =>
    split
    · exact .of_seek nofun rfl
    · next e =>
      refine ⟨fun _ => ?_, fun _ => .inr ?_, fun hn => absurd rfl hn⟩
      · simp only [PosRec.seekTravel, ht, hx, if_neg e, chooseTravel_eq_seekChoice]
      · simpa only [ht, hx, ne_eq, Option.some.injEq] using e
  · next hn =>
    refine ⟨fun _ => ?_, fun _ => ?_, fun hn => absurd rfl hn⟩
    · rw [PosRec.seekTravel]
      split
      · next t x ht hx => exact absurd hx (hn t x ht)
      · rfl
    · by_cases ht : r.target = none
      · exact .inl ht
      · refine .inr fun e => ?_
        obtain ⟨t, ht⟩ := Option.ne_none_iff_exists'.mp ht
        exact hn t t ht (e.symm.trans ht)

theorem PosRec.reevaluate_inStepOk (h : Header) (r : PosRec) : (r.reevaluate h).InStepOk := by
  unfold PosRec.reevaluate
  split
  · exact r.evaluate_inStepOk h
  · next hk => exact .of_seek fun e => hk (by rw [e]; rfl)

theorem PosRec.Quiet.reevaluate (h : Header) (hr : r.Quiet) : (r.reevaluate h).Sought h := by
  unfold PosRec.reevaluate
  split
  · exact r.evaluate_sought h
  · next hk =>
    have still : r.seek ≠ .seeking := fun e => hk (by rw [e]; rfl)
    exact .of_seek still (hr still)

theorem PosRec.InStepOk.endSuspension (off : Bool) (hr : r.InStepOk) : (r.endSuspension h off).InStepOk := by
  unfold PosRec.endSuspension
  split
  · split
    · exact .of_seek nofun
    · exact r.evaluate_inStepOk h
  · exact hr

theorem PosRec.Sought.endSuspension (off : Bool) (hr : r.Sought h) : (r.endSuspension h off).Sought h := by
  unfold PosRec.endSuspension
  split
  · split
    · exact .of_seek nofun rfl
    · exact r.evaluate_sought h
  · exact hr

theorem PosRec.Quiet.endSuspension (off : Bool) (hr : r.Quiet) : (r.endSuspension h off).Quiet := by
  unfold PosRec.endSuspension
  split
  · split
    · exact fun _ => rfl
    · exact (r.evaluate_sought h).quiet
  · exact hr

theorem PosRec.Quiet.takeOffset (a : PlanTag) (rep : Report) (hr : r.Quiet) : (r.takeOffset h a rep).Quiet := by
  unfold PosRec.takeOffset
  split
  · split
    · exact hr
    · exact hr
  · exact hr

theorem PosRec.Quiet.takeMode (off : Bool) (m : Mode) (hr : r.Quiet) : (r.takeMode h off m).Quiet := by
  unfold PosRec.takeMode
  split
  · exact hr
  · split
    · split
      · exact fun _ => rfl
      · exact hr
    · exact PosRec.Quiet.endSuspension (r := { r with mode := m }) off hr

theorem PosRec.course_closeRound (r : PosRec) (n : Half) : (r.closeRound n).course = r.course := by
  unfold PosRec.closeRound
  split <;> rfl

theorem PosRec.course_answerMode (r : PosRec) (m : Mode) : (r.answerMode m).course = r.course := by
  unfold PosRec.answerMode
  split <;> rfl

end Course

theorem RecordStep.inStepOk {T : Nat → Prop} {h : Header} {r r' : PosRec} (c : RecordStep T h r r') (hr : r.InStepOk) :
    r'.InStepOk := by
  cases c with
  | seek c =>
    cases c with
    | answer m => exact hr.of_course (r.course_answerMode m)
    | target hn => exact PosRec.reevaluate_inStepOk h _
    | report a rep off n =>
      exact (PosRec.reevaluate_inStepOk h _).of_course (PosRec.course_closeRound _ n)
    | failure n =>
      refine PosRec.InStepOk.of_course (r := r.loseOffset h) (PosRec.course_closeRound _ n) ?_
      unfold PosRec.loseOffset
      split
      · split
        · exact PosRec.reevaluate_inStepOk h _
        · exact hr
      · exact hr
    | rises =>
      show (r.masterRises h).InStepOk
      unfold PosRec.masterRises
      split
      · split
        · exact r.evaluate_inStepOk h
        · exact hr
      · exact .of_seek nofun
      · exact hr
    | falls =>
      refine PosRec.InStepOk.of_seek (r := r.masterFalls) ?_
      unfold PosRec.masterFalls
      dsimp only
      split <;> nofun
    | _ => exact hr
  | owner c =>
    cases c with
    | seize v he =>
      refine PosRec.InStepOk.of_seek (r := PosRec.seized _) ?_
      unfold PosRec.seized
      dsimp only
      split <;> nofun
    | release off =>
      exact PosRec.InStepOk.endSuspension (r := { r with owner := none, mode := .coordinated }) off hr
    | _ => exact hr
  | unspent => exact hr

/-- A record that leaves is IDLE, or SUSPENDED while its owner stays. -/
theorem PosRec.seek_leaves (r : PosRec) : r.leaves.seek = .idle ∨ r.leaves.seek = .suspended .idle := by
  unfold PosRec.leaves
  dsimp only
  split
  · exact .inr rfl
  · exact .inl rfl

theorem PosRec.seek_leaves_ne (r : PosRec) : r.leaves.seek ≠ .inStep ∧ r.leaves.seek ≠ .seeking := by
  obtain h | h := r.seek_leaves <;> exact ⟨by rw [h]; nofun, by rw [h]; nofun⟩

theorem PosRec.disowned_seek (h : Header) (r : PosRec) : (r.disowned h).seek = r.seek ∨ (r.disowned h).seek = .idle := by
  unfold PosRec.disowned
  split
  · show (PosRec.dropped _).seek = _ ∨ (PosRec.dropped _).seek = _
    unfold PosRec.dropped
    split
    · exact .inl rfl
    · exact .inr rfl
  · exact .inl rfl

theorem PosRec.disowned_travel (h : Header) (r : PosRec) : (r.disowned h).travel = r.travel := by
  unfold PosRec.disowned
  split
  · show (PosRec.dropped _).travel = _
    unfold PosRec.dropped
    split <;> rfl
  · rfl

theorem PosRec.seek_lost_ne (h : Header) (e : Enrolment) (r : PosRec) :
    ((r.excludedAs h e).disowned h).seek ≠ .inStep ∧ ((r.excludedAs h e).disowned h).seek ≠ .seeking := by
  obtain k | k := (r.excludedAs h e).disowned_seek h
  · rw [k]; exact PosRec.seek_leaves_ne { r with enrolment := e, available := false }
  · rw [k]; exact ⟨nofun, nofun⟩

theorem PosRec.seek_enrolledAt_ne (h : Header) (d : Nat) (runs : Bool) (r : PosRec) : (r.enrolledAt h d runs).seek ≠ .inStep := by
  unfold PosRec.enrolledAt PosRec.enrols PosRec.recorrect
  cases runs <;> nofun

theorem PosRec.inStepOk_recordLaw (T : Nat → Prop) (h : Header) : RecordLaw T h PosRec.InStepOk where
  step := RecordStep.inStepOk
  enrols r d b _ _ := .of_seek (r.seek_enrolledAt_ne h d b)
  leaves _ _ _ _ := .of_seek (PosRec.seek_leaves_ne _).1
  vacates _ _ _ := .of_seek (PosRec.seek_leaves_ne _).1
  vacated _ _ hr := hr
  takenOver _ _ _ _ hr := hr
  lost r e _ _ := .of_seek (PosRec.seek_lost_ne h e r).1
  restarted _ := .of_seek nofun

theorem PosRec.seek_activates_ne (r : PosRec) : r.activates.seek ≠ .inStep := by
  unfold PosRec.activates
  dsimp only
  split <;> nofun

theorem InStepLaw.steps (c : Steps s t) (hs : InStepLaw s) : InStepLaw t :=
  RecordLaw.steps_of_kept PosRec.inStepOk_recordLaw (fun _ r _ => .of_seek r.seek_activates_ne) c hs

/-! ### Direction, remaining and round correction -/

theorem PosRec.roundCorrection_eq_owed (h : Header) (r : PosRec) : r.roundCorrection h = r.owed h := by
  unfold PosRec.roundCorrection PosRec.owed
  by_cases hs : r.spent = true
  · rw [if_pos hs, if_pos (.inl hs)]
  · rw [if_neg hs]
    by_cases hk : r.seek = .seeking
    · rw [if_neg (by simp [hs, hk]), hk]
      cases r.travel with
      | none => rfl
      | some x =>
        obtain ⟨d, m⟩ := x
        cases d with
        | lengthen =>
          show (if h.lmax = 0 ∧ h.smax = 0 then (m : Int) else _) = if h.lmax = 0 ∧ h.smax = 0 then (m : Int) else _
          split
          · rfl
          · exact Nat.cast_min m h.lmax
        | shorten => exact congrArg Neg.neg (Nat.cast_min m h.smax)
    · rw [if_pos (.inr hk)]
      split
      · next e _ => exact absurd e hk
      · next e _ => exact absurd e hk
      · rfl

/-- The law of the seek for one record: `Sought`, and the round correction of R101. -/
def PosRec.SeekOk (h : Header) (r : PosRec) : Prop := r.Sought h ∧ r.correction = r.owed h

/-- The correction is recomputed. -/
theorem PosRec.Sought.recorrect {h : Header} {r : PosRec} (hr : r.Sought h) : (r.recorrect h).SeekOk h :=
  ⟨⟨hr.travel, hr.apart, hr.quiet⟩, r.roundCorrection_eq_owed h⟩

theorem RecordStep.seekOk {T : Nat → Prop} {h : Header} {r r' : PosRec} (c : RecordStep T h r r') (hr : r.SeekOk h) :
    r'.SeekOk h := by
  obtain ⟨sought, owed⟩ := hr
  cases c with
  | seek c =>
    cases c with
    | answer m =>
      refine ⟨sought.of_course (r.course_answerMode m), ?_⟩
      unfold PosRec.answerMode
      split
      · exact owed
      · exact owed
    | @target n hn =>
      have quiet : PosRec.Quiet { r with target := some n } := sought.quiet
      exact (quiet.reevaluate h).recorrect
    | report a rep off n =>
      have quiet : (r.takeTag a rep.tag).Quiet := sought.quiet
      exact ((((quiet.takeOffset a rep).takeMode off rep.mode).reevaluate h).of_course
        (PosRec.course_closeRound _ n)).recorrect
    | failure n =>
      refine PosRec.Sought.recorrect (PosRec.Sought.of_course (r := r.loseOffset h) (PosRec.course_closeRound _ n) ?_)
      unfold PosRec.loseOffset
      split
      · split
        · have quiet : PosRec.Quiet { r with running := none } := sought.quiet
          exact quiet.reevaluate h
        · exact sought
      · exact sought
    | rises =>
      refine PosRec.Sought.recorrect ?_
      unfold PosRec.masterRises
      split
      · split
        · exact r.evaluate_sought h
        · exact sought
      · next e => exact .of_seek nofun (sought.quiet (by rw [e]; nofun))
      · exact sought
    | falls => exact (PosRec.Sought.of_target rfl rfl).recorrect
    | _ => exact ⟨⟨sought.travel, sought.apart, sought.quiet⟩, owed⟩
  | owner c =>
    cases c with
    | seize v he =>
      refine (PosRec.Sought.of_seek ?_ rfl).recorrect
      unfold PosRec.seized
      dsimp only
      split <;> nofun
    | handOver v l ho =>
      exact PosRec.Sought.recorrect ⟨sought.travel, sought.apart, sought.quiet⟩
    | claims l => exact ⟨⟨sought.travel, sought.apart, sought.quiet⟩, owed⟩
    | release off =>
      have kept : PosRec.Sought h { r with owner := none, mode := .coordinated } := ⟨sought.travel, sought.apart, sought.quiet⟩
      exact (kept.endSuspension off).recorrect
  | unspent => exact PosRec.Sought.recorrect ⟨sought.travel, sought.apart, sought.quiet⟩

/-- Outside a seek no correction is owed. -/
theorem PosRec.owed_of_seek {h : Header} {r : PosRec} (hk : r.seek ≠ .seeking) : r.owed h = 0 := by
  rw [PosRec.owed]
  exact if_pos (.inr hk)

theorem PosRec.disowned_correction {h : Header} {r : PosRec} (hr : r.correction = 0) (hk : (r.disowned h).seek ≠ .seeking) :
    (r.disowned h).correction = 0 := by
  unfold PosRec.disowned at hk ⊢
  split
  · next ho =>
    rw [if_pos ho] at hk
    exact ((PosRec.dropped _).roundCorrection_eq_owed h).trans (PosRec.owed_of_seek hk)
  · exact hr

theorem PosRec.seekOk_recordLaw (T : Nat → Prop) (h : Header) : RecordLaw T h (PosRec.SeekOk h) where
  step := RecordStep.seekOk
  enrols r d b _ _ := (PosRec.Sought.of_target rfl rfl).recorrect
  leaves r e _ _ := (PosRec.Sought.of_target rfl rfl).recorrect
  vacates r _ _ := (PosRec.Sought.of_target rfl rfl).recorrect
  vacated r _ hr := ⟨⟨hr.1.travel, hr.1.apart, hr.1.quiet⟩, hr.2⟩
  takenOver r e _ _ hr := ⟨⟨hr.1.travel, hr.1.apart, hr.1.quiet⟩, hr.2⟩
  lost r e _ _ := by
    have still := (PosRec.seek_lost_ne h e r).2
    have left : (r.excludedAs h e).correction = 0 :=
      (PosRec.roundCorrection_eq_owed h _).trans
        (PosRec.owed_of_seek (PosRec.seek_leaves_ne { r with enrolment := e, available := false }).2)
    exact ⟨.of_seek still (PosRec.disowned_travel h _), (PosRec.disowned_correction left still).trans (PosRec.owed_of_seek still).symm⟩
  restarted e := ⟨.of_target rfl rfl, (PosRec.owed_of_seek (r := .restarted e) nofun).symm⟩

theorem SeekLaw.steps (c : Steps s t) (hs : SeekLaw s) : SeekLaw t := by
  have split (u : State) (h : u.Each (PosRec.SeekOk u.plan)) (p : Pos) :=
    And.intro (fun e => And.intro ((h p).1.travel e) ((h p).1.apart e)) (And.intro (h p).1.quiet (h p).2)
  intro ht
  obtain hp | ⟨e, he⟩ := c.powered_or_restarts ht
  · refine split t (RecordLaw.steps_of_activates (PosRec.seekOk_recordLaw _ _) (PosRec.seekOk_recordLaw _)
      (fun h r => (PosRec.Sought.of_target rfl rfl).recorrect) c fun p => ?_)
    obtain ⟨seeking, quiet, owed⟩ := hs hp p
    exact ⟨⟨fun e => (seeking e).1, fun e => (seeking e).2, quiet⟩, owed⟩
  · refine split t fun p => ?_
    rw [he p]
    exact (PosRec.seekOk_recordLaw NoTarget t.plan).restarted _

end Sys2Proof.Machine
end

section
/-! The laws of the fault record (R171), of the remaining holds (R147) and of the members of coordination (R155). -/

namespace Sys2Proof.Machine

variable {s t u : State}

/-! ### Changes that leave the causes, the vectors, the master state and the computation alone -/

/-- From `s` to `t` the causes, the vectors, the master state and the computation in flight stay, and the fault law is kept. -/
structure State.Still (s t : State) : Prop where
  faults : FaultLaw s → FaultLaw t := by exact id
  causes : t.pre.causes = s.pre.causes := by rfl
  vectors : t.pre.vectors = s.pre.vectors := by rfl
  master : t.ctl.master = s.ctl.master := by rfl
  inFlight : t.band.inFlight = s.band.inFlight := by rfl

namespace State.Still

theorem refl (s : State) : s.Still s := {}

theorem trans (h : s.Still t) (k : t.Still u) : s.Still u :=
  ⟨fun hs => k.faults (h.faults hs), k.causes.trans h.causes, k.vectors.trans h.vectors, k.master.trans h.master,
    k.inFlight.trans h.inFlight⟩

theorem foldl {α : Type} {f : State → α → State} (h : ∀ (s : State) (a : α), s.Still (f s a)) (l : List α) (s : State) :
    s.Still (l.foldl f s) := by
  induction l generalizing s with
  | nil => exact refl s
  | cons a l ih => exact (h s a).trans (ih _)

theorem of_eq (hf : t.faults = s.faults) (hp : t.pre = s.pre) (hc : t.ctl = s.ctl) (hb : t.band = s.band) : s.Still t := by
  refine ⟨fun hs => ?_, ?_, ?_, ?_, ?_⟩
  · rw [FaultLaw, hf]; exact hs
  · rw [hp]
  · rw [hp]
  · rw [hc]
  · rw [hb]

theorem aside (h : s.Aside t) : s.Still t :=
  ⟨fun hs => by rw [FaultLaw, h.first, h.next]; exact hs, h.causes, h.vectors, h.master, h.inFlight⟩

theorem alert (c : AlertClass) (s : State) : s.Still (s.alert c) := aside (.alert s c)

theorem fault (i : FaultInfo) (s : State) : s.Still (s.fault i) where
  faults hs := by
    have taken (n : Half) (p : Nat) (f : FaultUnit) : (f.take i n p).first ≠ none := by
      unfold FaultUnit.take
      split
      · nofun
      · next x hx => exact fun h => nomatch hx.symm.trans h
    exact fun h => absurd h (taken _ _ _)

theorem setPosRec (p : Pos) (r : PosRec) (s : State) : s.Still (s.setPosRec p r) := {}

theorem mapPosRec (f : PosRec → PosRec) (s : State) : s.Still (s.mapPosRec f) := of_eq (by simp) (by simp) (by simp) (by simp)

theorem setTrunk (x : Trunk) (s : State) : s.Still (s.setTrunk x) := {}

theorem putSeek (p : Pos) (r : PosRec) (s : State) : s.Still (s.putSeek p r) := by
  unfold State.putSeek
  dsimp only
  split
  · exact (setPosRec _ _ s).trans (alert _ _)
  · exact setPosRec _ _ s

theorem setMisses (p : Pos) (n : Nat) (s : State) : s.Still (s.setMisses p n) := by
  unfold State.setMisses
  dsimp only
  split
  · exact ((setPosRec _ _ s).trans (fault _ _)).trans (alert _ _)
  · split
    · exact (setPosRec _ _ s).trans (alert _ _)
    · exact setPosRec _ _ s

theorem dropOwner (p : Pos) (s : State) : s.Still (s.dropOwner p) := by
  unfold State.dropOwner
  dsimp only
  split
  · exact (putSeek _ _ _).trans {}
  · exact setPosRec _ _ s

theorem enrolmentEvent (p : Pos) (c : EnrolmentChange) (s : State) : s.Still (s.enrolmentEvent p c) := by
  have trunk : s.Still (s.trunkEnrolment p c) := by
    cases c with
    | enrols => exact (setMisses _ _ _).trans {}
    | excludes => exact {}
    | vacates b => exact ((setMisses _ _ _).trans {}).trans {}
    | loses => exact {}
  have seek (u : State) : u.Still (u.seekEnrolment p c) := by
    unfold State.seekEnrolment
    split
    · exact putSeek _ _ _
    iterate 3 exact putSeek _ _ _
    · exact refl u
  have pre (u : State) : u.Still (u.preEnrolment p c) := by
    unfold State.preEnrolment
    split
    · exact dropOwner _ _
    iterate 3 exact refl u
  exact (trunk.trans (seek _)).trans (pre _)

theorem putEnrolment (port : Option PortId) (p : Pos) (e : Enrolment) (s : State) : s.Still (s.putEnrolment port p e) := {}

theorem bumpMembership (s : State) : s.Still s.bumpMembership := {}

theorem loses (p : Pos) (d : Nat) (s : State) : s.Still (s.loses p d) :=
  ((putEnrolment _ _ _ _).trans (bumpMembership _)).trans (enrolmentEvent _ _ _)

theorem membership (h : Membership s t) : s.Still t := by
  cases h with
  | enrolls port p d _ _ _ => exact ((putEnrolment _ _ _ _).trans (bumpMembership _)).trans (enrolmentEvent _ _ _)
  | excludes port p d _ _ _ => exact ((putEnrolment _ _ _ _).trans (bumpMembership _)).trans (enrolmentEvent _ _ _)
  | vacates port p _ _ => exact ((putEnrolment _ _ _ _).trans (bumpMembership _)).trans (enrolmentEvent _ _ _)
  | takesOver port p d _ => exact putEnrolment _ _ _ _
  | vacateExcluded port p _ => exact (putEnrolment _ _ _ _).trans (enrolmentEvent _ _ _)

/-! The parts of the start and of the end of a cause that leave the causes alone. -/

theorem claim (v : VecIx) (p : Pos) (s : State) : s.Still (s.claim v p) := by
  unfold State.claim
  dsimp only
  split
  · split
    · exact (putSeek _ _ _).trans (setTrunk _ _)
    · split
      · exact (putSeek _ _ _).trans (setTrunk _ _)
      · exact setPosRec _ _ s
  · exact refl s

theorem giveUp (v : VecIx) (p : Pos) (s : State) : s.Still (s.giveUp v p) := by
  unfold State.giveUp
  dsimp only
  split
  · split
    · exact (setTrunk _ s).trans (putSeek _ _ _)
    · exact (putSeek _ _ _).trans (setTrunk _ _)
  · exact refl s

theorem activate (v : VecIx) (src : Source) (s : State) :
    (s.setPre { s.pre with causes := s.pre.causes.set v.val (some ⟨(s.pre.vectors.get v).maxHold, src⟩) v.isLt }).Still
      (s.activate v src) := by
  have claims (u : State) := foldl (fun s (z : Seizure) => claim v z.pos s) (s.pre.vectors.get v).list u
  unfold State.activate
  exact (claims _).trans (alert _ _)

theorem unclaimed (v : VecIx) (s : State) : s.Still ((allPos.foldl (fun s p => s.giveUp v p) s).leaveClaims v) :=
  (foldl (fun s p => giveUp v p s) _ _).trans (mapPosRec _ _)

end State.Still

/-- The causes after the end of one. -/
theorem State.endCause_still (v : VecIx) (reason : EndReason) (s : State) :
    ∃ u, s.Still u ∧ (u.setPre { u.pre with causes := u.pre.causes.set v.val none v.isLt }).Still (s.endCause v reason) := by
  have ended (u : State) : (u.setPre { u.pre with causes := u.pre.causes.set v.val none v.isLt }).Still
      ((u.setPre { u.pre with
        causes := u.pre.causes.set v.val none v.isLt
        lastEnd := u.pre.lastEnd.set v.val (some reason) v.isLt }).alert .preempt) := .trans {} (.alert .preempt _)
  exact ⟨_, State.Still.unclaimed v s, ended _⟩

theorem Setting.still (h : Setting s t) : s.Still t ∨
    ∃ p v c, s.causeActive v = false ∧ (c.list.map (·.pos)).Nodup ∧ t = s.setVector p v c := by
  cases h with
  | turnCycle h =>
    obtain ⟨k, l, e⟩ := s.turnCycle_eq
    refine .inl ?_
    rw [e]
    unfold State.activatePending
    split <;> exact {}
  | applyTimebase _ p x => exact .inl (by unfold State.applyTimebase; split <;> exact {})
  | setEnables _ p e => exact .inl (by unfold State.setEnables; split <;> exact {})
  | setVector _ p v c h hd => exact .inr ⟨p, v, c, h, hd, rfl⟩
  | reconfigureLine _ p t k c => exact .inl (by unfold State.reconfigureLine; dsimp only; split <;> exact {})
  | openSlot _ p i h base _ _ _ _ _ => exact .inl (by unfold State.openSlot; dsimp only; split <;> exact {})
  | dropSlot _ p i _ _ => exact .inl (by unfold State.dropSlot; split <;> exact {})
  | _ => exact .inl {}

theorem State.turnCycle_still (s : State) : s.Still s.turnCycle := by
  obtain ⟨k, l, e⟩ := s.turnCycle_eq
  rw [e]
  unfold State.activatePending
  split <;> exact {}

theorem State.seekActivation_still (s : State) : s.Still s.seekActivation := .mapPosRec _ s

theorem State.restart_faults : s.restart.faults.first = none ∧ s.restart.faults.next = [] := by
  have passed (u : State) (h : u.faults.first = none ∧ u.faults.next = []) :
      u.acquireAfterRestart.faults.first = none ∧ u.acquireAfterRestart.faults.next = [] := by
    unfold State.acquireAfterRestart
    split
    · exact h
    · exact h
  refine passed _ ?_
  rw [State.restartBlocks_faults]
  exact ⟨rfl, rfl⟩

/-! ### The fault record -/

theorem State.setVector_faults (p : PortId) (v : VecIx) (c : VectorCfg) : (s.setVector p v c).faults = s.faults := by
  unfold State.setVector
  dsimp only
  split <;> rfl

theorem Change.faultLaw (T : Nat → Prop) (s t : State) (c : Change T s t) (hs : FaultLaw s) : FaultLaw t := by
  cases c with
  | aside h => exact (State.Still.aside h).faults hs
  | fault i => exact (State.Still.fault i s).faults hs
  | clearFaults => exact fun _ => rfl
  | seekRollover => exact (State.Still.mapPosRec _ s).faults hs
  | activate v src _ => exact (State.Still.activate v src s).faults hs
  | endCause v reason =>
    obtain ⟨u, before, after⟩ := s.endCause_still v reason
    exact after.faults (before.faults hs)
  | setting h =>
    obtain still | ⟨p, v, c, -, -, rfl⟩ := h.still
    · exact still.faults hs
    · rw [FaultLaw, State.setVector_faults]; exact hs
  | membership _ h => exact (State.Still.membership h).faults hs
  | _ => exact hs

theorem faultLaw_running : RunningLaw FaultLaw where
  change := Change.faultLaw
  loss s p d _ hs := (Changes.reportCount (T := NoTarget) _).keep Change.faultLaw ((State.Still.loses p d s).faults hs)
  turnCycle s _ hs := s.turnCycle_still.faults hs
  seekActivation s hs := s.seekActivation_still.faults hs
  closeSlot _ _ _ _ _ _ _ hs := hs
  restart _ _ := fun _ => State.restart_faults.2
  eraseStore _ _ hs := hs
  losePower _ _ hs := hs

/-! ### The remaining holds -/

theorem HoldLaw.of_still (h : s.Still t) (hs : HoldLaw s) : HoldLaw t := by
  rw [HoldLaw, h.causes, h.vectors]
  exact hs

/-- One cause is replaced, and its remaining hold is in range. -/
theorem HoldLaw.setCause {v : VecIx} {x : Option Cause} {f : Vector (Option EndReason) 8 → Vector (Option EndReason) 8}
    (hx : ∀ c, x = some c → c.remaining ≤ (s.pre.vectors.get v).maxHold) (hs : HoldLaw s) :
    HoldLaw (s.setPre { s.pre with causes := s.pre.causes.set v.val x v.isLt, lastEnd := f s.pre.lastEnd }) := by
  intro w c
  show (s.pre.causes.set v.val x v.isLt).get w = some c → c.remaining ≤ (s.pre.vectors.get w).maxHold
  rw [get_set]
  split
  · next e => exact e ▸ hx c
  · exact hs w c

theorem State.setVector_pre (p : PortId) (v : VecIx) (c : VectorCfg) :
    (s.setVector p v c).pre = { s.pre with vectors := s.pre.vectors.set v.val c v.isLt } := by
  unfold State.setVector
  dsimp only
  split <;> rfl

theorem HoldLaw.setVector (p : PortId) {v : VecIx} (c : VectorCfg) (hv : s.causeActive v = false) (hs : HoldLaw s) :
    HoldLaw (s.setVector p v c) := by
  intro w x
  rw [State.setVector_pre]
  intro hx
  show x.remaining ≤ ((s.pre.vectors.set v.val c v.isLt).get w).maxHold
  rw [get_set]
  split
  · next e =>
    subst e
    have active : s.pre.causes.get v = some x := hx
    rw [State.causeActive, active] at hv
    cases hv
  · exact hs w x hx

theorem Change.holdLaw (T : Nat → Prop) (s t : State) (c : Change T s t) (hs : HoldLaw s) : HoldLaw t := by
  cases c with
  | aside h => exact hs.of_still (.aside h)
  | seekRollover => exact hs.of_still (.mapPosRec _ s)
  | activate v src _ =>
    exact (HoldLaw.setCause (f := id) (fun c e => by cases e; exact Nat.le_refl _) hs).of_still (.activate v src s)
  | endCause v reason =>
    obtain ⟨u, before, after⟩ := s.endCause_still v reason
    exact (HoldLaw.setCause (x := none) (f := id) nofun (hs.of_still before)).of_still after
  | countDown =>
    intro v c
    show (Vector.ofFn fun v => (s.pre.causes.get v).map Cause.countDown).get v = some c → c.remaining ≤ _
    rw [get_ofFn]
    intro h
    obtain ⟨x, hx, rfl⟩ := Option.map_eq_some_iff.mp h
    exact (Nat.sub_le x.remaining 1).trans (hs v x hx)
  | setting h =>
    obtain still | ⟨p, v, c, hv, -, rfl⟩ := h.still
    · exact hs.of_still still
    · exact hs.setVector p c hv
  | membership _ h => exact hs.of_still (.membership h)
  | _ => exact hs

theorem holdLaw_running : RunningLaw HoldLaw where
  change := Change.holdLaw
  loss s p d _ hs := (Changes.reportCount (T := NoTarget) _).keep Change.holdLaw (hs.of_still (.loses p d s))
  turnCycle s _ hs := hs.of_still s.turnCycle_still
  seekActivation s hs := hs.of_still s.seekActivation_still
  closeSlot s p q i h es _ hs := hs
  restart s _ := fun v c => by
    rw [State.restart_pre]
    show (Vector.replicate 8 none).get v = some c → _
    rw [get_replicate]
    nofun
  eraseStore s p hs := hs
  losePower s torn hs := hs

/-- Settles O50: a record is filled before the next-fault set, a miss count is written with its health, and a hold starts at its
vector's maximum and falls. -/
theorem stepKeepsRecordLaws : Obligations.StepKeepsRecordLaws := by
  intro s t h
  refine ⟨faultLaw_running.step (fun _ _ hs => hs) h, fun hs => ?_, holdLaw_running.step (fun _ _ hs => hs) h⟩
  obtain rfl | ⟨rest, hr⟩ := step_cases h
  · exact hs
  · exact HealthLaw.steps hr hs

/-! ### The members of coordination -/

theorem State.setVector_ctl (p : PortId) (v : VecIx) (c : VectorCfg) : (s.setVector p v c).ctl = s.ctl := by
  unfold State.setVector
  dsimp only
  split <;> rfl

theorem MembersLaw.of_le (hm : t.ctl.master = s.ctl.master) (hc : s.enrolledCount ≤ t.enrolledCount) (hs : MembersLaw s) :
    MembersLaw t := fun h => by
  rw [hm] at h
  exact (hs h).trans hc

theorem MembersLaw.of_enrolment (hm : t.ctl.master = s.ctl.master)
    (he : ∀ p, (t.posRec p).enrolment = (s.posRec p).enrolment) (hs : MembersLaw s) : MembersLaw t :=
  hs.of_le hm (State.enrolledCount_of_enrolment he).ge

theorem MembersLaw.membership (h : Membership s t) (hs : MembersLaw s) : MembersLaw t := by
  have master := congrArg Ctl.master h.master
  have fewer {p : Pos} {e : Enrolment} (he : s.Reenrols p e t) (hn : s.ctl.master.runs = true → 3 ≤ s.enrolledCount) :
      MembersLaw t := fun hm => by
    rw [master] at hm
    have runs : s.ctl.master.runs = true := by obtain hm | hm := hm <;> rw [hm] <;> rfl
    have := he.enrolledCount_le
    have := hn runs
    omega
  cases h with
  | enrolls port p d he _ _ =>
    exact hs.of_le master ((State.enrolls_reenrols port p d).enrolledCount_mono fun _ => rfl)
  | excludes port p d _ _ hn => exact fewer (State.leaves_reenrols port p _ _) hn
  | vacates port p _ hn => exact fewer (State.leaves_reenrols port p _ _) hn
  | takesOver port p d he =>
    exact hs.of_le master ((State.putEnrolment_reenrols _ p _).enrolledCount_mono fun e => by rw [he] at e; exact e)
  | vacateExcluded port p he =>
    exact hs.of_le master (((State.putEnrolment_reenrols (some port) p .vacant).event (.vacates false)).enrolledCount_mono
      fun e => absurd (he.symm.trans e) (by decide))

theorem Change.membersLaw (T : Nat → Prop) (s t : State) (c : Change T s t) (hs : MembersLaw s) : MembersLaw t := by
  have same (hm : t.ctl.master = s.ctl.master) : MembersLaw t := by
    obtain he | h := c.enrolment
    · exact hs.of_enrolment hm he
    · exact hs.membership h
  cases c with
  | aside h => exact same h.master
  | seekRollover => exact same (State.Still.mapPosRec _ s).master
  | activate v src _ => exact same (State.Still.activate v src s).master
  | endCause v reason =>
    obtain ⟨u, before, after⟩ := s.endCause_still v reason
    exact same (after.master.trans before.master)
  | setMaster m hm =>
    intro h
    obtain h | h := hm h
    · exact hs h
    · exact h
  | setting h =>
    obtain still | ⟨p, v, c, -, -, rfl⟩ := h.still
    · exact same still.master
    · exact same (congrArg Ctl.master (State.setVector_ctl p v c))
  | membership _ h => exact hs.membership h
  | _ => exact same rfl

/-! A change of master state leaves the new state in force. -/

theorem State.KeepsBand.seekMaster (old new : Master) (s : State) : s.KeepsBand (s.seekMaster old new) := by
  unfold State.seekMaster
  split
  iterate 9 exact State.KeepsBand.foldl (fun s p => State.KeepsBand.putSeek p _ s) _ _
  exact State.KeepsBand.refl s

theorem State.KeepsBand.preMaster (old : Master) (s : State) : s.KeepsBand (s.preMaster old) := by
  unfold State.preMaster
  split
  · refine State.KeepsBand.foldl (fun s v => ?_) _ _
    split
    · exact State.KeepsBand.endCause _ _ _
    · exact State.KeepsBand.refl s
  · exact State.KeepsBand.refl s

@[simp] theorem State.startComputation_ctl (s : State) : s.startComputation.ctl = s.ctl := s.startComputation_keepsBand.ctl

@[simp] theorem State.trigger_ctl (s : State) : s.trigger.ctl = s.ctl := by
  unfold State.trigger
  split
  · exact s.startComputation_ctl
  · rfl

@[simp] theorem State.bandMaster_ctl (old new : Master) (s : State) : (s.bandMaster old new).ctl = s.ctl := by
  have interrupted : (if old = .coordinating then s.setBand s.band.interrupt else s).ctl = s.ctl := by split <;> rfl
  unfold State.bandMaster
  dsimp only
  split
  · rw [State.trigger_ctl, interrupted]
  all_goals exact interrupted

@[simp] theorem State.changeMaster_ctl (m : Master) (s : State) : (s.changeMaster m).ctl = { s.ctl with master := m } :=
  (State.bandMaster_ctl ..).trans
    ((State.KeepsBand.preMaster s.ctl.master _).ctl.trans (State.KeepsBand.seekMaster s.ctl.master m (s.setMaster m)).ctl)

/-- A loss that leaves fewer than two positions takes the master out of coordination (R162). -/
theorem MembersLaw.reportCount (s : State) : MembersLaw s.reportCount := by
  unfold State.reportCount
  split
  · next few =>
    have out {m : Master} (e : s.ctl.master = m) (h : ¬(m = .coordinating ∨ m = .hold)) : MembersLaw s :=
      fun hm => absurd (e ▸ hm) h
    unfold State.fallbackUnlessOut
    split
    iterate 3
      intro hm
      have master : (s.enterFallback .membership).ctl.master = .fallback :=
        congrArg Ctl.master (s.changeMaster_ctl .fallback)
      rw [master] at hm
      simp at hm
    · next e => exact out e (by simp)
    · next e => exact out e (by simp)
  · next enough => exact fun _ => Nat.not_lt.mp enough

theorem membersLaw_running : RunningLaw MembersLaw where
  change := Change.membersLaw
  loss s p d _ _ := .reportCount _
  turnCycle s _ hs := hs.of_enrolment s.turnCycle_still.master fun p => by rw [State.posRec_of_pos (State.turnCycle_pos s)]
  seekActivation s hs := hs.of_enrolment s.seekActivation_still.master
    (State.enrolment_of_kept (State.kept_seekActivation s))
  closeSlot s p q i h es _ hs := hs.of_enrolment rfl fun _ => rfl
  restart s _ := fun h => by rw [State.restart_ctl] at h; simp [Ctl.restarted] at h
  eraseStore s p hs := hs
  losePower s torn hs := hs

end Sys2Proof.Machine
end

section
/-! The laws of the snapshot in flight (R77, R28) and of the offsets (R96). -/

namespace Sys2Proof.Machine

variable {s t u : State}

/-! ### The slots of the Plan Store -/

/-- A slot READY after a step was READY before, under the same generation. -/
def State.SlotsFrom (s t : State) : Prop :=
  ∀ i h es, (t.plans.slot i).body = .ready h es → (s.plans.slot i).body = .ready h es ∧ (t.plans.slot i).gen = (s.plans.slot i).gen

theorem State.SlotsFrom.of_plans (h : t.plans = s.plans) : s.SlotsFrom t := fun i hd es e => by
  rw [h] at e ⊢
  exact ⟨e, rfl⟩

theorem State.SlotsFrom.setSlot {i : SlotIx} {x : Slot} (hp : t.plans = s.plans.setSlot i x)
    (hx : ∀ h es, x.body = .ready h es → (s.plans.slot i).body = .ready h es ∧ x.gen = (s.plans.slot i).gen) : s.SlotsFrom t := by
  intro j h es
  rw [hp, PlanStore.slot_setSlot]
  split
  · next e => exact e ▸ hx h es
  · exact fun e => ⟨e, rfl⟩

theorem State.turnCycle_slot (i : SlotIx) : s.turnCycle.plans.slot i = s.plans.slot i := by
  rw [State.turnCycle_plans]
  split <;> rfl

theorem Setting.slotsFrom (h : Setting s t) : s.SlotsFrom t := by
  cases h with
  | turnCycle h => exact fun i hd es e => by rw [State.turnCycle_slot] at e ⊢; exact ⟨e, rfl⟩
  | applyTimebase _ p x => exact .of_plans (by unfold State.applyTimebase; split <;> rfl)
  | setEnables _ p e => exact .of_plans (by unfold State.setEnables; split <;> rfl)
  | setVector _ p v c _ _ => exact .of_plans (by unfold State.setVector; dsimp only; split <;> rfl)
  | reconfigureLine _ p t k c => exact .of_plans (by unfold State.reconfigureLine; dsimp only; split <;> rfl)
  | openSlot _ p i h base _ _ _ _ _ =>
    refine .setSlot (i := i) (x := { s.plans.slot i with body := .loading { h with base } p (List.replicate h.count none) }) ?_ nofun
    unfold State.openSlot
    dsimp only
    split <;> rfl
  | writeEntry i h q es es' hb => exact .setSlot (i := i) (x := { s.plans.slot i with body := .loading h q es' }) rfl nofun
  | dropSlot _ p i _ _ =>
    have empty {u : State} (hp : u.plans = s.plans.setSlot i { s.plans.slot i with body := .empty }) : s.SlotsFrom u :=
      .setSlot hp nofun
    unfold State.dropSlot
    split
    · exact .of_plans rfl
    · exact empty rfl
    · exact empty rfl
  | setLocked _ p i b _ =>
    exact .setSlot (i := i) (x := { s.plans.slot i with locked := b }) rfl fun h es e => ⟨e, rfl⟩
  | select i _ _ =>
    have slots : (s.plans.select i).slots = s.plans.slots := by unfold PlanStore.select; split <;> rfl
    exact fun j h es e => by
      have slot : (s.plans.select i).slot j = s.plans.slot j := by rw [PlanStore.slot, slots]; rfl
      rw [State.setPlans_plans, slot] at e ⊢
      exact ⟨e, rfl⟩
  | _ => exact .of_plans rfl

/-! ### The snapshot in flight -/

theorem SnapshotLaw.congr (hb : t.band.inFlight = s.band.inFlight) (hp : s.SlotsFrom t) (hs : SnapshotLaw s) : SnapshotLaw t := by
  intro x hx
  rw [hb] at hx
  obtain ⟨order, same⟩ := hs x hx
  refine ⟨order, fun h es e g => ?_⟩
  obtain ⟨body, gen⟩ := hp _ h es e
  exact same h es body (gen ▸ g)

theorem State.enrolledList_ascends (s : State) : s.enrolledList.Pairwise (· < ·) :=
  (List.pairwise_lt_finRange 24).filter _

/-- The snapshot of a state meets its law there. -/
theorem SnapshotLaw.newComputation {b : Band} (hb : b.inFlight = some s.newComputation) : SnapshotLaw (s.setBand b) := by
  intro x hx
  obtain rfl : s.newComputation = x := Option.some.inj (hb.symm.trans hx)
  refine ⟨List.pairwise_map.mpr (s.enrolledList_ascends.imp fun h => ?_), fun h es e _ => ?_⟩
  · show (s.snapPos _).pos < (s.snapPos _).pos
    have pos (p : Pos) : (s.snapPos p).pos = p := by unfold State.snapPos; dsimp only; split <;> rfl
    rwa [pos, pos]
  · have active : (s.plans.slot s.plans.active).body = .ready h es := e
    show h.c = s.plan.c
    rw [State.plan, PlanStore.header, active]
    rfl

theorem SnapshotLaw.interrupt (hs : SnapshotLaw s) : SnapshotLaw (s.setBand s.band.interrupt) := by
  intro x hx
  obtain ⟨y, hy, rfl⟩ := Option.map_eq_some_iff.mp hx
  exact hs y hy

theorem Change.snapshotLaw (T : Nat → Prop) (s t : State) (c : Change T s t) (hs : SnapshotLaw s) : SnapshotLaw t := by
  have plans : s.SlotsFrom t := by
    obtain ⟨plans, -⟩ | h := c.plans_clock
    · exact .of_plans plans
    · exact h.slotsFrom
  have same (h : s.Still t) : SnapshotLaw t := hs.congr h.inFlight plans
  cases c with
  | aside h => exact same (.aside h)
  | seekRollover => exact same (.mapPosRec _ s)
  | activate v src _ => exact hs.congr (State.Still.activate v src s).inFlight plans
  | endCause v reason =>
    obtain ⟨u, before, after⟩ := s.endCause_still v reason
    exact hs.congr (after.inFlight.trans before.inFlight) plans
  | newComputation => exact .newComputation rfl
  | interrupt => exact hs.interrupt
  | conclude hb => exact fun x hx => nomatch hb.symm.trans hx
  | setting h =>
    obtain still | ⟨p, v, c, -, -, rfl⟩ := h.still
    · exact same still
    · refine hs.congr ?_ plans
      unfold State.setVector
      dsimp only
      split <;> rfl
  | membership _ h => exact same (.membership h)
  | _ => exact hs.congr rfl plans

/-- A step keeps the law of the snapshot, unless it brings the slot of the snapshot back to the snapshot's generation. -/
theorem SnapshotLaw.steps (c : Steps s t) (hs : SnapshotLaw s)
    (fresh : ∀ x, s.band.inFlight = some x → (s.plans.slot x.snap.slot).gen ≠ x.snap.gen →
      (t.plans.slot x.snap.slot).gen ≠ x.snap.gen) : SnapshotLaw t := by
  have along {T : Nat → Prop} {u v : State} (c : Changes T u v) : SnapshotLaw u → SnapshotLaw v := c.keep Change.snapshotLaw
  cases c with
  | run c => exact along c hs
  | @loss u t p d c _ _ c' =>
    refine along c' (along (T := NoTarget) (.reportCount _) ?_)
    exact (along c hs).congr (State.Still.loses p d u).inFlight (.of_plans (State.loses_plans_clock p d).1)
  | @activation u v t c _ _ c1 c2 =>
    have turned : SnapshotLaw u.turnCycle := (along c hs).congr u.turnCycle_still.inFlight fun i h es e => by
      rw [State.turnCycle_slot] at e ⊢
      exact ⟨e, rfl⟩
    exact along c2 ((along c1 turned).congr v.seekActivation_still.inFlight (.of_plans (by simp [State.seekActivation])))
  | @close u t p q i h es ha _ hb _ ha' =>
    have plans : t.plans = s.plans.setSlot i ⟨(s.plans.slot i).locked, (s.plans.slot i).gen + 1, .ready h (es.filterMap id)⟩ := by
      rw [ha'.plans, ← ha.plans]
      rfl
    intro x hx
    replace hx : s.band.inFlight = some x := (ha.inFlight.symm.trans ha'.inFlight.symm).trans hx
    obtain ⟨order, same⟩ := hs x hx
    refine ⟨order, fun h' es' => ?_⟩
    have fresh := fresh x hx
    rw [plans, PlanStore.slot_setSlot] at fresh ⊢
    split
    · next e =>
      subst e
      rw [if_pos rfl] at fresh
      intro _ g
      by_cases old : (s.plans.slot x.snap.slot).gen = x.snap.gen
      · exact absurd (old.trans g.symm) (by simp)
      · exact absurd g (fresh old)
    · exact same h' es'
  | restart ha =>
    intro x hx
    rw [State.restart_band] at hx
    cases hx
  | erase ha hv =>
    intro x hx
    rw [State.restart_band] at hx
    cases hx
  | losePower torn => exact hs

/-! ### The offsets -/

/-- Every present target or running offset lies below the C of plan `h` (R96). -/
def PosRec.Below (h : Header) (r : PosRec) : Prop := ∀ n, r.target = some n ∨ r.running = some n → n < h.c

/-- What `Below` speaks of. -/
def PosRec.offsets (r : PosRec) : Option Nat × Option Nat := (r.target, r.running)

theorem PosRec.Below.of_offsets {h : Header} {r r' : PosRec} (e : r'.offsets = r.offsets) (hr : r.Below h) : r'.Below h := by
  obtain ⟨ht, hu⟩ := Prod.mk.inj e
  rw [PosRec.Below, ht, hu]
  exact hr

theorem PosRec.Below.of_none {h : Header} {r : PosRec} (ht : r.target = none) (hu : r.running = none) : r.Below h := by
  intro n
  rw [ht, hu]
  rintro (e | e) <;> cases e

section Offsets

variable (h : Header) (r : PosRec)

theorem PosRec.offsets_evaluate : (r.evaluate h).offsets = r.offsets := by
  unfold PosRec.evaluate
  split
  · split <;> rfl
  · rfl

theorem PosRec.offsets_reevaluate : (r.reevaluate h).offsets = r.offsets := by
  unfold PosRec.reevaluate
  split
  · exact r.offsets_evaluate h
  · rfl

theorem PosRec.offsets_endSuspension (off : Bool) : (r.endSuspension h off).offsets = r.offsets := by
  unfold PosRec.endSuspension
  split
  · split
    · rfl
    · exact r.offsets_evaluate h
  · rfl

theorem PosRec.offsets_takeMode (off : Bool) (m : Mode) : (r.takeMode h off m).offsets = r.offsets := by
  unfold PosRec.takeMode
  split
  · rfl
  · split
    · split <;> rfl
    · exact PosRec.offsets_endSuspension ..

theorem PosRec.offsets_closeRound (n : Half) : (r.closeRound n).offsets = r.offsets := by
  unfold PosRec.closeRound
  split <;> rfl

theorem PosRec.offsets_masterRises : (r.masterRises h).offsets = r.offsets := by
  unfold PosRec.masterRises
  split
  · split
    · exact r.offsets_evaluate h
    · rfl
  · rfl
  · rfl

theorem PosRec.offsets_answerMode (m : Mode) : (r.answerMode m).offsets = r.offsets := by
  unfold PosRec.answerMode
  split <;> rfl

theorem PosRec.offsets_disowned : (r.disowned h).offsets = r.offsets := by
  unfold PosRec.disowned
  split
  · show (PosRec.dropped _).offsets = _
    unfold PosRec.dropped
    split <;> rfl
  · rfl

end Offsets

/-- The offset of a report is taken below C, by R105. -/
theorem PosRec.Below.takeOffset {h : Header} {r : PosRec} (a : PlanTag) (rep : Report) (hr : r.Below h) :
    (r.takeOffset h a rep).Below h := by
  have unknown : PosRec.Below h { r with running := none } := by
    rintro n (e | e)
    · exact hr n (.inl e)
    · cases e
  unfold PosRec.takeOffset
  split
  · next o ho =>
    split
    · next hc =>
      rintro n (e | e)
      · exact hr n (.inl e)
      · cases e
        exact modC_lt _ (Nat.zero_lt_of_lt hc.1)
    · exact unknown
  · exact unknown

theorem RecordStep.below {T : Nat → Prop} {h : Header} (hT : ∀ n, T n → n < h.c) {r r' : PosRec} (c : RecordStep T h r r')
    (hr : r.Below h) : r'.Below h := by
  cases c with
  | seek c =>
    cases c with
    | answer m => exact hr.of_offsets (r.offsets_answerMode m)
    | @target n hn =>
      refine PosRec.Below.of_offsets (r := { r with target := some n }) (PosRec.offsets_reevaluate h _) ?_
      rintro m (e | e)
      · cases e; exact hT n hn
      · exact hr m (.inr e)
    | report a rep off n =>
      have tag : (r.takeTag a rep.tag).Below h := hr
      exact ((((tag.takeOffset a rep).of_offsets (PosRec.offsets_takeMode h _ off rep.mode)).of_offsets
        (PosRec.offsets_reevaluate h _)).of_offsets (PosRec.offsets_closeRound _ n))
    | failure n =>
      refine PosRec.Below.of_offsets (r := r.loseOffset h) (PosRec.offsets_closeRound _ n) ?_
      unfold PosRec.loseOffset
      split
      · split
        · refine PosRec.Below.of_offsets (r := { r with running := none }) (PosRec.offsets_reevaluate h _) ?_
          rintro m (e | e)
          · exact hr m (.inl e)
          · cases e
        · exact hr
      · exact hr
    | rises => exact hr.of_offsets (r.offsets_masterRises h)
    | falls =>
      rintro n (e | e)
      · cases e
      · exact hr n (.inr e)
    | _ => exact hr
  | owner c =>
    cases c with
    | release off =>
      exact PosRec.Below.of_offsets (r := { r with owner := none, mode := .coordinated })
        (PosRec.offsets_endSuspension h _ off) hr
    | _ => exact hr
  | unspent => exact hr

theorem PosRec.below_recordLaw {T : Nat → Prop} {h : Header} (hT : ∀ n, T n → n < h.c) :
    RecordLaw T h (PosRec.Below h) where
  step := RecordStep.below hT
  enrols _ _ _ _ _ := .of_none rfl rfl
  leaves _ _ _ _ := .of_none rfl rfl
  vacates _ _ _ := .of_none rfl rfl
  vacated _ _ hr := hr
  takenOver _ _ _ _ hr := hr
  lost r e _ _ := (PosRec.Below.of_none rfl rfl).of_offsets (PosRec.offsets_disowned h (r.excludedAs h e))
  restarted _ := .of_none rfl rfl

/-- The targets of the computation in flight lie below the C of the active plan, when the plan is the one of its snapshot. -/
theorem State.Targets.below (hs : SnapshotLaw s) (hc : s.ClockRuns) {n : Nat} (h : s.Targets n) : n < s.plan.c := by
  obtain ⟨x, hx, tag, below⟩ := h
  obtain ⟨slot, gen⟩ := PlanTag.mk.inj tag
  obtain ⟨hd, es, hb⟩ := SlotBody.isReady_iff.mp hc.activeReady
  have same : hd.c = x.snap.c := (hs x hx).2 hd es (slot ▸ hb) (slot ▸ gen)
  have plan : s.plan.c = x.snap.c := by rw [State.plan, PlanStore.header, hb]; exact same
  have := hc.plan_pos
  rw [plan] at this ⊢
  exact below (by omega)

theorem OffsetLaw.steps (c : Steps s t) (hb : ClockBase s ∧ ClockLaw s) (hn : SnapshotLaw s) (hs : OffsetLaw s) :
    OffsetLaw t := by
  intro ht
  obtain hp | ⟨e, he⟩ := c.powered_or_restarts ht
  · exact RecordLaw.steps_of_activates (P := PosRec.Below)
      (PosRec.below_recordLaw fun n h => h.below hn ((clockLaw_iff.mp hb).running hp)) (fun h => PosRec.below_recordLaw nofun)
      (fun h r => .of_none rfl rfl) c (hs hp)
  · intro p n
    rw [he p]
    exact PosRec.Below.of_none (h := t.plan) rfl rfl n

/-- Settles O53: two positions stay ENROLLED while coordination runs, every seek field follows the evaluation of R99, and a target is
written under the plan of its snapshot alone. -/
theorem stepKeepsCoordinationLaws : Obligations.StepKeepsCoordinationLaws := by
  intro s t h
  refine ⟨membersLaw_running.step (fun _ _ hs => hs) h, ?_⟩
  obtain rfl | ⟨rest, hr⟩ := step_cases h
  · exact ⟨id, id, fun _ _ _ hs => hs, fun hs _ => hs⟩
  · exact ⟨fun hs => InStepLaw.steps hr hs, fun hs => SeekLaw.steps hr hs, fun hb hc hn hs => OffsetLaw.steps hr ⟨hb, hc⟩ hn hs,
      fun hs fresh => SnapshotLaw.steps hr hs fresh⟩

end Sys2Proof.Machine
end

section
/-! What the start and the end of a cause do at each position (R145, R148), and the law of owners and pending causes. -/

namespace Sys2Proof.Machine

variable {s t u : State}

/-! ### Rank (R140) -/

section Rank

variable {x : Pre} {a b c : VecIx}

theorem Pre.ranksAbove_iff : x.RanksAbove a b ↔
    (x.vectors.get a).cls.rank < (x.vectors.get b).cls.rank ∨
      (x.vectors.get a).cls.rank = (x.vectors.get b).cls.rank ∧ a.val < b.val := by
  unfold Pre.RanksAbove
  dsimp only
  generalize (x.vectors.get a).cls = j
  generalize (x.vectors.get b).cls = k
  cases j <;> cases k <;> simp [VectorClass.rank]

theorem Pre.outranks_iff : x.outranks a b = true ↔ x.RanksAbove a b := by
  simp only [Pre.ranksAbove_iff, Pre.outranks, Bool.or_eq_true, Bool.and_eq_true, decide_eq_true_eq]

theorem Pre.RanksAbove.irrefl : ¬x.RanksAbove a a := by
  simp [Pre.ranksAbove_iff]

theorem Pre.RanksAbove.trans (h : x.RanksAbove a b) (k : x.RanksAbove b c) : x.RanksAbove a c := by
  simp only [Pre.ranksAbove_iff] at h k ⊢
  omega

theorem Pre.ranksAbove_of_not (h : ¬x.RanksAbove a b) (hn : a ≠ b) : x.RanksAbove b a := by
  have : a.val ≠ b.val := fun e => hn (Fin.ext e)
  simp only [Pre.ranksAbove_iff] at h ⊢
  omega

theorem Pre.RanksAbove.ne (h : x.RanksAbove a b) : a ≠ b := fun e => Pre.RanksAbove.irrefl (e ▸ h)

theorem Pre.outranks_congr {x y : Pre} (h : y.vectors = x.vectors) : y.outranks = x.outranks := by
  unfold Pre.outranks
  rw [h]

theorem Pre.ranksAbove_congr {x y : Pre} (h : y.vectors = x.vectors) : y.RanksAbove = x.RanksAbove := by
  funext a b
  rw [← eq_iff_iff.mpr Pre.outranks_iff, ← eq_iff_iff.mpr Pre.outranks_iff, Pre.outranks_congr h]

theorem Pre.joinClaims_congr {x y : Pre} (h : y.vectors = x.vectors) (v : VecIx) (l : List VecIx) :
    y.joinClaims v l = x.joinClaims v l := by
  induction l with
  | nil => rfl
  | cons w l ih => rw [Pre.joinClaims, Pre.joinClaims, ih, Pre.outranks_congr h]

theorem Pre.mem_joinClaims {v w : VecIx} {l : List VecIx} : w ∈ x.joinClaims v l ↔ w = v ∨ w ∈ l := by
  induction l with
  | nil => simp [Pre.joinClaims]
  | cons u l ih =>
    unfold Pre.joinClaims
    split
    · next e => subst e; simp
    · split
      · simp
      · simp only [List.mem_cons, ih]
        exact or_left_comm

/-- A vector above all others joins in front. -/
theorem Pre.joinClaims_above {v : VecIx} {l : List VecIx} (h : ∀ w, w ∈ l → x.RanksAbove v w) : x.joinClaims v l = v :: l := by
  cases l with
  | nil => rfl
  | cons w l =>
    have above := h w (List.mem_cons_self ..)
    rw [Pre.joinClaims, if_neg above.ne, if_pos (Pre.outranks_iff.mpr above)]

/-- A vector that is new to a pending set joins it at its place by rank. -/
theorem Pre.joinClaims_split {v : VecIx} {l : List VecIx} (hl : l.Pairwise x.RanksAbove) (hv : v ∉ l) :
    ∃ above below, l = above ++ below ∧ x.joinClaims v l = above ++ v :: below ∧ (∀ u, u ∈ above → x.RanksAbove u v) ∧
      ∀ u, u ∈ below → x.RanksAbove v u := by
  induction l with
  | nil => exact ⟨[], [], rfl, rfl, nofun, nofun⟩
  | cons w l ih =>
    obtain ⟨first, rest⟩ := List.pairwise_cons.mp hl
    obtain ⟨ne, hv⟩ := not_or.mp (mt List.mem_cons.mpr hv)
    by_cases h : x.RanksAbove v w
    · refine ⟨[], w :: l, rfl, Pre.joinClaims_above fun u hu => ?_, nofun, fun u hu => ?_⟩
      all_goals
        obtain rfl | hu := List.mem_cons.mp hu
        · exact h
        · exact h.trans (first u hu)
    · obtain ⟨above, below, e, joined, ha, hb⟩ := ih rest hv
      refine ⟨w :: above, below, by rw [e]; rfl, ?_, fun u hu => ?_, hb⟩
      · rw [Pre.joinClaims, if_neg ne, if_neg (fun k => h (Pre.outranks_iff.mp k)), joined]
        rfl
      · obtain rfl | hu := List.mem_cons.mp hu
        · exact Pre.ranksAbove_of_not h ne
        · exact ha u hu

theorem Pre.joinClaims_of_mem {v : VecIx} {l : List VecIx} (hl : l.Pairwise x.RanksAbove) (hv : v ∈ l) :
    x.joinClaims v l = l := by
  induction l with
  | nil => cases hv
  | cons w l ih =>
    obtain ⟨first, rest⟩ := List.pairwise_cons.mp hl
    rw [Pre.joinClaims]
    by_cases e : v = w
    · rw [if_pos e]
    · have hv := (List.mem_cons.mp hv).resolve_left e
      rw [if_neg e, if_neg (fun k => Pre.RanksAbove.irrefl ((Pre.outranks_iff.mp k).trans (first v hv))), ih rest hv]

theorem Pre.joinClaims_pairwise {v : VecIx} {l : List VecIx} (hl : l.Pairwise x.RanksAbove) :
    (x.joinClaims v l).Pairwise x.RanksAbove := by
  by_cases hv : v ∈ l
  · rwa [Pre.joinClaims_of_mem hl hv]
  · obtain ⟨above, below, e, joined, ha, hb⟩ := Pre.joinClaims_split hl hv
    subst e
    obtain ⟨pa, pb, across⟩ := List.pairwise_append.mp hl
    rw [joined, List.pairwise_append, List.pairwise_cons]
    refine ⟨pa, ⟨hb, pb⟩, fun u hu w hw => ?_⟩
    obtain rfl | hw := List.mem_cons.mp hw
    · exact ha u hu
    · exact across u hu w hw

end Rank

/-! ### One position at a time -/

/-- An operation on each of some positions in turn, that reaches position `p` by `g`, reaches each of them once. -/
theorem look_foldl {ε β : Type} {f : State → Pos → State} {env : State → ε} {look : State → Pos → β} {g : ε → Pos → β → β}
    (he : ∀ s p, env (f s p) = env s) (hf : ∀ s p q, look (f s p) q = if p = q then g (env s) p (look s p) else look s q)
    {l : List Pos} (hl : l.Nodup) (s : State) (q : Pos) :
    look (l.foldl f s) q = if q ∈ l then g (env s) q (look s q) else look s q := by
  induction l generalizing s with
  | nil => simp
  | cons p l ih =>
    obtain ⟨hp, hl⟩ := List.nodup_cons.mp hl
    rw [List.foldl_cons, ih hl, he, hf]
    by_cases e : p = q
    · subst e
      simp [hp]
    · simp [e, Ne.symm e]

theorem allPos_nodup : allPos.Nodup := List.nodup_finRange 24

/-- What the causes change at a position: its record and its order. -/
abbrev Holding := PosRec × Option OrderEntry

def State.holding (s : State) (p : Pos) : Holding := (s.posRec p, s.trunk.orders.get p)

@[simp] theorem State.holding_fst (s : State) (p : Pos) : (s.holding p).1 = s.posRec p := rfl
@[simp] theorem State.holding_snd (s : State) (p : Pos) : (s.holding p).2 = s.trunk.orders.get p := rfl
@[simp] theorem State.holding_alert (s : State) (c : AlertClass) (p : Pos) : (s.alert c).holding p = s.holding p := rfl
@[simp] theorem State.holding_setPre (s : State) (x : Pre) (p : Pos) : (s.setPre x).holding p = s.holding p := rfl

/-- A new order, as it enters the order table (R130). -/
def Order.placed (o : Order) : OrderEntry := { order := o, fails := 0, resting := false, sent := false }

/-- The PREEMPT order of vector `v` at `p`, under the vectors of `x` (R145, R148). -/
def Pre.preemptOrder (x : Pre) (v : VecIx) (p : Pos) : Order := .preempt v (x.vectors.get v).cls ((x.vectors.get v).phaseAt p)

/-- What a new cause `v` does at a listed position (R145). -/
def Holding.claimed (x : Pre) (h : Header) (v : VecIx) (p : Pos) (y : Holding) : Holding :=
  if y.1.claimable then
    match y.1.owner with
    | none => ((({ y.1 with owner := some v, claims := [] } : PosRec).seized).recorrect h, some (x.preemptOrder v p).placed)
    | some o =>
      if x.outranks v o then
        ((({ y.1 with owner := some v, claims := x.joinClaims o y.1.claims } : PosRec).handedOver).recorrect h,
          some (x.preemptOrder v p).placed)
      else ({ y.1 with claims := x.joinClaims v y.1.claims }, y.2)
  else y

/-- What the end of cause `v` does at a position it owns; `off` says that coordination is off (R148, step 1). -/
def Holding.givenUp (x : Pre) (h : Header) (off : Bool) (v : VecIx) (p : Pos) (y : Holding) : Holding :=
  if y.1.owner = some v then
    match y.1.claims with
    | [] => ((({ y.1 with owner := none } : PosRec).released h off).recorrect h, some Order.release.placed)
    | w :: rest =>
      ((({ y.1 with owner := some w, claims := rest } : PosRec).handedOver).recorrect h, some (x.preemptOrder w p).placed)
  else y

/-- Cause `v` leaves the pending set (R148, step 2). -/
def PosRec.unclaimed (v : VecIx) (r : PosRec) : PosRec := { r with claims := r.claims.filter fun w => w != v }

/-- What the end of cause `v` does at a position (R148). -/
def Holding.ended (x : Pre) (h : Header) (off : Bool) (v : VecIx) (p : Pos) (y : Holding) : Holding :=
  ((y.givenUp x h off v p).1.unclaimed v, (y.givenUp x h off v p).2)

theorem Holding.claimed_congr {x x' : Pre} (hv : x'.vectors = x.vectors) (h : Header) (v : VecIx) (p : Pos) (y : Holding) :
    y.claimed x' h v p = y.claimed x h v p := by
  simp only [Holding.claimed, Pre.preemptOrder, hv, Pre.outranks_congr hv, Pre.joinClaims_congr hv]

section Places

variable (s : State) (p q : Pos)

@[simp] theorem State.putSeek_trunk (r : PosRec) : (s.putSeek p r).trunk = s.trunk := by
  unfold State.putSeek
  dsimp only
  split <;> rfl

@[simp] theorem State.putSeek_pre (r : PosRec) : (s.putSeek p r).pre = s.pre := by
  unfold State.putSeek
  dsimp only
  split <;> rfl

theorem State.order_placeOrder (o : Order) :
    (s.placeOrder p o).trunk.orders.get q = if p = q then some o.placed else s.trunk.orders.get q := by
  simp only [State.placeOrder, State.setTrunk_trunk, get_set]
  rfl

theorem State.holding_self : s.holding q = if p = q then s.holding p else s.holding q := by
  split
  · next e => rw [e]
  · rfl

theorem State.holding_setPosRec (r : PosRec) :
    (s.setPosRec p r).holding q = if p = q then (r, s.trunk.orders.get p) else s.holding q := by
  simp only [State.holding, State.posRec_setPosRec, State.setPosRec_trunk]
  split
  · next e => rw [e]
  · rfl

theorem State.holding_putSeek_placeOrder (r : PosRec) (o : Order) :
    ((s.putSeek p r).placeOrder p o).holding q = if p = q then (r.recorrect s.plan, some o.placed) else s.holding q := by
  simp only [State.holding, State.posRec_placeOrder, State.posRec_putSeek, State.order_placeOrder, State.putSeek_trunk]
  split <;> rfl

theorem State.holding_placeOrder_putSeek (r : PosRec) (o : Order) :
    ((s.placeOrder p o).putSeek p r).holding q = if p = q then (r.recorrect s.plan, some o.placed) else s.holding q := by
  simp only [State.holding, State.posRec_placeOrder, State.posRec_putSeek, State.order_placeOrder, State.putSeek_trunk,
    State.plan_placeOrder]
  split <;> rfl

theorem State.holding_claim (v : VecIx) :
    (s.claim v p).holding q = if p = q then (s.holding p).claimed s.pre s.plan v p else s.holding q := by
  unfold State.claim Holding.claimed
  simp only [State.holding_fst, State.holding_snd]
  by_cases hc : (s.posRec p).claimable = true
  · simp only [hc, if_true]
    cases ho : (s.posRec p).owner with
    | none => exact s.holding_putSeek_placeOrder p q _ _
    | some o =>
      by_cases up : s.pre.outranks v o = true
      · simp only [up, if_true]
        exact s.holding_putSeek_placeOrder p q _ _
      · simp only [up]
        exact s.holding_setPosRec p q _
  · simp only [hc]
    exact s.holding_self p q

theorem State.holding_giveUp (v : VecIx) :
    (s.giveUp v p).holding q =
      if p = q then (s.holding p).givenUp s.pre s.plan (!s.ctl.master.runs) v p else s.holding q := by
  unfold State.giveUp Holding.givenUp
  simp only [State.holding_fst, State.holding_snd]
  by_cases ho : (s.posRec p).owner = some v
  · simp only [ho, if_true]
    cases hc : (s.posRec p).claims with
    | nil => exact s.holding_placeOrder_putSeek p q _ _
    | cons w rest => exact s.holding_putSeek_placeOrder p q _ _
  · simp only [ho]
    exact s.holding_self p q

/-! What the parts of a start or an end leave alone. -/

@[simp] theorem State.claim_pre (v : VecIx) : (s.claim v p).pre = s.pre := by
  unfold State.claim
  dsimp only
  split
  · split
    · exact State.putSeek_pre ..
    · split
      · exact State.putSeek_pre ..
      · rfl
  · rfl

@[simp] theorem State.giveUp_pre (v : VecIx) : (s.giveUp v p).pre = s.pre := by
  unfold State.giveUp
  dsimp only
  split
  · split
    · exact State.putSeek_pre ..
    · exact State.putSeek_pre ..
  · rfl

theorem State.claim_plan (v : VecIx) : (s.claim v p).plan = s.plan := State.plan_of_kept (State.kept_claim v p s)

theorem State.giveUp_plan (v : VecIx) : (s.giveUp v p).plan = s.plan := State.plan_of_kept (State.kept_giveUp v p s)

theorem State.giveUp_ctl (v : VecIx) : (s.giveUp v p).ctl = s.ctl := (State.KeepsBand.giveUp v p s).ctl

end Places

/-- The cause record of a start (R143). -/
def State.withCause (s : State) (v : VecIx) (src : Source) : State :=
  s.setPre { s.pre with causes := s.pre.causes.set v.val (some ⟨(s.pre.vectors.get v).maxHold, src⟩) v.isLt }

theorem State.activate_eq (s : State) (v : VecIx) (src : Source) :
    s.activate v src =
      ((((s.pre.vectors.get v).list.map (·.pos)).foldl (fun s p => s.claim v p) (s.withCause v src)).alert .preempt) := by
  rw [List.foldl_map]
  rfl

theorem State.activate_pre (s : State) (v : VecIx) (src : Source) : (s.activate v src).pre = (s.withCause v src).pre := by
  rw [State.activate_eq, State.alert_pre]
  exact foldl_keeps State.pre _ (fun s p => State.claim_pre s p v) _ _

/-- The start of a cause, position by position. -/
theorem State.holding_activate {v : VecIx} (src : Source) (hd : ((s.pre.vectors.get v).list.map (·.pos)).Nodup) (q : Pos) :
    (s.activate v src).holding q =
      if q ∈ (s.pre.vectors.get v).list.map (·.pos) then (s.holding q).claimed s.pre s.plan v q else s.holding q := by
  have folded := look_foldl (f := fun s p => s.claim v p) (env := fun s => (s.pre, s.plan)) (look := State.holding)
    (g := fun e p y => y.claimed e.1 e.2 v p) (fun s p => by rw [State.claim_pre, State.claim_plan])
    (fun s p q => s.holding_claim p q v) hd (s.withCause v src) q
  rw [State.activate_eq, State.holding_alert, folded]
  split
  · exact Holding.claimed_congr (x' := (s.withCause v src).pre) (x := s.pre) rfl s.plan v q (s.holding q)
  · rfl

theorem State.endCause_pre (v : VecIx) (reason : EndReason) :
    (s.endCause v reason).pre = { s.pre with
      causes := s.pre.causes.set v.val none v.isLt
      lastEnd := s.pre.lastEnd.set v.val (some reason) v.isLt } := by
  have given : ((allPos.foldl (fun s p => s.giveUp v p) s).leaveClaims v).pre = s.pre := by
    rw [State.leaveClaims, State.mapPosRec_pre]
    exact foldl_keeps State.pre _ (fun s p => State.giveUp_pre s p v) _ _
  unfold State.endCause
  rw [State.alert_pre, State.setPre_pre, given]

/-- The end of a cause, position by position. -/
theorem State.holding_endCause (v : VecIx) (reason : EndReason) (q : Pos) :
    (s.endCause v reason).holding q = (s.holding q).ended s.pre s.plan (!s.ctl.master.runs) v q := by
  have folded := look_foldl (f := fun s p => s.giveUp v p) (env := fun s => (s.pre, s.plan, s.ctl)) (look := State.holding)
    (g := fun e p y => y.givenUp e.1 e.2.1 (!e.2.2.master.runs) v p)
    (fun s p => by rw [State.giveUp_pre, State.giveUp_plan, State.giveUp_ctl])
    (fun s p q => s.holding_giveUp p q v) allPos_nodup s q
  rw [if_pos (mem_allPos q)] at folded
  have left (u : State) : (u.leaveClaims v).holding q = ((u.posRec q).unclaimed v, u.trunk.orders.get q) := by
    rw [State.holding, State.leaveClaims, State.posRec_mapPosRec, State.mapPosRec_trunk]
    rfl
  unfold State.endCause
  rw [State.holding_alert, State.holding_setPre, left]
  have record := congrArg Prod.fst folded
  have order := congrArg Prod.snd folded
  rw [State.holding_fst] at record
  rw [State.holding_snd] at order
  rw [record, order]
  rfl

/-! ### Owners and pending causes -/

/-- Owner and pending causes of a record are active, in rank order, each once (R142, R145, R148). -/
structure PosRec.RankedBy (x : Pre) (r : PosRec) : Prop where
  active : ∀ v, r.owner = some v ∨ v ∈ r.claims → (x.causes.get v).isSome = true
  above : ∀ v, r.owner = some v → ∀ w, w ∈ r.claims → x.RanksAbove v w
  owned : ∀ v, v ∈ r.claims → r.owner.isSome = true
  order : r.claims.Pairwise x.RanksAbove

/-- `r'` has the owner and the pending causes of `r`. -/
def PosRec.SameHolders (r r' : PosRec) : Prop := r'.owner = r.owner ∧ r'.claims = r.claims

theorem PosRec.SameHolders.of_standing {r r' : PosRec} (e : r'.standing = r.standing) : r.SameHolders r' := by
  obtain ⟨-, -, -, -, owner, claims⟩ := PosRec.standing_eq e
  exact ⟨owner, claims⟩

theorem PosRec.RankedBy.congr {x : Pre} {r r' : PosRec} (e : r.SameHolders r') (h : r.RankedBy x) : r'.RankedBy x := by
  obtain ⟨owner, claims⟩ := e
  obtain ⟨active, above, owned, order⟩ := h
  constructor
  · rw [owner, claims]; exact active
  · rw [owner, claims]; exact above
  · rw [owner, claims]; exact owned
  · rw [claims]; exact order

theorem PosRec.RankedBy.of_none {x : Pre} {r : PosRec} (ho : r.owner = none) (hc : r.claims = []) : r.RankedBy x := by
  constructor <;> simp [ho, hc]

/-- A record keeps its rank order as the causes change, when every cause named there stays active. -/
theorem PosRec.RankedBy.of_causes {x y : Pre} {r : PosRec} (hv : y.vectors = x.vectors)
    (hc : ∀ v, r.owner = some v ∨ v ∈ r.claims → (x.causes.get v).isSome = true → (y.causes.get v).isSome = true)
    (h : r.RankedBy x) : r.RankedBy y := by
  obtain ⟨active, above, owned, order⟩ := h
  rw [← Pre.ranksAbove_congr hv] at above order
  exact ⟨fun v hr => hc v hr (active v hr), above, owned, order⟩

/-- A start: the new cause `v` is active, and named nowhere yet. -/
theorem PosRec.RankedBy.claimed {x : Pre} {v : VecIx} {y : Holding} (h : Header) (p : Pos)
    (hv : (x.causes.get v).isSome = true) (hn : y.1.owner ≠ some v) (hy : y.1.RankedBy x) :
    (y.claimed x h v p).1.RankedBy x := by
  obtain ⟨active, above, owned, order⟩ := hy
  unfold Holding.claimed
  split
  · split
    · exact ⟨by rintro w (e | e) <;> cases e; exact hv, nofun, nofun, .nil⟩
    · next o ho =>
      have activeOwner := active o (.inl ho)
      split
      · next up =>
        have up := Pre.outranks_iff.mp up
        refine ⟨?_, ?_, fun _ _ => rfl, Pre.joinClaims_pairwise order⟩
        · rintro w (e | e)
          · cases e; exact hv
          · obtain rfl | e := Pre.mem_joinClaims.mp e
            · exact activeOwner
            · exact active w (.inr e)
        · rintro w ⟨⟩ u hu
          obtain rfl | hu := Pre.mem_joinClaims.mp hu
          · exact up
          · exact up.trans (above o ho u hu)
      · next up =>
        have down : x.RanksAbove o v :=
          Pre.ranksAbove_of_not (fun k => up (Pre.outranks_iff.mpr k)) fun e => hn (e ▸ ho)
        refine ⟨?_, ?_, fun _ _ => by rw [ho]; rfl, Pre.joinClaims_pairwise order⟩
        · rintro w (e | e)
          · exact active w (.inl e)
          · obtain rfl | e := Pre.mem_joinClaims.mp e
            · exact hv
            · exact active w (.inr e)
        · intro w hw u hu
          obtain rfl : o = w := Option.some.inj (ho.symm.trans hw)
          obtain rfl | hu := Pre.mem_joinClaims.mp hu
          · exact down
          · exact above o ho u hu
  · exact ⟨active, above, owned, order⟩

/-- After a position is given up its record is ranked, and `v` does not own it. -/
theorem PosRec.RankedBy.givenUp {x : Pre} {v : VecIx} {y : Holding} (h : Header) (off : Bool) (p : Pos) (hy : y.1.RankedBy x) :
    (y.givenUp x h off v p).1.RankedBy x ∧ (y.givenUp x h off v p).1.owner ≠ some v := by
  unfold Holding.givenUp
  split
  · next ho =>
    split
    · next hc =>
      have released := PosRec.standing_endSuspension h { y.1 with owner := none, mode := .coordinated } off
      have none : (PosRec.released h off { y.1 with owner := none }).owner = none := PosRec.owner_of_standing released
      obtain ⟨-, -, -, -, -, claims⟩ := PosRec.standing_eq released
      exact ⟨.of_none none (claims.trans hc), by show PosRec.owner (PosRec.released _ _ _) ≠ _; rw [none]; nofun⟩
    · next w rest hc =>
      obtain ⟨active, above, owned, order⟩ := hy
      rw [hc] at active above owned order
      obtain ⟨first, order⟩ := List.pairwise_cons.mp order
      refine ⟨⟨?_, ?_, fun _ _ => rfl, order⟩, ?_⟩
      · rintro u (e | e)
        · cases e; exact active w (.inr (List.mem_cons_self ..))
        · exact active u (.inr (List.mem_cons_of_mem _ e))
      · rintro u ⟨⟩; exact first
      · intro e
        cases e
        exact Pre.RanksAbove.irrefl (above v ho v (List.mem_cons_self ..))
  · next ho => exact ⟨hy, ho⟩

/-- The end of `v`: its record is ranked, and `v` is named there no more. -/
theorem PosRec.RankedBy.ended {x : Pre} {v : VecIx} {y : Holding} (h : Header) (off : Bool) (p : Pos) (hy : y.1.RankedBy x) :
    (y.ended x h off v p).1.RankedBy x ∧ (y.ended x h off v p).1.owner ≠ some v ∧ v ∉ (y.ended x h off v p).1.claims := by
  obtain ⟨⟨active, above, owned, order⟩, notOwner⟩ := hy.givenUp (v := v) h off p
  refine ⟨⟨?_, fun w hw u hu => above w hw u (List.mem_filter.mp hu).1, fun w hw => owned w (List.mem_filter.mp hw).1,
    order.filter _⟩, notOwner, fun hm => ?_⟩
  · rintro w (e | e)
    · exact active w (.inl e)
    · exact active w (.inr (List.mem_filter.mp e).1)
  · have := (List.mem_filter.mp hm).2
    simp at this

theorem SeekChange.sameHolders {T : Nat → Prop} {h : Header} {r r' : PosRec} (c : SeekChange T h r r') : r.SameHolders r' := by
  cases c with
  | answer m => exact .of_standing (by simp)
  | target hn => exact .of_standing (by rw [PosRec.standing_recorrect, PosRec.standing_reevaluate]; rfl)
  | report a rep off n => exact .of_standing (by simp)
  | failure n => exact .of_standing (by simp)
  | rises => exact .of_standing (by simp)
  | _ => exact ⟨rfl, rfl⟩

/-! ### The law of owners and pending causes -/

/-- Every record is ranked. -/
def State.Ranked (s : State) : Prop := ∀ p, (s.posRec p).RankedBy s.pre

/-- The vectors in use, stored or to be restored list each position once. -/
structure State.VectorsDistinct (s : State) : Prop where
  used : distinct s.pre.vectors
  stored : distinct s.store.vectors
  before : ∀ u, s.unfinished = some u → distinct u.before.vectors

theorem causeLaw_iff : CauseLaw s ↔ s.Ranked ∧ s.VectorsDistinct := by
  constructor
  · rintro ⟨owner, claims, order, used, stored, before⟩
    refine ⟨fun p => ⟨?_, fun v hv => (owner p v hv).2, fun v hv => (claims p v hv).2, order p⟩, used, stored, before⟩
    rintro v (h | h)
    · exact (owner p v h).1
    · exact (claims p v h).1
  · rintro ⟨ranked, used, stored, before⟩
    exact ⟨fun p v h => ⟨(ranked p).active v (.inl h), (ranked p).above v h⟩,
      fun p v h => ⟨(ranked p).active v (.inr h), (ranked p).owned v h⟩, fun p => (ranked p).order, used, stored, before⟩

namespace State.VectorsDistinct

theorem of_kept (h : t.kept = s.kept) (hs : s.VectorsDistinct) : t.VectorsDistinct := by
  obtain ⟨used, stored, before⟩ := hs
  refine ⟨?_, ?_, ?_⟩
  · rw [show t.pre.vectors = s.pre.vectors from congrArg Kept.vectors h]; exact used
  · rw [show t.store = s.store from congrArg Kept.store h]; exact stored
  · rw [show t.unfinished = s.unfinished from congrArg Kept.unfinished h]; exact before

theorem aside (h : s.Aside t) (hs : s.VectorsDistinct) : t.VectorsDistinct := by
  obtain ⟨used, stored, before⟩ := hs
  refine ⟨by rwa [h.vectors], by rwa [h.store], fun u hu => ?_⟩
  obtain e | e := h.unfinished
  · exact before u (e ▸ hu)
  · rw [e] at hu; cases hu

/-- A store write. -/
theorem written {p : Option PortId} (hu : distinct t.pre.vectors) (hs : s.VectorsDistinct)
    (ht : distinct t.store.vectors) (hn : t.unfinished = some ⟨s.store, p⟩) : t.VectorsDistinct :=
  ⟨hu, ht, fun u e => by rw [hn] at e; cases e; exact hs.stored⟩

theorem setVector (p : PortId) (v : VecIx) {c : VectorCfg} (hd : (c.list.map (·.pos)).Nodup) (hs : s.VectorsDistinct) :
    (s.setVector p v c).VectorsDistinct := by
  have one {vs : Vector VectorCfg 8} (h : distinct vs) : distinct (vs.set v.val c v.isLt) := by
    intro w
    rw [get_set]
    split
    · exact hd
    · exact h w
  unfold State.setVector
  dsimp only
  split
  · exact ⟨one hs.used, hs.stored, hs.before⟩
  · exact written (p := some p) (one hs.used) hs (one hs.stored) rfl

theorem activatePending (hs : s.VectorsDistinct) : s.activatePending.VectorsDistinct := by
  unfold State.activatePending
  split
  · exact hs
  · exact written (p := none) hs.used hs hs.stored rfl

theorem turnCycle (hs : s.VectorsDistinct) : s.turnCycle.VectorsDistinct := by
  obtain ⟨k, l, e⟩ := s.turnCycle_eq
  have ready : (s.setClock k).VectorsDistinct := ⟨hs.used, hs.stored, hs.before⟩
  obtain ⟨used, stored, before⟩ := ready.activatePending
  rw [e]
  exact ⟨used, stored, before⟩

theorem setting (h : Setting s t) (hs : s.VectorsDistinct) : t.VectorsDistinct := by
  have write {u : State} (p : PortId) (hu : u.pre.vectors = s.pre.vectors) (ht : u.store.vectors = s.store.vectors)
      (hn : u.unfinished = some ⟨s.store, some p⟩) : u.VectorsDistinct :=
    written (by rw [hu]; exact hs.used) hs (by rw [ht]; exact hs.stored) hn
  have keep {u : State} (hu : u.pre.vectors = s.pre.vectors) (ht : u.store = s.store) (hn : u.unfinished = s.unfinished) :
      u.VectorsDistinct := ⟨by rw [hu]; exact hs.used, by rw [ht]; exact hs.stored, by rw [hn]; exact hs.before⟩
  cases h with
  | turnCycle h => exact hs.turnCycle
  | advance h => exact keep rfl rfl rfl
  | timebase h => exact keep rfl rfl rfl
  | applyTimebase _ p x =>
    unfold State.applyTimebase
    split
    iterate 3 exact write p rfl rfl rfl
    iterate 3 exact hs
  | setInterval _ p n => exact write p rfl rfl rfl
  | setPolicy _ p x => exact write p rfl rfl rfl
  | setEnables _ p e =>
    unfold State.setEnables
    split
    · exact hs
    · exact write p rfl rfl rfl
  | setLength _ p l n => exact write p rfl rfl rfl
  | setVector _ p v c _ hd => exact hs.setVector p v hd
  | reconfigureLine _ p t k c =>
    unfold State.reconfigureLine
    dsimp only
    split
    · exact keep rfl rfl rfl
    · exact write p rfl rfl rfl
  | openSlot _ p i h base _ _ _ _ _ =>
    unfold State.openSlot
    dsimp only
    split
    · exact write p rfl rfl rfl
    · exact keep rfl rfl rfl
  | writeEntry i h q es es' hb => exact keep rfl rfl rfl
  | dropSlot _ p i _ _ =>
    unfold State.dropSlot
    split
    · exact hs
    · exact keep rfl rfl rfl
    · exact write p rfl rfl rfl
  | setLocked _ p i b _ => exact write p rfl rfl rfl
  | select i _ _ => exact keep rfl rfl rfl

theorem putEnrolment (port : Option PortId) (p : Pos) (e : Enrolment) (hs : s.VectorsDistinct) :
    (s.putEnrolment port p e).VectorsDistinct :=
  written (p := port) hs.used hs hs.stored rfl

theorem enrolmentEvent (p : Pos) (c : EnrolmentChange) (hs : s.VectorsDistinct) : (s.enrolmentEvent p c).VectorsDistinct :=
  hs.of_kept (State.kept_enrolmentEvent p c s)

theorem bumpMembership (hs : s.VectorsDistinct) : s.bumpMembership.VectorsDistinct := ⟨hs.used, hs.stored, hs.before⟩

theorem membership (h : Membership s t) (hs : s.VectorsDistinct) : t.VectorsDistinct := by
  cases h with
  | enrolls port p d _ _ _ => exact ((hs.putEnrolment _ _ _).bumpMembership).enrolmentEvent _ _
  | excludes port p d _ _ _ => exact ((hs.putEnrolment _ _ _).bumpMembership).enrolmentEvent _ _
  | vacates port p _ _ => exact ((hs.putEnrolment _ _ _).bumpMembership).enrolmentEvent _ _
  | takesOver port p d _ => exact hs.putEnrolment _ _ _
  | vacateExcluded port p _ => exact (hs.putEnrolment _ _ _).enrolmentEvent _ _

theorem loses (p : Pos) (d : Nat) (hs : s.VectorsDistinct) : (s.loses p d).VectorsDistinct :=
  ((hs.putEnrolment _ _ _).bumpMembership).enrolmentEvent _ _

end State.VectorsDistinct

theorem Change.vectorsDistinct (T : Nat → Prop) (s t : State) (c : Change T s t) (hs : s.VectorsDistinct) :
    t.VectorsDistinct := by
  obtain h | h | h | ⟨-, h⟩ := c.quiet
  · exact hs.aside h
  · exact hs.of_kept h
  · exact hs.setting h
  · exact hs.membership h

namespace State.Ranked

theorem of_records (hs : s.Ranked) (hp : ∀ p, (s.posRec p).SameHolders (t.posRec p))
    (hc : t.pre.causes = s.pre.causes) (hv : t.pre.vectors = s.pre.vectors) : t.Ranked := fun p =>
  ((hs p).congr (hp p)).of_causes hv fun v _ h => by rwa [hc]

theorem of_pos (hs : s.Ranked) (hp : t.pos = s.pos) (hc : t.pre.causes = s.pre.causes) (hv : t.pre.vectors = s.pre.vectors) :
    t.Ranked := hs.of_records (fun p => by rw [State.posRec_of_pos hp]; exact ⟨rfl, rfl⟩) hc hv

theorem activate {v : VecIx} (src : Source) (hd : distinct s.pre.vectors) (hv : s.causeActive v = false) (hs : s.Ranked) :
    (s.activate v src).Ranked := by
  intro p
  have holding := State.holding_activate src (hd v) p
  rw [State.activate_pre]
  have started : (s.posRec p).RankedBy (s.withCause v src).pre := PosRec.RankedBy.of_causes (x := s.pre) rfl (h := hs p) fun w _ hw => by
    show ((s.pre.causes.set v.val _ v.isLt).get w).isSome = true
    rw [get_set]
    split
    · rfl
    · exact hw
  have free : (s.posRec p).owner ≠ some v := fun e => by
    have := (hs p).active v (.inl e)
    rw [State.causeActive] at hv
    exact absurd (this.symm.trans hv) (by decide)
  have record := congrArg Prod.fst holding
  show ((s.activate v src).posRec p).RankedBy _
  rw [show (s.activate v src).posRec p = _ from record]
  split
  · rw [← Holding.claimed_congr (x := s.pre) (x' := (s.withCause v src).pre) rfl]
    refine PosRec.RankedBy.claimed (y := s.holding p) s.plan p ?_ free started
    show ((s.pre.causes.set v.val _ v.isLt).get v).isSome = true
    rw [get_set, if_pos rfl]
    rfl
  · exact started

theorem endCause (v : VecIx) (reason : EndReason) (hs : s.Ranked) : (s.endCause v reason).Ranked := by
  intro p
  have record := congrArg Prod.fst (State.holding_endCause (s := s) v reason p)
  obtain ⟨ranked, notOwner, notClaim⟩ := PosRec.RankedBy.ended (v := v) (y := s.holding p) s.plan (!s.ctl.master.runs) p (hs p)
  show ((s.endCause v reason).posRec p).RankedBy _
  rw [State.endCause_pre, show (s.endCause v reason).posRec p = _ from record]
  refine PosRec.RankedBy.of_causes (x := s.pre) rfl (h := ranked) fun w hw active => ?_
  show ((s.pre.causes.set v.val none v.isLt).get w).isSome = true
  rw [get_set]
  split
  · next e =>
    subst e
    obtain hw | hw := hw
    · exact absurd hw notOwner
    · exact absurd hw notClaim
  · exact active

theorem setVector (p : PortId) {v : VecIx} (c : VectorCfg) (hv : s.causeActive v = false) (hs : s.Ranked) :
    (s.setVector p v c).Ranked := by
  intro q
  obtain ⟨active, above, owned, order⟩ := hs q
  have other {w : VecIx} (hw : (s.pre.causes.get w).isSome = true) : v ≠ w := fun e => by
    subst e
    rw [State.causeActive] at hv
    exact absurd (hw.symm.trans hv) (by decide)
  have same {a b : VecIx} (ha : v ≠ a) (hb : v ≠ b) (h : s.pre.RanksAbove a b) : (s.setVector p v c).pre.RanksAbove a b := by
    have get {w : VecIx} (hw : v ≠ w) : (s.setVector p v c).pre.vectors.get w = s.pre.vectors.get w := by
      rw [State.setVector_pre]
      show (s.pre.vectors.set v.val c v.isLt).get w = _
      rw [get_set, if_neg hw]
    rw [← Pre.outranks_iff, Pre.outranks] at h ⊢
    rw [get ha, get hb]
    exact h
  have pos : (s.setVector p v c).pos = s.pos := by unfold State.setVector; dsimp only; split <;> rfl
  rw [State.posRec_of_pos pos]
  refine ⟨fun w hw => ?_, fun w hw u hu => ?_, owned, order.imp_of_mem fun ha hb h => ?_⟩
  · rw [State.setVector_pre]
    exact active w hw
  · exact same (other (active w (.inl hw))) (other (active u (.inr hu))) (above w hw u hu)
  · exact same (other (active _ (.inr ha))) (other (active _ (.inr hb))) h

theorem dropped {p : Pos} {r : PosRec} (hs : s.Ranked) (hr : t.pre = s.pre)
    (h : ∀ q, t.posRec q = if p = q then r else s.posRec q) (ho : r.owner = none) (hc : r.claims = []) : t.Ranked := fun q => by
  rw [h q, hr]
  split
  · exact .of_none ho hc
  · exact hs q

end State.Ranked

theorem Change.ranked (T : Nat → Prop) (s t : State) (c : Change T s t) (hd : s.VectorsDistinct) (hs : s.Ranked) : t.Ranked := by
  have membership (h : Membership s t) : t.Ranked := by
    have still := State.Still.membership h
    refine fun q => ((?_ : (t.posRec q).RankedBy s.pre)).of_causes still.vectors fun v _ hv => by rwa [still.causes]
    have one {p : Pos} {r : PosRec} (h : ∀ q, t.posRec q = if p = q then r else s.posRec q)
        (ho : r.owner = (s.posRec p).owner) (hc : r.claims = (s.posRec p).claims) : (t.posRec q).RankedBy s.pre := by
      rw [h q]
      split
      · obtain ⟨active, above, owned, order⟩ := hs p
        exact ⟨by rwa [ho, hc], by rwa [ho, hc], by rwa [ho, hc], by rwa [hc]⟩
      · exact hs q
    cases h with
    | enrolls port p d _ _ _ => exact one (fun q => State.posRec_enrolls port p q d) rfl rfl
    | excludes port p d _ _ _ => exact one (fun q => State.posRec_leaves_excludes port p q _) rfl rfl
    | vacates port p _ _ => exact one (fun q => State.posRec_leaves_vacates port p q) rfl rfl
    | takesOver port p d _ => exact one (fun q => State.posRec_putEnrolment s p q (some port) _) rfl rfl
    | vacateExcluded port p _ => exact one (fun q => State.posRec_vacateExcluded port p q) rfl rfl
  cases c with
  | aside h => exact hs.of_pos h.pos h.causes h.vectors
  | record p h =>
    refine hs.of_records (fun q => ?_) rfl rfl
    rw [State.posRec_setPosRec]
    split
    · next e => exact e ▸ h.sameHolders
    · exact ⟨rfl, rfl⟩
  | seekRollover =>
    have still := State.Still.mapPosRec (fun r => ({ r with spent := false } : PosRec).recorrect s.plan) s
    refine hs.of_records (fun q => ?_) still.causes still.vectors
    rw [State.seekRollover, State.posRec_mapPosRec]
    exact ⟨rfl, rfl⟩
  | activate v src hv => exact hs.activate src hd.used hv
  | endCause v reason => exact hs.endCause v reason
  | countDown =>
    refine fun p => PosRec.RankedBy.of_causes (x := s.pre) rfl (h := hs p) fun v _ hv => ?_
    show ((Vector.ofFn fun v => (s.pre.causes.get v).map Cause.countDown).get v).isSome = true
    rw [get_ofFn, Option.isSome_map]
    exact hv
  | setting h =>
    obtain still | ⟨p, v, c, hv, -, rfl⟩ := h.still
    · exact hs.of_pos h.pos still.causes still.vectors
    · exact hs.setVector p c hv
  | membership _ h => exact membership h
  | _ => exact hs

theorem Change.causeLaw (T : Nat → Prop) (s t : State) (c : Change T s t) (hs : CauseLaw s) : CauseLaw t := by
  obtain ⟨ranked, vectors⟩ := causeLaw_iff.mp hs
  exact causeLaw_iff.mpr ⟨c.ranked T s t vectors ranked, c.vectorsDistinct T s t vectors⟩

theorem distinct_factory : distinct Store.factory.vectors := fun v => by
  simp [Store.factory, emptyVector]

theorem causeLaw_running : RunningLaw CauseLaw where
  change := Change.causeLaw
  loss s p d _ hs := by
    obtain ⟨ranked, vectors⟩ := causeLaw_iff.mp hs
    have still := State.Still.loses p d s
    refine (Changes.reportCount (T := NoTarget) _).keep Change.causeLaw (causeLaw_iff.mpr ⟨fun q => ?_, vectors.loses p d⟩)
    refine PosRec.RankedBy.of_causes (x := s.pre) still.vectors (h := ?_) fun v _ hv => by rwa [still.causes]
    rw [State.posRec_loses]
    split
    · obtain ⟨-, -, -, -, owner, claims⟩ := PosRec.standing_eq (PosRec.standing_disowned s.plan _)
      exact .of_none owner claims
    · exact ranked q
  turnCycle s _ hs := by
    obtain ⟨ranked, vectors⟩ := causeLaw_iff.mp hs
    exact causeLaw_iff.mpr
      ⟨ranked.of_pos (State.turnCycle_pos s) s.turnCycle_still.causes s.turnCycle_still.vectors, vectors.turnCycle⟩
  seekActivation s hs := by
    obtain ⟨ranked, vectors⟩ := causeLaw_iff.mp hs
    refine causeLaw_iff.mpr ⟨ranked.of_records (fun q => ?_) s.seekActivation_still.causes s.seekActivation_still.vectors,
      vectors.of_kept (State.kept_seekActivation s)⟩
    rw [State.seekActivation, State.posRec_mapPosRec]
    exact ⟨rfl, rfl⟩
  closeSlot s p q i h es _ hs := by
    obtain ⟨ranked, vectors⟩ := causeLaw_iff.mp hs
    exact causeLaw_iff.mpr ⟨ranked, .written (p := some p) vectors.used vectors vectors.stored rfl⟩
  restart s hs := by
    obtain ⟨-, vectors⟩ := causeLaw_iff.mp hs
    refine causeLaw_iff.mpr ⟨fun p => ?_, ?_, ?_, fun u e => ?_⟩
    · rw [State.restart_posRec]; exact .of_none rfl rfl
    · rw [State.restart_pre]; exact vectors.stored
    · rw [State.restart_store]; exact vectors.stored
    · rw [State.restart_unfinished] at e; cases e
  eraseStore s p hs := by
    obtain ⟨ranked, vectors⟩ := causeLaw_iff.mp hs
    exact causeLaw_iff.mpr ⟨ranked, .written (p := some p) vectors.used vectors distinct_factory rfl⟩
  losePower s torn hs := by
    obtain ⟨ranked, vectors⟩ := causeLaw_iff.mp hs
    refine causeLaw_iff.mpr ⟨ranked, vectors.used, ?_, nofun⟩
    show distinct (s.keepStore torn).vectors
    unfold State.keepStore
    split
    · next u e =>
      split
      · exact vectors.before u e
      · exact vectors.stored
    · exact vectors.stored

/-- Settles O52: a start puts its cause into each record at its place by rank, and an end takes it out of every record. -/
theorem stepKeepsCauseLaw : Obligations.StepKeepsCauseLaw := fun _ _ h hs => causeLaw_running.step (fun _ _ hs => hs) h hs

end Sys2Proof.Machine
end

section
/-! What the Fault and Alert Unit takes between two states (R171, R173, R174), and how a ruling becomes the reply of a request: the rules
that the statements about single commands are assembled from. -/

namespace Sys2Proof.Machine

variable {s t u : State}

/-! ### Alert classes -/

theorem AlertClass.ix_inj : Function.Injective AlertClass.ix := by
  intro c d
  cases c <;> cases d <;> simp [AlertClass.ix]

theorem AlertClass.exists_ix (i : Fin 9) : ∃ c : AlertClass, c.ix = i := by
  have all : ∀ i : Fin 9, ∃ c, c ∈ AlertClass.all ∧ c.ix = i := by decide
  obtain ⟨c, -, h⟩ := all i
  exact ⟨c, h⟩

theorem FaultUnit.alert_pending_iff (f : FaultUnit) (e c : AlertClass) :
    (f.alert e).pending.get c.ix = true ↔ f.pending.get c.ix = true ∨ c = e := by
  show (f.pending.set e.ix.val true e.ix.isLt).get c.ix = true ↔ _
  rw [get_set]
  split
  · next h => simp [AlertClass.ix_inj h]
  · next h =>
    have : c ≠ e := fun k => h (by rw [k])
    simp [this]

theorem FaultUnit.alert_waiting_iff (f : FaultUnit) (e : AlertClass) :
    (f.alert e).waiting = true ↔ f.waiting = true ∨ f.pending.get e.ix = false ∧ f.enabled.get e.ix = true := by
  simp [FaultUnit.alert]

/-! ### Faults -/

section Take

variable (f : FaultUnit) (i : FaultInfo) (n : Half) (p : Nat)

/-- The record and the next-fault set that a fault leaves; the rest of taking it is the alert event of FAULT. -/
def FaultUnit.recorded : FaultUnit :=
  match f.first with
  | none => { f with first := some ⟨i, n, p⟩ }
  | some _ => { f with next := if i.kind ∈ f.next then f.next else f.next ++ [i.kind] }

theorem FaultUnit.take_eq : f.take i n p = (f.recorded i n p).alert .fault := by
  unfold FaultUnit.take FaultUnit.recorded
  cases f.first <;> rfl

theorem FaultUnit.recorded_alerts : (f.recorded i n p).pending = f.pending ∧ (f.recorded i n p).waiting = f.waiting ∧
    (f.recorded i n p).enabled = f.enabled ∧ (f.recorded i n p).seq = f.seq ∧ (f.recorded i n p).out = f.out := by
  unfold FaultUnit.recorded
  split <;> exact ⟨rfl, rfl, rfl, rfl, rfl⟩

theorem FaultUnit.recorded_of_none (h : f.first = none) :
    (f.recorded i n p).first = some ⟨i, n, p⟩ ∧ (f.recorded i n p).next = f.next := by
  unfold FaultUnit.recorded
  rw [h]
  exact ⟨rfl, rfl⟩

theorem FaultUnit.recorded_of_some (h : f.first ≠ none) :
    (f.recorded i n p).first = f.first ∧
      (f.recorded i n p).next = if i.kind ∈ f.next then f.next else f.next ++ [i.kind] := by
  unfold FaultUnit.recorded
  split
  · next e => exact absurd e h
  · exact ⟨rfl, rfl⟩

end Take

/-- Settles O26. -/
theorem faultIsTaken : Obligations.FaultIsTaken := by
  refine ⟨fun s e => ⟨rfl, rfl, fun c => FaultUnit.alert_pending_iff s.faults e c, FaultUnit.alert_waiting_iff s.faults e⟩,
    fun s i => ?_⟩
  have taken : (s.fault i).faults = (s.faults.recorded i s.clock.cycleNo s.clock.cyclePos).alert .fault :=
    FaultUnit.take_eq ..
  obtain ⟨pending, waiting, enabled, seq, out⟩ := s.faults.recorded_alerts i s.clock.cycleNo s.clock.cyclePos
  refine ⟨rfl, by rw [taken]; exact enabled, by rw [taken]; exact seq, by rw [taken]; exact out, ?_, fun c hc => ?_,
    fun h => ?_, fun h => ?_, ?_⟩
  · rw [taken, FaultUnit.alert_pending_iff]
    exact .inr rfl
  · rw [taken]
    show (_ : Vector Bool 9).get _ = _
    rw [Bool.eq_iff_iff, FaultUnit.alert_pending_iff, pending]
    simp [hc]
  · rw [taken]
    exact s.faults.recorded_of_none i _ _ h
  · obtain ⟨first, next⟩ := s.faults.recorded_of_some i s.clock.cycleNo s.clock.cyclePos h
    rw [taken]
    show FaultUnit.first (FaultUnit.recorded ..) = _ ∧ (∀ k, k ∈ FaultUnit.next (FaultUnit.recorded ..) ↔ _) ∧
      (_ → (FaultUnit.next (FaultUnit.recorded ..)).Nodup)
    rw [first, next]
    refine ⟨rfl, fun k => ?_, fun hn => ?_⟩
    · split
      · next hm => exact ⟨.inl, fun h => h.elim id fun e => e ▸ hm⟩
      · simp
    · split
      · exact hn
      · next hm => exact List.nodup_append.mpr ⟨hn, by simp, by simpa using fun a ha (e : a = i.kind) => hm (e ▸ ha)⟩
  · rw [taken, FaultUnit.alert_waiting_iff, waiting, pending, enabled]

/-! ### Faults and alert events in sequence -/

namespace Raises

variable {fs gs : List FaultInfo} {P Q : AlertClass → Prop}

theorem of_faults_eq (h : t.faults = s.faults) : Raises [] (fun _ => False) s t where
  first := by rw [h]; cases s.faults.first <;> rfl
  next k := by rw [h]; simp
  pending c := by rw [h]; simp
  waiting := by
    rw [h]
    refine ⟨.inl, fun hw => hw.elim id ?_⟩
    rintro ⟨c, off, on, -⟩
    rw [off] at on
    cases on
  kept := by rw [h]; exact ⟨rfl, rfl, rfl⟩

theorem refl (s : State) : Raises [] (fun _ => False) s s := of_faults_eq rfl

theorem iff (h : Raises fs P s t) (hPQ : ∀ c, P c ↔ Q c) : Raises fs Q s t := by
  have : P = Q := funext fun c => propext (hPQ c)
  exact this ▸ h

/-- Only the Fault and Alert Unit and the clock are read. -/
theorem congr {s' t' : State} (h : Raises fs P s t) (hs : s'.faults = s.faults) (hc : s'.clock = s.clock)
    (ht : t'.faults = t.faults) : Raises fs P s' t' := by
  obtain ⟨first, next, pending, waiting, kept⟩ := h
  constructor <;> simp only [hs, hc, ht] <;> assumption

theorem of_alert (e : AlertClass) (hf : t.faults = s.faults.alert e) : Raises [] (· = e) s t where
  first := by rw [hf]; show s.faults.first = _; cases s.faults.first <;> rfl
  next k := by rw [hf]; show k ∈ s.faults.next ↔ _; simp
  pending c := by rw [hf, FaultUnit.alert_pending_iff]; simp
  waiting := by
    rw [hf, FaultUnit.alert_waiting_iff]
    refine or_congr_right ⟨fun ⟨off, on⟩ => ⟨e, off, ?_, on⟩, ?_⟩
    · exact (FaultUnit.alert_pending_iff ..).mpr (.inr rfl)
    · rintro ⟨c, off, on, en⟩
      obtain on | rfl := (FaultUnit.alert_pending_iff ..).mp on
      · rw [off] at on; cases on
      · exact ⟨off, en⟩
  kept := by rw [hf]; exact ⟨rfl, rfl, rfl⟩

theorem alert (e : AlertClass) (s : State) : Raises [] (· = e) s (s.alert e) := of_alert e rfl

theorem fault (i : FaultInfo) (s : State) : Raises [i] (fun _ => False) s (s.fault i) := by
  have taken : (s.fault i).faults = (s.faults.recorded i s.clock.cycleNo s.clock.cyclePos).alert .fault :=
    FaultUnit.take_eq ..
  obtain ⟨pending, waiting, enabled, seq, out⟩ := s.faults.recorded_alerts i s.clock.cycleNo s.clock.cyclePos
  have alerted := of_alert (s := s.setFaults (s.faults.recorded i s.clock.cycleNo s.clock.cyclePos)) (t := s.fault i) .fault taken
  refine ⟨?_, fun k => ?_, fun c => ?_, ?_, ?_⟩
  · rw [taken]
    show FaultUnit.first (FaultUnit.recorded ..) = _
    cases h : s.faults.first with
    | none => exact (s.faults.recorded_of_none i _ _ h).1
    | some r => exact (s.faults.recorded_of_some i _ _ (by rw [h]; nofun)).1.trans h
  · rw [taken]
    show k ∈ FaultUnit.next (FaultUnit.recorded ..) ↔ _
    by_cases h : s.faults.first = none
    · rw [(s.faults.recorded_of_none i _ _ h).2, if_pos h]
      simp
    · rw [(s.faults.recorded_of_some i _ _ h).2, if_neg h]
      split
      · next hm => simpa using fun e => e ▸ hm
      · simp [eq_comm]
  · rw [alerted.pending c]
    show (s.faults.recorded ..).pending.get c.ix = true ∨ _ ↔ _
    rw [pending]
    simp
  · rw [alerted.waiting]
    show (s.faults.recorded ..).waiting = true ∨ (∃ c : AlertClass, (s.faults.recorded ..).pending.get c.ix = false ∧ _ ∧
      (s.faults.recorded ..).enabled.get c.ix = true) ↔ _
    rw [waiting, pending, enabled]
  · rw [taken]
    exact ⟨enabled, seq, out⟩

/-- First one run of faults and alert events, then another, under one reading of the clock. -/
theorem trans (h : Raises fs P s t) (k : Raises gs Q t u) (hc : t.clock = s.clock) :
    Raises (fs ++ gs) (fun c => P c ∨ Q c) s u where
  first := by
    rw [k.first, h.first, hc]
    cases s.faults.first with
    | some r => rfl
    | none => cases fs <;> rfl
  next x := by
    rw [k.next, h.next, h.first, or_assoc]
    refine or_congr_right ?_
    by_cases none : s.faults.first = none
    · cases fs with
      | nil => simp [none]
      | cons f fs => simp [none, or_and_right, exists_or]
    · obtain ⟨r, hr⟩ := Option.ne_none_iff_exists'.mp none
      simp [hr, or_and_right, exists_or]
  pending c := by
    rw [k.pending, h.pending]
    have both : fs ++ gs ≠ [] ↔ fs ≠ [] ∨ gs ≠ [] := by rw [ne_eq, List.append_eq_nil_iff, not_and_or]
    rw [both]
    tauto
  waiting := by
    rw [k.waiting, h.waiting, or_assoc]
    refine or_congr_right ?_
    have enabled := h.kept.1
    constructor
    · rintro (⟨c, off, on, en⟩ | ⟨c, off, on, en⟩)
      · exact ⟨c, off, (k.pending c).mpr (.inl on), en⟩
      · refine ⟨c, ?_, on, enabled ▸ en⟩
        cases e : s.faults.pending.get c.ix with
        | false => rfl
        | true => exact absurd (off.symm.trans ((h.pending c).mpr (.inl e))) (by decide)
    · rintro ⟨c, off, on, en⟩
      cases e : t.faults.pending.get c.ix with
      | true => exact .inl ⟨c, off, e, en⟩
      | false => exact .inr ⟨c, e, on, enabled.symm ▸ en⟩
  kept := ⟨k.kept.1.trans h.kept.1, k.kept.2.1.trans h.kept.2.1, k.kept.2.2.trans h.kept.2.2⟩

/-- A run of faults. -/
theorem faults (l : List FaultInfo) (s : State) : Raises l (fun _ => False) s (l.foldl (fun s i => s.fault i) s) := by
  induction l generalizing s with
  | nil => exact refl s
  | cons i l ih => exact ((fault i s).trans (ih _) rfl).iff fun c => by simp

end Raises

/-! ### A ruling becomes a reply -/

section Reply

variable {α : Type} {fieldMay : Bool} {parse : List Byte → Option α} {own : α → State → Ruling} {body : List Byte} {a : α}
variable {p : PortId} {q : Port} {kind tag : Byte}

theorem State.replying_of_setPort (u : State) (f : Frame) (cls : SenderClass) (c : ReplyCode) (result : List Byte) :
    (u.setPort p q).replying p ((u.setPort p q).port p) f cls c result = u.replying p q f cls c result := by
  rw [State.port_setPort, State.replying_setPort]

/-- A request that its block rules on; the block leaves the state `u`, with the port as it is once the frame is taken. -/
theorem request_answered {u : State} {c : ReplyCode} {result : List Byte} (ht : s.CanTake p ⟨kind, tag, body⟩ q)
    (hs : s.senderClass p = .supervisory ∨ fieldMay = true) (hb : parse body = some a) (hk : kind.toNat < 128)
    (ho : own a (s.setPort p q) = ⟨u.setPort p q, ⟨c, result⟩⟩) :
    powered (State.request p kind fieldMay parse own tag body) s =
      .next (u.replying p q ⟨kind, tag, body⟩ (s.senderClass p) c result) := by
  obtain ⟨hp, htake⟩ := ht
  rw [request_run hp htake hb hs, ho, State.putReply_eq_replying _ _ _ _ _ _ hk, State.replying_of_setPort]

/-- The same from a SUPERVISORY sender. -/
theorem request_supervised {u : State} {c : ReplyCode} {result : List Byte} (ht : s.CanTake p ⟨kind, tag, body⟩ q)
    (hs : s.senderClass p = .supervisory) (hb : parse body = some a) (hk : kind.toNat < 128)
    (ho : own a (s.setPort p q) = ⟨u.setPort p q, ⟨c, result⟩⟩) :
    powered (State.request p kind fieldMay parse own tag body) s =
      .next (u.replying p q ⟨kind, tag, body⟩ .supervisory c result) := by
  rw [← hs]
  exact request_answered ht (.inl hs) hb hk ho

/-- A request whose body does not fit its kind (R180). -/
theorem request_answered_badFormat (ht : s.CanTake p ⟨kind, tag, body⟩ q) (hb : parse body = none) (hk : kind.toNat < 128) :
    powered (State.request p kind fieldMay parse own tag body) s =
      .next (s.replying p q ⟨kind, tag, body⟩ (s.senderClass p) .badFormat []) := by
  obtain ⟨hp, htake⟩ := ht
  rw [request_misfits hp htake hb, State.putReply_eq_replying _ _ _ _ _ _ hk, State.replying_of_setPort]

/-- A FIELD sender's request that needs SUPERVISORY class (R180). -/
theorem request_answered_class (ht : s.CanTake p ⟨kind, tag, body⟩ q) (hs : s.senderClass p = .field) (hb : parse body = some a)
    (hk : kind.toNat < 128) :
    powered (State.request p kind false parse own tag body) s =
      .next (s.replying p q ⟨kind, tag, body⟩ (s.senderClass p) .senderClass []) := by
  obtain ⟨hp, htake⟩ := ht
  rw [request_forbidden hp htake hb hs, State.putReply_eq_replying _ _ _ _ _ _ hk, State.replying_of_setPort, hs]

theorem SenderClass.supervisory_of_ne {c : SenderClass} (h : c ≠ .field) : c = .supervisory := by
  cases c with
  | field => exact absurd rfl h
  | supervisory => rfl

/-- A state whose port `p` holds `q` is one with `q` put there. -/
theorem State.setPort_of_port (h : t.port p = q) : t.setPort p q = t := by rw [← h, State.setPort_port]

theorem State.port_of_kept (h : t.kept = s.kept) (r : PortId) : t.port r = s.port r := by
  cases r with
  | centre => exact congrArg Kept.centre h
  | field => exact congrArg Kept.field h

end Reply

end Sys2Proof.Machine
end

section
/-! The checks before the owning block (R179, R180), and the requests that replace one setting: CHAIN-LINK (R4), POLICY, BEACON-SET and
TIMEBASE (R166, R51, R43), FAULT-CLEAR, ALERT-ENABLE and ALERT-CLEAR (R172, R175). -/

namespace Sys2Proof.Machine

variable {s : State} {p : PortId} {q : Port}

/-- Settles O3: every command but POWER_ON and an input change runs under `powered`. -/
theorem unpoweredPartIsInert : Obligations.UnpoweredPartIsInert := by
  intro c s off hc hl
  cases c with
  | powerOn => exact absurd rfl hc
  | lineInputChange l h t => exact absurd rfl (hl l h t)
  | unknownKind p kind tag b => show execUnknownKind p kind tag b s = _; unfold execUnknownKind; exact powered_off _ off
  | causeExpiry v => show execCauseExpiry v s = _; unfold execCauseExpiry; exact powered_off _ off
  | beacon => show execBeacon s = _; unfold execBeacon; exact powered_off _ off
  | stepFrame => show execStepFrame s = _; unfold execStepFrame; exact powered_off _ off
  | probeFrame => show execProbeFrame s = _; unfold execProbeFrame; exact powered_off _ off
  | trunkBadFrame f => show execTrunkBadFrame f s = _; unfold execTrunkBadFrame; exact powered_off _ off
  | _ => exact powered_off _ off

/-! ### Reads that a port leaves alone -/

section Reads

variable (s : State) (p : PortId) (q : Port)

@[simp] theorem State.linkRec_setPort (l : LinkIx) : (s.setPort p q).linkRec l = s.linkRec l := by cases p <;> rfl
@[simp] theorem State.plan_setPort : (s.setPort p q).plan = s.plan := by cases p <;> rfl
@[simp] theorem State.causeActive_setPort (v : VecIx) : (s.setPort p q).causeActive v = s.causeActive v := by cases p <;> rfl
@[simp] theorem State.enrolledList_setPort : (s.setPort p q).enrolledList = s.enrolledList := by cases p <;> rfl

end Reads

/-! ### CHAIN-LINK -/

theorem lengthOk_eq_false {n : Nat} : lengthOk n = false ↔ ¬(n = 0 ∨ 30 ≤ n ∧ n ≤ 3000) := by
  simp [lengthOk]

theorem Master.atRest_eq_false {m : Master} : m.atRest = false ↔ m ≠ .idle ∧ m ≠ .fallback := by
  cases m <;> simp [Master.atRest]

/-- Settles O5: the checks of R4 in their order, and the length written through. -/
theorem chainLinkRule : Obligations.ChainLinkRule := by
  intro s p tag l hi lo q ht n answer
  by_cases hc : s.senderClass p = .field
  · rw [if_pos hc]
    exact request_answered_class ht hc rfl (by decide)
  rw [if_neg hc]
  have ruled {u : State} {c : ReplyCode} (h : (s.setPort p q).ruleChainLink p (l.toNat, n) = ⟨u.setPort p q, ⟨c, []⟩⟩) :
      exec (.chainLink p tag [l, hi, lo]) s = .next (answer u c) :=
    request_answered (own := State.ruleChainLink p) ht (.inl (SenderClass.supervisory_of_ne hc)) rfl (by decide) h
  by_cases h : 1 ≤ l.toNat ∧ l.toNat ≤ 23
  · rw [dif_pos h]
    extract_lets k
    have named : linkOf l.toNat = some k := linkOf_named (by show l.toNat = l.toNat - 1 + 1; omega)
    have rule : (s.setPort p q).ruleChainLink p (l.toNat, n) =
        if lengthOk n = false then (s.setPort p q).refuse .badValue
        else if s.ctl.master.atRest = false then (s.setPort p q).refuse .state
        else if (s.linkRec k).length = n then (s.setPort p q).grant []
        else ((s.setPort p q).setLength p k n).grant [] := by
      rw [State.ruleChainLink, named]
      simp only [State.setPort_ctl, State.linkRec_setPort]
    simp only [lengthOk_eq_false, Master.atRest_eq_false] at rule
    split
    · next c1 => exact ruled (by rw [rule, if_pos c1]; rfl)
    · next c1 =>
      rw [if_neg c1] at rule
      split
      · next c2 => exact ruled (by rw [rule, if_pos c2]; rfl)
      · next c2 =>
        rw [if_neg c2] at rule
        split
        · next c3 => exact ruled (by rw [rule, if_pos c3]; rfl)
        · next c3 => exact ruled (by rw [rule, if_neg c3]; cases p <;> rfl)
  · rw [dif_neg h]
    exact ruled (by rw [State.ruleChainLink, linkOf_unnamed h]; rfl)

/-! ### POLICY, BEACON-SET and TIMEBASE -/

theorem policyOf_eq (n : Nat) : policyOf n = if 1 < n then none else some (if n = 0 then .strict else .tolerant) := by
  match n with
  | 0 => rfl
  | 1 => rfl
  | n + 2 => rw [if_pos (by omega)]; rfl

theorem preferenceOf_of_gt {n : Nat} (h : 1 < n) : preferenceOf n = none := by
  match n with
  | n + 2 => rfl

/-- Settles O20: the three requests, setting by setting; TIMEBASE moves the timebase by the table of R43. -/
theorem settingsRule : Obligations.SettingsRule := by
  refine ⟨?_, ?_⟩
  on_goal 1 => intro s p tag q hs answer; refine ⟨fun n ht => ?_, ?_⟩
  · have ruled {u : State} {c : ReplyCode} (h : (s.setPort p q).rulePolicy p n.toNat = ⟨u.setPort p q, ⟨c, []⟩⟩) :
        exec (.policy p tag [n]) s = answer ⟨16, tag, [n]⟩ u c :=
      request_supervised (own := State.rulePolicy p) ht hs rfl (by decide) h
    have rule := policyOf_eq n.toNat
    by_cases c1 : 1 < n.toNat
    · rw [if_pos c1] at rule ⊢
      exact ruled (by rw [State.rulePolicy, rule]; rfl)
    · rw [if_neg c1] at rule ⊢
      extract_lets x
      have ctl : (s.setPort p q).ctl = s.ctl := State.setPort_ctl ..
      rw [State.rulePolicy, rule] at ruled
      by_cases c2 : s.ctl.policy = x
      · rw [if_pos c2]
        exact ruled (if_pos (by rw [ctl]; exact c2))
      · rw [if_neg c2]
        exact ruled ((if_neg (by rw [ctl]; exact c2)).trans (by cases p <;> rfl))
  · intro hi lo ht n
    have ruled {u : State} {c : ReplyCode} (h : (s.setPort p q).ruleBeaconSet p n = ⟨u.setPort p q, ⟨c, []⟩⟩) :
        exec (.beaconSet p tag [hi, lo]) s = answer ⟨18, tag, [hi, lo]⟩ u c :=
      request_supervised (own := State.ruleBeaconSet p) ht hs rfl (by decide) h
    have rule : (s.setPort p q).ruleBeaconSet p n =
        if n < 50 ∨ 600 < n then (s.setPort p q).refuse .badValue
        else if s.clock.beaconInterval = n then (s.setPort p q).grant []
        else ((s.setPort p q).setInterval p n).grant [] := by
      rw [State.ruleBeaconSet, State.setPort_clock]
    split
    · next c1 => exact ruled (by rw [rule, if_pos c1]; rfl)
    · next c1 =>
      rw [if_neg c1] at rule
      split
      · next c2 => exact ruled (by rw [rule, if_pos c2]; rfl)
      · next c2 => exact ruled (by rw [rule, if_neg c2]; cases p <;> rfl)
  · intro s p tag n q ht hs answer pref moved
    have ruled {u : State} {c : ReplyCode} (h : (s.setPort p q).ruleTimebase p n.toNat = ⟨u.setPort p q, ⟨c, []⟩⟩) :
        exec (.timebase p tag [n]) s = answer u c :=
      request_supervised (own := State.ruleTimebase p) ht hs rfl (by decide) h
    have clock : (s.setPort p q).clock = s.clock := State.setPort_clock ..
    refine ⟨fun h => ruled ?_, fun h htb => ruled ?_, fun h htb => ruled ?_, fun h htb => ruled ?_, fun h htb => ruled ?_⟩
    · rw [State.ruleTimebase, preferenceOf_of_gt h]
      rfl
    all_goals rw [State.ruleTimebase, h]
    · simp only [preferenceOf, State.applyTimebase, clock, htb]
      rfl
    · have pref1 : pref = .internalOnly := if_neg (by omega)
      simp only [preferenceOf, State.applyTimebase, clock, moved, pref1]
      cases e : s.clock.tb with
      | internal => exact absurd e htb
      | _ => cases p <;> rfl
    · have pref0 : pref = .preferReference := if_pos h
      simp only [preferenceOf, State.applyTimebase, clock, htb, moved, pref0]
      cases p <;> rfl
    · simp only [preferenceOf, State.applyTimebase, clock]
      cases e : s.clock.tb with
      | internal => exact absurd e htb
      | _ => rfl

/-! ### FAULT-CLEAR, ALERT-ENABLE, ALERT-CLEAR and the ALERT record -/

theorem flagOf_of_le {b : Byte} (h : b.toNat ≤ 1) : flagOf b = some (decide (b.toNat = 1)) := by
  unfold flagOf
  have : b.toNat = 0 ∨ b.toNat = 1 := by omega
  obtain e | e := this <;> rw [e] <;> rfl

theorem flagOf_of_gt {b : Byte} (h : 1 < b.toNat) : flagOf b = none := by
  unfold flagOf
  split
  · omega
  · omega
  · rfl

theorem flagsOf_of_le {l : List Byte} (h : ∀ x, x ∈ l → x.toNat ≤ 1) : flagsOf l = some (l.map fun x => decide (x.toNat = 1)) := by
  induction l with
  | nil => rfl
  | cons b l ih =>
    obtain ⟨hb, hl⟩ := List.forall_mem_cons.mp h
    rw [flagsOf, flagOf_of_le hb, ih hl]
    rfl

theorem flagsOf_of_gt {l : List Byte} (h : ∃ x, x ∈ l ∧ 1 < x.toNat) : flagsOf l = none := by
  induction l with
  | nil => obtain ⟨x, hx, -⟩ := h; cases hx
  | cons b l ih =>
    obtain ⟨x, hx, gt⟩ := h
    rw [flagsOf]
    obtain rfl | hx := List.mem_cons.mp hx
    · rw [flagOf_of_gt gt]
    · rw [ih ⟨x, hx, gt⟩]
      cases flagOf b <;> rfl

theorem AlertClass.ofByte_of_le {b : Byte} (h : b.toNat ≤ 8) : ∃ c, AlertClass.ofByte b = some c ∧ c.ix.val = b.toNat := by
  have all : ∀ i : Fin 9, ∃ c, AlertClass.all[i.val]? = some c ∧ c.ix = i := by
    intro i
    fin_cases i <;> exact ⟨_, rfl, rfl⟩
  obtain ⟨c, hc, hi⟩ := all ⟨b.toNat, by omega⟩
  exact ⟨c, hc, congrArg Fin.val hi⟩

theorem classesOf_of_le {l : List Byte} (h : ∀ x, x ∈ l → x.toNat ≤ 8) :
    ∃ cs, classesOf l = some cs ∧ cs.map (·.ix.val) = l.map (·.toNat) := by
  induction l with
  | nil => exact ⟨[], rfl, rfl⟩
  | cons b l ih =>
    obtain ⟨hb, hl⟩ := List.forall_mem_cons.mp h
    obtain ⟨c, hc, hi⟩ := AlertClass.ofByte_of_le hb
    obtain ⟨cs, hcs, his⟩ := ih hl
    refine ⟨c :: cs, by rw [classesOf, hc, hcs], ?_⟩
    rw [List.map_cons, List.map_cons, hi, his]

theorem classesOf_of_gt {l : List Byte} (h : ∃ x, x ∈ l ∧ 8 < x.toNat) : classesOf l = none := by
  induction l with
  | nil => obtain ⟨x, hx, -⟩ := h; cases hx
  | cons b l ih =>
    obtain ⟨x, hx, gt⟩ := h
    rw [classesOf]
    obtain rfl | hx := List.mem_cons.mp hx
    · have none : AlertClass.ofByte x = none := List.getElem?_eq_none (by simp [AlertClass.all]; omega)
      rw [none]
    · rw [ih ⟨x, hx, gt⟩]
      cases AlertClass.ofByte b <;> rfl

/-- The pending flags after the classes `l` are cleared. -/
theorem clearClasses_pending (l : List AlertClass) (v : Vector Bool 9) (i : Fin 9) :
    (l.foldl (fun v c => v.set c.ix.val false c.ix.isLt) v).get i = (v.get i && !(l.map (·.ix.val)).any (· == i.val)) := by
  induction l generalizing v with
  | nil => simp
  | cons c l ih =>
    rw [List.foldl_cons, ih, get_set]
    by_cases h : c.ix = i
    · simp [h]
    · have other : (c.ix.val == i.val) = false := by simpa [Fin.ext_iff] using h
      simp [h, other]

theorem FaultUnit.gains_eq (e : Vector Bool 9) (f : FaultUnit) :
    f.gains e = decide (∃ i, f.pending.get i = true ∧ e.get i = true ∧ f.enabled.get i = false) := by
  have all (c : AlertClass) : c ∈ AlertClass.all := by cases c <;> simp [AlertClass.all]
  rw [Bool.eq_iff_iff, decide_eq_true_eq, FaultUnit.gains, List.any_eq_true]
  constructor
  · rintro ⟨c, -, h⟩
    exact ⟨c.ix, by simpa [and_assoc] using h⟩
  · rintro ⟨i, h⟩
    obtain ⟨c, rfl⟩ := AlertClass.exists_ix i
    exact ⟨c, all c, by simpa [and_assoc] using h⟩

/-- Settles O27. -/
theorem faultAndAlertRequests : Obligations.FaultAndAlertRequests := by
  refine ⟨?_, ?_⟩
  on_goal 1 => intro s p tag q answer; refine ⟨fun ht hs => ?_, fun b hb ht hs => ?_, fun n l hl ht => ?_⟩
  · exact request_answered (own := fun _ => State.ruleFaultClear) ht (.inl hs) rfl (by decide) (by cases p <;> rfl)
  · have body : enableBody b = some b := if_pos hb
    have ruled {u : State} {c : ReplyCode} (h : (s.setPort p q).ruleAlertEnable p b = ⟨u.setPort p q, ⟨c, []⟩⟩) :
        exec (.alertEnable p tag b) s = answer ⟨25, tag, b⟩ u c :=
      request_answered (own := State.ruleAlertEnable p) ht (.inl hs) body (by decide) h
    refine ⟨fun h => ruled (by rw [State.ruleAlertEnable, flagsOf_of_gt h]; rfl), ?_⟩
    intro h e gain
    have enabled : enables (b.map fun x => decide (x.toNat = 1)) = e := by
      refine ext_get fun i => ?_
      have hi : i.val < b.length := by omega
      simp only [enables, e, get_ofFn, List.getD_eq_getElem?_getD, List.getElem?_map, List.getElem?_eq_getElem hi]
      rfl
    have rule : (s.setPort p q).ruleAlertEnable p b = ((s.setPort p q).setEnables p e).grant [] := by
      rw [State.ruleAlertEnable, flagsOf_of_le h]
      show ((s.setPort p q).setEnables p (enables _)).grant [] = _
      rw [enabled]
    have faults : (s.setPort p q).faults = s.faults := State.setPort_faults ..
    rw [State.setEnables, faults] at rule
    split
    · next same => exact ruled (by rw [rule, if_pos same]; rfl)
    · next differ =>
      refine ruled ?_
      rw [rule, if_neg differ, FaultUnit.enable, FaultUnit.gains_eq]
      cases p <;> rfl
  · have body : clearBody (n :: l) = some l := if_pos hl
    have ruled {u : State} {c : ReplyCode} (h : (s.setPort p q).ruleAlertClear l = ⟨u.setPort p q, ⟨c, []⟩⟩) :
        exec (.alertClear p tag (n :: l)) s = answer ⟨26, tag, n :: l⟩ u c :=
      request_answered (own := State.ruleAlertClear) ht (.inr rfl) body (by decide) h
    refine ⟨fun h => ruled ?_, fun hn hle => ruled ?_⟩
    · obtain h0 | h := h
      · obtain rfl : l = [] := List.length_eq_zero_iff.mp (hl.trans h0)
        rfl
      · rw [State.ruleAlertClear, classesOf_of_gt h]
        rfl
    · obtain ⟨cs, hcs, his⟩ := classesOf_of_le hle
      cases cs with
      | nil =>
        obtain rfl : l = [] := by simpa using his.symm
        exact absurd hl.symm hn
      | cons c cs =>
        rw [State.ruleAlertClear, hcs]
        have pending : (Vector.ofFn fun i => s.faults.pending.get i && !(l.any fun x => x.toNat == i.val)) =
            ((c :: cs).foldl (fun v c => v.set c.ix.val false c.ix.isLt) s.faults.pending) := by
          refine ext_get fun i => ?_
          rw [clearClasses_pending, his, get_ofFn, List.any_map]
          rfl
        rw [pending]
        cases p <;> rfl
  · intro s hp signalled
    show Host.Outcome.next (if s.powered = true then s.alertOut else s) = _
    rw [if_pos hp, State.alertOut]
    by_cases h : s.faults.waiting = true ∧ s.centre.inProgress = none
    · rw [if_pos h, if_pos h, FaultUnit.sendAlert]
      have same : s.faults.signalled = signalled := rfl
      rw [same]
      cases e : signalled with
      | nil => rfl
      | cons c cs => rfl
    · rw [if_neg h, if_neg h]

end Sys2Proof.Machine
end

section
/-! The requests of the Plan Store (chapter 2): each request's rule by the state of the slot it names. -/

namespace Sys2Proof.Machine

variable {s : State} {p : PortId} {q : Port} {tag : Byte}

/-! ### PLAN-OPEN: the header of a legal body, the first fit -/

theorem PlanMode.ofByte_eq (b : Byte) : PlanMode.ofByte b =
    if b.toNat = 0 then some .inbound else if b.toNat = 1 then some .outbound else if b.toNat = 2 then some .tidal else none := by
  unfold PlanMode.ofByte
  split
  · next h => rw [if_pos h]
  · next h => rw [h]; rfl
  · next h => rw [h]; rfl
  · next h0 h1 h2 => rw [if_neg h0, if_neg h1, if_neg h2]

theorem PlanMode.code_of_ofByte {b : Byte} {m : PlanMode} (h : PlanMode.ofByte b = some m) : m.code = b := by
  rw [PlanMode.ofByte_eq] at h
  refine BitVec.eq_of_toNat_eq ?_
  split at h
  · next e => cases h; exact e.symm
  split at h
  · next e => cases h; exact e.symm
  split at h
  · next e => cases h; exact e.symm
  · cases h

theorem PlanMode.ofByte_isSome {b : Byte} : (∃ m, PlanMode.ofByte b = some m ∧ (m = .tidal ↔ b.toNat = 2)) ↔ b.toNat ≤ 2 := by
  rw [PlanMode.ofByte_eq]
  constructor
  · rintro ⟨m, h, -⟩
    by_contra big
    rw [if_neg (by omega), if_neg (by omega), if_neg (by omega)] at h
    cases h
  · intro h
    obtain e | e | e : b.toNat = 0 ∨ b.toNat = 1 ∨ b.toNat = 2 := by omega
    · exact ⟨.inbound, by rw [e]; rfl, by rw [e]; simp⟩
    · exact ⟨.outbound, by rw [e]; rfl, by rw [e]; simp⟩
    · exact ⟨.tidal, by rw [e]; rfl, by rw [e]; simp⟩

theorem tidalOf_of_le {n : Nat} (h : n ≤ 2) : ∃ t, tidalOf n = some t ∧ (t.isSome = true ↔ n ≠ 2) ∧
    t.map Dir.code = if n = 2 then none else some (byte n) := by
  obtain rfl | rfl | rfl : n = 0 ∨ n = 1 ∨ n = 2 := by omega
  · exact ⟨some .inbound, rfl, by simp, rfl⟩
  · exact ⟨some .outbound, rfl, by simp, rfl⟩
  · exact ⟨none, rfl, by simp, rfl⟩

theorem tidalOf_of_gt {n : Nat} (h : 2 < n) : tidalOf n = none := by
  match n with
  | n + 3 => rfl

theorem inRange_iff {lo hi n : Nat} : inRange lo hi n = true ↔ lo ≤ n ∧ n ≤ hi := by simp [inRange]

theorem OpenBody.rangesOk_iff {o : OpenBody} : o.rangesOk = true ↔
    (1 ≤ o.count ∧ o.count ≤ 24) ∧ (300 ≤ o.c ∧ o.c ≤ 2400) ∧ (15 ≤ o.speedIn ∧ o.speedIn ≤ 90) ∧
    (15 ≤ o.speedOut ∧ o.speedOut ≤ 90) ∧ (10 ≤ o.speedMin ∧ o.speedMin ≤ 100) ∧ (10 ≤ o.speedMax ∧ o.speedMax ≤ 100) ∧
    (10 ≤ o.headway ∧ o.headway ≤ 40) ∧ (1 ≤ o.slideStep ∧ o.slideStep ≤ 50) ∧ o.origin < o.c ∧ o.adaptive ≤ 1 ∧
    o.lengthen ≤ 30 ∧ o.shorten ≤ 20 ∧ (o.speedMin ≤ o.speedIn ∧ o.speedIn ≤ o.speedMax) ∧
    (o.speedMin ≤ o.speedOut ∧ o.speedOut ≤ o.speedMax) := by
  simp only [OpenBody.rangesOk, Bool.and_eq_true, inRange_iff, decide_eq_true_eq, and_assoc]

/-- The header of a legal body, once its run is placed. -/
theorem OpenBody.header_of_legal {o : OpenBody} (h : o.Legal) :
    ∃ x, o.header = some x ∧ x.count = o.count ∧ ∀ base, Header.FromBody { x with base } o base := by
  have start : o.tidalStart ≤ 2 := by
    have := h.tidal
    split at this <;> omega
  obtain ⟨m, hm, tidal⟩ := PlanMode.ofByte_isSome.mpr h.mode
  obtain ⟨t, ht, present, code⟩ := tidalOf_of_le start
  have ranges : o.rangesOk = true := OpenBody.rangesOk_iff.mpr
    ⟨h.count, h.c, ⟨h.speedIn.1, h.speedIn.2.1⟩, ⟨h.speedOut.1, h.speedOut.2.1⟩, h.speedMin, h.speedMax, h.headway,
      h.slideStep, h.origin, h.adaptive, h.lengthen, h.shorten, h.speedIn.2.2, h.speedOut.2.2⟩
  have across : t.isSome = true ↔ m = .tidal := by
    rw [present, tidal]
    have := h.tidal
    split at this <;> omega
  refine ⟨_, by rw [OpenBody.header, hm, ht]; exact if_pos ⟨ranges, across⟩, rfl, fun base => ?_⟩
  exact
    { c := rfl, mode := PlanMode.code_of_ofByte hm, tidal := code, speeds := ⟨rfl, rfl, rfl, rfl⟩, headway := rfl
      slideStep := rfl, origin := rfl, adaptive := by simp, limits := ⟨rfl, rfl⟩, run := ⟨rfl, rfl⟩ }

theorem OpenBody.legal_of_header {o : OpenBody} {x : Header} (h : o.header = some x) : o.Legal := by
  rw [OpenBody.header] at h
  split at h
  · next m t hm ht =>
    split at h
    · next ok =>
      obtain ⟨ranges, across⟩ := ok
      obtain ⟨count, c, speedIn, speedOut, speedMin, speedMax, headway, slideStep, origin, adaptive, lengthen, shorten,
        betweenIn, betweenOut⟩ := OpenBody.rangesOk_iff.mp ranges
      have mode : o.mode.toNat ≤ 2 := by
        by_contra big
        rw [PlanMode.ofByte_eq, if_neg (by omega), if_neg (by omega), if_neg (by omega)] at hm
        cases hm
      have start : o.tidalStart ≤ 2 := by
        by_contra big
        rw [tidalOf_of_gt (by omega)] at ht
        cases ht
      obtain ⟨m', hm', tidal⟩ := PlanMode.ofByte_isSome.mpr mode
      obtain ⟨t', ht', present, -⟩ := tidalOf_of_le start
      obtain rfl : m' = m := Option.some.inj (hm'.symm.trans hm)
      obtain rfl : t' = t := Option.some.inj (ht'.symm.trans ht)
      have agree : o.tidalStart ≠ 2 ↔ o.mode.toNat = 2 := present.symm.trans (across.trans tidal)
      exact
        { count, c, mode, speedMin, speedMax, headway, slideStep, origin, adaptive, lengthen, shorten
          tidal := by split <;> omega
          speedIn := ⟨speedIn.1, speedIn.2, betweenIn⟩
          speedOut := ⟨speedOut.1, speedOut.2, betweenOut⟩ }
    · cases h
  · cases h

theorem OpenBody.header_of_illegal {o : OpenBody} (h : ¬o.Legal) : o.header = none := by
  cases e : o.header with
  | none => rfl
  | some x => exact absurd (OpenBody.legal_of_header e) h

theorem mem_allSlots (i : SlotIx) : i ∈ allSlots := List.mem_finRange i

theorem PlanStore.fits_iff {ps : PlanStore} {i : SlotIx} {n base : Nat} :
    (decide (base + n ≤ 256) && ps.runFree i { base, count := n }) = true ↔ ps.Fits i n base := by
  simp only [Bool.and_eq_true, decide_eq_true_eq, PlanStore.runFree, List.all_eq_true, PlanStore.Fits, Bool.or_eq_true]
  refine and_congr_right fun _ => ⟨fun h j hj r hr => ?_, fun h j _ => ?_⟩
  · obtain e | free := h j (mem_allSlots j)
    · exact absurd e hj
    · rw [hr] at free
      simpa [PoolRun.disjoint] using free
  · by_cases hj : j = i
    · exact .inl hj
    · refine .inr ?_
      cases e : (ps.slot j).body.run with
      | none => rfl
      | some r => simpa [PoolRun.disjoint] using h j hj r e

theorem PlanStore.firstFit_of_none {ps : PlanStore} {i : SlotIx} {n : Nat} (h : ∀ base, ¬ps.Fits i n base) :
    ps.firstFit i n = none :=
  List.find?_eq_none.mpr fun base _ e => h base (PlanStore.fits_iff.mp e)

theorem PlanStore.firstFit_of_least {ps : PlanStore} {i : SlotIx} {n base : Nat} (hn : 1 ≤ n) (h : ps.Fits i n base)
    (least : ∀ lower, lower < base → ¬ps.Fits i n lower) : ps.firstFit i n = some base := by
  have inPool := h.1
  refine List.find?_range_eq_some.mpr ⟨PlanStore.fits_iff.mpr h, List.mem_range.mpr (by omega), fun j hj => ?_⟩
  rw [Bool.not_eq_true', Bool.eq_false_iff]
  exact fun e => least j hj (PlanStore.fits_iff.mp e)

theorem PlanStore.inUse_iff {ps : PlanStore} {i : SlotIx} : ps.inUse i = true ↔ ps.active = i ∨ ps.pendingSlot = some i := by
  simp [PlanStore.inUse]

theorem SlotBody.busyFor_iff {b : SlotBody} : b.busyFor p = true ↔ ∃ h r es, b = .loading h r es ∧ r ≠ p := by
  cases b <;> simp [SlotBody.busyFor]

/-- PLAN-OPEN of a slot, by what stands in its way. -/
theorem rulePlanOpen_eq {o : OpenBody} {i : SlotIx} {h : Header} (hi : o.slot = i.val) (hh : o.header = some h) :
    s.rulePlanOpen p o =
      if (s.plans.slot i).locked then s.refuse .locked
      else if s.plans.inUse i then s.refuse .state
      else if (s.plans.slot i).body.busyFor p then s.refuse .busy
      else
        match s.plans.firstFit i h.count with
        | none => s.refuse .noRoom
        | some base => (s.openSlot p i h base).grant [byte base] := by
  rw [State.rulePlanOpen, slotOf_named hi, hh] <;> rfl

theorem rulePlanOpen_out_of_range {o : OpenBody} (h : ¬o.slot < 16 ∨ ¬o.Legal) : s.rulePlanOpen p o = s.refuse .badValue := by
  unfold State.rulePlanOpen
  obtain h | h := h
  · rw [slotOf_unnamed (by omega)]
  · rw [OpenBody.header_of_illegal h]
    cases slotOf o.slot <;> rfl

/-- Settles O10. -/
theorem planOpenRule : Obligations.PlanOpenRule := by
  intro s p tag b o q hb ht hs answer
  have ruled {u : State} {c : ReplyCode} {l : List Byte} (h : (s.setPort p q).rulePlanOpen p o = ⟨u.setPort p q, ⟨c, l⟩⟩) :
      exec (.planOpen p tag b) s = answer u c l :=
    request_supervised (own := State.rulePlanOpen p) ht hs hb (by decide) h
  refine ⟨fun h => ruled (rulePlanOpen_out_of_range h), ?_⟩
  intro i hi legal x used busy
  obtain ⟨h, hh, count, fromBody⟩ := OpenBody.header_of_legal legal
  have rule := rulePlanOpen_eq (s := s.setPort p q) (p := p) hi hh
  rw [State.setPort_plans, count] at rule
  have hx : s.plans.slot i = x := rfl
  rw [hx] at rule
  have usedFalse (hu : ¬used) : ¬s.plans.inUse i = true := fun e => hu (PlanStore.inUse_iff.mp e)
  have busyFalse (hy : ¬busy) : ¬x.body.busyFor p = true := fun e => hy (SlotBody.busyFor_iff.mp e)
  refine ⟨fun hl => ruled ?_, fun hl hu => ruled ?_, fun hl hu hy => ruled ?_, fun hl hu hy none => ruled ?_,
    fun base hl hu hy fits least => ⟨_, fromBody base, ruled ?_⟩⟩
  · rw [rule, if_pos hl]
    rfl
  all_goals rw [hl, if_neg Bool.false_ne_true] at rule
  · rw [rule, if_pos (PlanStore.inUse_iff.mpr hu)]
    rfl
  all_goals rw [if_neg (usedFalse hu)] at rule
  · rw [rule, if_pos (SlotBody.busyFor_iff.mpr hy)]
    rfl
  all_goals rw [if_neg (busyFalse hy)] at rule
  · rw [rule, PlanStore.firstFit_of_none none]
    rfl
  · rw [rule, PlanStore.firstFit_of_least legal.count.1 fits least]
    show ((s.setPort p q).openSlot p i h base).grant [byte base] = _
    rw [State.openSlot, State.setPort_plans, hx, count]
    cases x.body.isReady <;> cases p <;> rfl

/-! ### PLAN-ENTRY -/

theorem rulePlanEntry_closed {o : EntryBody} {i : SlotIx} (hi : o.slot = i.val)
    (closed : ∀ h r es, (s.plans.slot i).body ≠ .loading h r es) : s.rulePlanEntry p o = s.refuse .state := by
  rw [State.rulePlanEntry, slotOf_named hi]
  cases e : (s.plans.slot i).body with
  | loading h r es => exact absurd e (closed h r es)
  | empty | ready => simp only [e]

theorem rulePlanEntry_loading {o : EntryBody} {i : SlotIx} {h : Header} {r : PortId} {es : List (Option Entry)}
    (hi : o.slot = i.val) (hb : (s.plans.slot i).body = .loading h r es) :
    s.rulePlanEntry p o =
      if r ≠ p then s.refuse .busy
      else if o.index < h.count ∧ 1 ≤ o.position ∧ o.position ≤ 24 ∧ o.inb.s < h.c ∧ o.inb.e < h.c ∧ o.outb.s < h.c ∧ o.outb.e < h.c
      then (s.setSlotBody i (.loading h r (es.set o.index (some ⟨o.position, o.inb, o.outb⟩)))).grant []
      else s.refuse .badValue := by
  rw [State.rulePlanEntry, slotOf_named hi]
  simp only [hb, Bool.and_eq_true, decide_eq_true_eq, inRange_iff, Window.within, and_assoc]

/-- Settles O11. -/
theorem planEntryRule : Obligations.PlanEntryRule := by
  intro s p tag b o q hb ht hs answer
  have ruled {u : State} {c : ReplyCode} (h : (s.setPort p q).rulePlanEntry p o = ⟨u.setPort p q, ⟨c, []⟩⟩) :
      exec (.planEntry p tag b) s = answer u c :=
    request_supervised (own := State.rulePlanEntry p) ht hs hb (by decide) h
  refine ⟨fun h => ruled (by rw [State.rulePlanEntry, slotOf_unnamed h]; rfl), ?_⟩
  intro i hi x
  have hx : (s.setPort p q).plans.slot i = x := by rw [State.setPort_plans]
  refine ⟨fun closed => ruled (rulePlanEntry_closed hi (by rw [hx]; exact closed)), ?_⟩
  intro h r es loading legal
  have rule := rulePlanEntry_loading (p := p) hi (hx ▸ loading)
  refine ⟨fun hr => ruled ?_, fun hr illegal => ruled ?_, fun hr ok => ruled ?_⟩
  · rw [rule, if_pos hr]
    rfl
  all_goals rw [if_neg (not_not.mpr hr)] at rule
  · rw [rule, if_neg illegal]
    rfl
  · rw [rule, if_pos ok, hr, State.setSlotBody, hx]
    cases p <;> rfl

/-! ### PLAN-CLOSE -/

theorem Window.greenOk_iff {w : Window} {c : Nat} :
    w.greenOk c = true ↔ 100 ≤ greenLength w.s w.e c ∧ greenLength w.s w.e c + 100 ≤ c := by
  simp [Window.greenOk]

/-- The position of the entry before index `i`, none before the first. -/
def before (es : List (Option Entry)) : Nat → Option Nat
  | 0 => none
  | j + 1 => (es[j]?.join).map (·.position)

theorem entryFault_some {c : Nat} {es : List (Option Entry)} {k : Nat} {e : Entry} (h : es[k]? = some (some e)) :
    entryFault c es k =
      if (e.inb.greenOk c && e.outb.greenOk c) = true then
        match before es k with
        | some q => if q < e.position then none else some .order
        | none => none
      else some .green := by
  rw [entryFault, h]
  simp only [Bool.and_eq_true, Window.greenOk_iff, ← not_and_or, ite_not]
  refine if_congr Iff.rfl ?_ rfl
  cases k with
  | zero => rfl
  | succ j =>
    rw [before]
    cases x : es[j]? with
    | none => simp [x]
    | some f =>
      cases f with
      | none => simp [x]
      | some f =>
        by_cases c : f.position < e.position
        · simp [x, c, Nat.not_le.mpr c]
        · simp [x, c, Nat.not_lt.mp c]

theorem entryFault_unwritten {c : Nat} {es : List (Option Entry)} {k : Nat} (h : es[k]? = some none) :
    entryFault c es k = some .unwritten := by
  rw [entryFault, h]

theorem closeFailure_some (c i : Nat) (prev : Option Nat) (e : Entry) (l : List (Option Entry)) :
    closeFailure c i prev (some e :: l) =
      if (e.inb.greenOk c && e.outb.greenOk c) = true then
        match prev with
        | some q => if q < e.position then closeFailure c (i + 1) (some e.position) l else some (i, .order)
        | none => closeFailure c (i + 1) (some e.position) l
      else some (i, .green) := by
  cases prev <;> rfl

/-- The search from index `i` on finds the first entry with a fault. -/
theorem closeFailure_eq_find (c : Nat) (es : List (Option Entry)) (l : List (Option Entry)) (i : Nat) (h : es.drop i = l) :
    closeFailure c i (before es i) l = (List.range' i l.length).findSome? fun k => (entryFault c es k).map (k, ·) := by
  induction l generalizing i with
  | nil => rfl
  | cons x l ih =>
    have here : es[i]? = some x := by rw [← List.head?_drop, h]; rfl
    have rest : es.drop (i + 1) = l := by rw [← List.tail_drop, h]; rfl
    rw [List.length_cons, List.range'_succ, List.findSome?_cons]
    cases x with
    | none => rw [entryFault_unwritten here]; rfl
    | some e =>
      have next : before es (i + 1) = some e.position := by rw [before, here]; rfl
      have tail := ih (i + 1) rest
      rw [next] at tail
      rw [entryFault_some here, closeFailure_some]
      split
      · cases b : before es i with
        | none => simpa [b] using tail
        | some q =>
          by_cases c : q < e.position
          · simpa [b, c] using tail
          · simp [c]
      · rfl

theorem closeFailure_eq (c : Nat) (es : List (Option Entry)) :
    closeFailure c 0 none es = (List.range es.length).findSome? fun k => (entryFault c es k).map (k, ·) := by
  rw [List.range_eq_range']
  exact closeFailure_eq_find c es es 0 rfl

theorem closeFailure_first {c k : Nat} {es : List (Option Entry)} {f : CloseFailure} (hk : entryFault c es k = some f)
    (least : ∀ j, j < k → entryFault c es j = none) : closeFailure c 0 none es = some (k, f) := by
  have inList : k < es.length := by
    by_contra big
    rw [entryFault, List.getElem?_eq_none (by omega)] at hk
    cases hk
  obtain ⟨l, hl⟩ : ∃ l, List.range es.length = List.range k ++ k :: l := by
    obtain ⟨d, hd⟩ := Nat.exists_eq_add_of_lt inList
    refine ⟨(List.range d).map (k + 1 + ·), ?_⟩
    rw [hd, Nat.add_right_comm, List.range_add, List.range_succ]
    simp
  rw [closeFailure_eq, List.findSome?_eq_some_iff]
  exact ⟨_, _, _, hl, by rw [hk]; rfl, fun j hj => by rw [least j (List.mem_range.mp hj)]; rfl⟩

theorem closeFailure_none {c : Nat} {es : List (Option Entry)} (h : ∀ k, entryFault c es k = none) :
    closeFailure c 0 none es = none := by
  rw [closeFailure_eq, List.findSome?_eq_none_iff]
  intro k _
  rw [h k]
  rfl

theorem entries_written {c : Nat} {es : List (Option Entry)} (h : ∀ k, entryFault c es k = none) :
    es = (es.filterMap id).map some := by
  have written (x : Option Entry) (hx : x ∈ es) : x ≠ none := by
    rintro rfl
    obtain ⟨k, hk⟩ := List.mem_iff_getElem?.mp hx
    cases (entryFault_unwritten (c := c) hk).symm.trans (h k)
  clear h
  induction es with
  | nil => rfl
  | cons x es ih =>
    obtain ⟨hx, hes⟩ := List.forall_mem_cons.mp written
    obtain ⟨e, rfl⟩ := Option.ne_none_iff_exists'.mp hx
    exact congrArg (some e :: ·) (ih hes)

theorem rulePlanClose_closed {n : Nat} {i : SlotIx} (hi : n = i.val)
    (closed : ∀ h r es, (s.plans.slot i).body ≠ .loading h r es) : s.rulePlanClose p n = s.refuse .state := by
  rw [State.rulePlanClose, slotOf_named hi]
  cases e : (s.plans.slot i).body with
  | loading h r es => exact absurd e (closed h r es)
  | empty | ready => simp only [e]

theorem rulePlanClose_loading {n : Nat} {i : SlotIx} {h : Header} {r : PortId} {es : List (Option Entry)}
    (hi : n = i.val) (hb : (s.plans.slot i).body = .loading h r es) :
    s.rulePlanClose p n =
      if r ≠ p then s.refuse .busy
      else
        match closeFailure h.c 0 none es with
        | some (k, f) => ⟨s, ⟨.badValue, [byte k, f.code]⟩⟩
        | none => (s.closeSlot p i h (es.filterMap id)).grant [(s.plans.slot i).gen + 1] := by
  rw [State.rulePlanClose, slotOf_named hi]
  simp only [hb] <;> rfl

/-- Settles O12. -/
theorem planCloseRule : Obligations.PlanCloseRule := by
  intro s p tag n q ht hs answer
  have ruled {u : State} {c : ReplyCode} {l : List Byte} (h : (s.setPort p q).rulePlanClose p n.toNat = ⟨u.setPort p q, ⟨c, l⟩⟩) :
      exec (.planClose p tag [n]) s = answer u c l :=
    request_supervised (own := State.rulePlanClose p) ht hs rfl (by decide) h
  refine ⟨fun h => ruled (by rw [State.rulePlanClose, slotOf_unnamed h]; rfl), ?_⟩
  intro i hi x
  have hx : (s.setPort p q).plans.slot i = x := by rw [State.setPort_plans]
  refine ⟨fun closed => ruled (rulePlanClose_closed hi (by rw [hx]; exact closed)), ?_⟩
  intro h r es loading
  have rule := rulePlanClose_loading (p := p) hi (hx ▸ loading)
  refine ⟨fun hr => ruled ?_, fun k f hr hk least => ruled ?_, fun hr sound => ⟨entries_written sound, ruled ?_⟩⟩
  · rw [rule, if_pos hr]
    rfl
  all_goals rw [if_neg (not_not.mpr hr)] at rule
  · rw [rule, closeFailure_first hk least]
    cases f <;> rfl
  · rw [rule, closeFailure_none sound, hx]
    show ((s.setPort p q).closeSlot p i h (es.filterMap id)).grant [x.gen + 1] = _
    rw [State.closeSlot, hx]
    cases p <;> rfl

/-! ### PLAN-DROP, PLAN-LOCK and PLAN-UNLOCK -/

theorem rulePlanDrop_eq {n : Nat} {i : SlotIx} (hi : n = i.val) :
    s.rulePlanDrop p n =
      if (s.plans.slot i).locked then s.refuse .locked
      else if s.plans.inUse i then s.refuse .state
      else (s.dropSlot p i).grant [] := by
  rw [State.rulePlanDrop, slotOf_named hi]

/-- Settles O13. -/
theorem planDropRule : Obligations.PlanDropRule := by
  intro s p tag n q ht hs answer
  have ruled {u : State} {c : ReplyCode} (h : (s.setPort p q).rulePlanDrop p n.toNat = ⟨u.setPort p q, ⟨c, []⟩⟩) :
      exec (.planDrop p tag [n]) s = answer u c :=
    request_supervised (own := State.rulePlanDrop p) ht hs rfl (by decide) h
  refine ⟨fun h => ruled (by rw [State.rulePlanDrop, slotOf_unnamed h]; rfl), ?_⟩
  intro i hi x used
  have hx : (s.setPort p q).plans.slot i = x := by rw [State.setPort_plans]
  have rule := rulePlanDrop_eq (s := s.setPort p q) (p := p) hi
  rw [hx, State.setPort_plans, State.dropSlot, hx] at rule
  have usedFalse (hu : ¬used) : ¬s.plans.inUse i = true := fun e => hu (PlanStore.inUse_iff.mp e)
  refine ⟨fun hl => ruled ?_, fun hl hu => ruled ?_, fun hl hu hb => ruled ?_, fun h r es hl hu hb => ruled ?_,
    fun h es hl hu hb => ruled ?_⟩
  · rw [rule, if_pos hl]
    rfl
  all_goals rw [hl, if_neg Bool.false_ne_true] at rule
  · rw [rule, if_pos (PlanStore.inUse_iff.mpr hu)]
    rfl
  all_goals rw [rule, if_neg (usedFalse hu)]; simp only [hb]
  · rfl
  · rw [State.setSlotBody, hx]
    cases p <;> rfl
  · have kept : ((s.setPort p q).storeEmpty p i).plans.slot i = x := hx
    rw [State.setSlotBody, kept, State.storeEmpty, hx]
    cases p <;> rfl

theorem rulePlanLock_eq {n : Nat} {i : SlotIx} (hi : n = i.val) :
    s.rulePlanLock p n =
      if (s.plans.slot i).body.isReady = false then s.refuse .state
      else if (s.plans.slot i).locked then s.grant []
      else (s.setLocked p i true).grant [] := by
  rw [State.rulePlanLock, slotOf_named hi]

theorem rulePlanUnlock_eq {n : Nat} {i : SlotIx} (hi : n = i.val) :
    s.rulePlanUnlock p n =
      if i = 0 then s.refuse .locked
      else if (s.plans.slot i).locked then (s.setLocked p i false).grant []
      else s.grant [] := by
  rw [State.rulePlanUnlock, slotOf_named hi]

/-- Settles O14. -/
theorem planLockRule : Obligations.PlanLockRule := by
  intro s p tag n q hs answer turned
  have slot (i : SlotIx) : (s.setPort p q).plans.slot i = s.plans.slot i := by rw [State.setPort_plans]
  have turns (i : SlotIx) (b : Bool) : ((s.setPort p q).setLocked p i b).grant [] = ⟨(turned i b).setPort p q, ⟨.ok, []⟩⟩ := by
    rw [State.setLocked, slot]
    cases p <;> rfl
  have lock {u : State} {c : ReplyCode} (ht : s.CanTake p ⟨8, tag, [n]⟩ q)
      (h : (s.setPort p q).rulePlanLock p n.toNat = ⟨u.setPort p q, ⟨c, []⟩⟩) : exec (.planLock p tag [n]) s = answer 8 u c :=
    request_supervised (own := State.rulePlanLock p) ht hs rfl (by decide) h
  have unlock {u : State} {c : ReplyCode} (ht : s.CanTake p ⟨9, tag, [n]⟩ q)
      (h : (s.setPort p q).rulePlanUnlock p n.toNat = ⟨u.setPort p q, ⟨c, []⟩⟩) : exec (.planUnlock p tag [n]) s = answer 9 u c :=
    request_supervised (own := State.rulePlanUnlock p) ht hs rfl (by decide) h
  refine ⟨fun ht => ⟨fun h => lock ht ?_, ?_⟩, fun ht => ⟨fun h => unlock ht ?_, ?_⟩⟩
  · rw [State.rulePlanLock, slotOf_unnamed h]
    rfl
  · intro i hi x
    have rule := rulePlanLock_eq (s := s.setPort p q) (p := p) hi
    rw [slot] at rule
    refine ⟨fun unready => lock ht (by rw [rule, if_pos unready]; rfl), fun ready => ?_⟩
    rw [if_neg (by rw [ready]; decide)] at rule
    split
    · next hl => exact lock ht (by rw [rule, if_pos hl]; rfl)
    · next hl => exact lock ht (by rw [rule, if_neg hl, turns])
  · rw [State.rulePlanUnlock, slotOf_unnamed h]
    rfl
  · intro i hi
    have rule := rulePlanUnlock_eq (s := s.setPort p q) (p := p) hi
    rw [slot] at rule
    refine ⟨fun zero => unlock ht (by rw [rule, if_pos zero]; rfl), fun other => ?_⟩
    rw [if_neg other] at rule
    split
    · next hl => exact unlock ht (by rw [rule, if_pos hl, turns])
    · next hl => exact unlock ht (by rw [rule, if_neg hl]; rfl)

/-! ### PLAN-SELECT -/

theorem PlanStore.covers_iff {ps : PlanStore} {i : SlotIx} {o : Pos} :
    ps.covers i o = true ↔ ∃ e, ps.entryOf i o = some e ∧ e.position = o.val + 1 := by
  rw [PlanStore.covers, Option.isSome_iff_exists]
  refine exists_congr fun e => (and_iff_left_of_imp fun h => ?_).symm
  simpa [posNum] using List.find?_some h

theorem State.mem_enrolledList {o : Pos} : o ∈ s.enrolledList ↔ s.isEnrolled o = true := by
  simp [State.enrolledList, mem_allPos]

/-- Settles O15. -/
theorem planSelectRule : Obligations.PlanSelectRule := by
  intro s p tag n q ht hs answer
  have ruled {u : State} {c : ReplyCode} (h : (s.setPort p q).rulePlanSelect n.toNat = ⟨u.setPort p q, ⟨c, []⟩⟩) :
      exec (.planSelect p tag [n]) s = answer u c :=
    request_supervised (own := State.rulePlanSelect) ht hs rfl (by decide) h
  refine ⟨fun h => ruled (by rw [State.rulePlanSelect, slotOf_unnamed h]; rfl), ?_⟩
  intro i hi covered
  have covers : s.enrolledList.all (s.plans.covers i) = true ↔ covered := by
    rw [List.all_eq_true]
    exact forall_congr' fun o => imp_congr State.mem_enrolledList PlanStore.covers_iff
  have rule : (s.setPort p q).rulePlanSelect n.toNat =
      if (s.plans.slot i).body.isReady = false then (s.setPort p q).refuse .state
      else if s.enrolledList.all (s.plans.covers i) then ((s.setPort p q).setPlans (s.plans.select i)).grant []
      else (s.setPort p q).refuse .mismatch := by
    rw [State.rulePlanSelect, slotOf_named hi]
    simp only [State.setPort_plans, State.enrolledList_setPort]
  refine ⟨fun hr => ruled ?_, fun hr hc => ruled ?_, fun hr hc => ruled ?_⟩
  · rw [rule, if_pos hr]
    rfl
  all_goals rw [rule, if_neg (by rw [hr]; decide)]
  · rw [if_neg fun e => hc (covers.mp e)]
    rfl
  · rw [if_pos (covers.mpr hc), PlanStore.select]
    split <;> cases p <;> rfl

end Sys2Proof.Machine
end

section
/-! The settings of the Preemption Unit: VECTOR-SET (R141) and LINE-SET (R139). -/

namespace Sys2Proof.Machine

variable {s : State} {p : PortId} {q : Port} {tag : Byte}

/-! ### The body of a VECTOR-SET -/

theorem listedBytes_of_even : (l : List Byte) → (n : Nat) → l.length = 2 * n →
    ∃ zs, listedBytes l = some zs ∧ zs.length = n ∧ zs.map (fun z => (z.pos, z.phase)) = pairsOf l
  | [], n, h => ⟨[], rfl, by simpa [eq_comm] using h, rfl⟩
  | [_], n, h => by simp at h; omega
  | a :: b :: l, n, h => by
    obtain ⟨zs, hl, hn, hp⟩ := listedBytes_of_even l (n - 1) (by simp at h; omega)
    refine ⟨⟨a, b⟩ :: zs, by rw [listedBytes, hl]; rfl, ?_, ?_⟩
    · simp at h ⊢
      omega
    · rw [List.map_cons, hp]
      rfl

theorem HoldPhase.ofByte_of_le {b : Byte} (h : b.toNat ≤ 2) : ∃ x, HoldPhase.ofByte b = some x ∧ x.code = b := by
  obtain e | e | e : b.toNat = 0 ∨ b.toNat = 1 ∨ b.toNat = 2 := by omega
  · exact ⟨.inboundGreen, by rw [HoldPhase.ofByte, e]; rfl, BitVec.eq_of_toNat_eq e.symm⟩
  · exact ⟨.outboundGreen, by rw [HoldPhase.ofByte, e]; rfl, BitVec.eq_of_toNat_eq e.symm⟩
  · exact ⟨.allRed, by rw [HoldPhase.ofByte, e]; rfl, BitVec.eq_of_toNat_eq e.symm⟩

theorem HoldPhase.ofByte_of_gt {b : Byte} (h : 2 < b.toNat) : HoldPhase.ofByte b = none := by
  unfold HoldPhase.ofByte
  split
  · omega
  · omega
  · omega
  · rfl

theorem VectorClass.ofByte_of_le {b : Byte} (h : b.toNat ≤ 3) :
    ∃ x, VectorClass.ofByte b = some x ∧ x.code = b ∧ (x = .unused ↔ b.toNat = 0) := by
  obtain e | e | e | e : b.toNat = 0 ∨ b.toNat = 1 ∨ b.toNat = 2 ∨ b.toNat = 3 := by omega
  · exact ⟨.unused, by rw [VectorClass.ofByte, e]; rfl, BitVec.eq_of_toNat_eq e.symm, by simp [e]⟩
  · exact ⟨.rail, by rw [VectorClass.ofByte, e]; rfl, BitVec.eq_of_toNat_eq e.symm, by simp [e]⟩
  · exact ⟨.emergency, by rw [VectorClass.ofByte, e]; rfl, BitVec.eq_of_toNat_eq e.symm, by simp [e]⟩
  · exact ⟨.transit, by rw [VectorClass.ofByte, e]; rfl, BitVec.eq_of_toNat_eq e.symm, by simp [e]⟩

theorem VectorClass.ofByte_of_gt {b : Byte} (h : 3 < b.toNat) : VectorClass.ofByte b = none := by
  unfold VectorClass.ofByte
  split
  · omega
  · omega
  · omega
  · omega
  · rfl

/-- A listed position and phase that name something. -/
def ListedByte.Names (z : ListedByte) : Prop := (1 ≤ z.pos.toNat ∧ z.pos.toNat ≤ 24) ∧ z.phase.toNat ≤ 2

theorem seizureList_of_named {zs : List ListedByte} (h : ∀ z, z ∈ zs → z.Names) :
    ∃ l, seizureList zs = some l ∧ l.map (fun x => (byte (x.pos.val + 1), x.phase.code)) = zs.map (fun z => (z.pos, z.phase)) ∧
      l.map (fun x => x.pos.val + 1) = zs.map (·.pos.toNat) := by
  induction zs with
  | nil => exact ⟨[], rfl, rfl, rfl⟩
  | cons z zs ih =>
    obtain ⟨⟨inRange, phase⟩, rest⟩ := List.forall_mem_cons.mp h
    obtain ⟨l, hl, bytes, numbers⟩ := ih rest
    obtain ⟨x, hx, code⟩ := HoldPhase.ofByte_of_le phase
    have named : z.pos.toNat = z.pos.toNat - 1 + 1 := by omega
    have hp : posOf z.pos.toNat = some ⟨z.pos.toNat - 1, by omega⟩ := posOf_named named
    refine ⟨⟨⟨z.pos.toNat - 1, by omega⟩, x⟩ :: l, by rw [seizureList, hp, hx, hl], ?_, ?_⟩
    · rw [List.map_cons, List.map_cons, bytes, code]
      have : byte (z.pos.toNat - 1 + 1) = z.pos := by
        rw [← named]
        simp [byte]
      rw [this]
    · rw [List.map_cons, List.map_cons, numbers, ← named]

theorem seizureList_of_unnamed {zs : List ListedByte} (h : ∃ z, z ∈ zs ∧ ¬z.Names) : seizureList zs = none := by
  induction zs with
  | nil => obtain ⟨z, hz, -⟩ := h; cases hz
  | cons z zs ih =>
    obtain ⟨w, hw, bad⟩ := h
    rw [seizureList]
    obtain rfl | hw := List.mem_cons.mp hw
    · by_cases inRange : 1 ≤ w.pos.toNat ∧ w.pos.toNat ≤ 24
      · rw [HoldPhase.ofByte_of_gt (by by_contra le; exact bad ⟨inRange, by omega⟩)]
        cases posOf w.pos.toNat <;> rfl
      · rw [posOf_unnamed inRange]
    · rw [ih ⟨w, hw, bad⟩]
      cases posOf z.pos.toNat with
      | none => rfl
      | some _ => cases HoldPhase.ofByte z.phase <;> rfl

theorem ascending_iff (l : List Seizure) : ascending l = true ↔ (l.map (fun x => x.pos.val + 1)).Pairwise (· < ·) := by
  rw [← List.isChain_iff_pairwise]
  induction l with
  | nil => simp [ascending]
  | cons a l ih =>
    cases l with
    | nil => simp [ascending]
    | cons b l =>
      rw [ascending, Bool.and_eq_true, decide_eq_true_eq, ih]
      simp

/-- What R141 asks of the class and, for a used vector, of the list and the maximum hold. -/
structure VectorBody.Legal (b : VectorBody) : Prop where
  cls : b.cls.toNat ≤ 3
  used : b.cls.toNat ≠ 0 → 1 ≤ b.list.length ∧ b.list.length ≤ 8 ∧ (∀ z, z ∈ b.list → z.Names) ∧
    (b.list.map (·.pos.toNat)).Pairwise (· < ·) ∧ 100 ≤ b.maxHold ∧ b.maxHold ≤ 3000

theorem VectorBody.config_of_legal {b : VectorBody} (h : b.Legal) :
    ∃ x : VectorCfg, b.config = some x ∧ x.cls.code = b.cls ∧ (b.cls.toNat = 0 → x.list = [] ∧ x.maxHold = 100) ∧
      (b.cls.toNat ≠ 0 → (x.list.map fun z => (byte (z.pos.val + 1), z.phase.code)) = b.list.map (fun z => (z.pos, z.phase)) ∧
        x.maxHold = b.maxHold) := by
  obtain ⟨c, hc, code, unused⟩ := VectorClass.ofByte_of_le h.cls
  by_cases zero : b.cls.toNat = 0
  · refine ⟨emptyVector, ?_, BitVec.eq_of_toNat_eq zero.symm, fun _ => ⟨rfl, rfl⟩, fun h => absurd zero h⟩
    rw [VectorBody.config, hc, unused.mpr zero]
  · obtain ⟨least, most, named, ascends, holdMin, holdMax⟩ := h.used zero
    obtain ⟨l, hl, bytes, numbers⟩ := seizureList_of_named named
    have length : l.length = b.list.length := by simpa using congrArg List.length numbers
    have ok : 1 ≤ l.length ∧ l.length ≤ 8 ∧ ascending l = true ∧ 100 ≤ b.maxHold ∧ b.maxHold ≤ 3000 :=
      ⟨length ▸ least, length ▸ most, (ascending_iff l).mpr (numbers ▸ ascends), holdMin, holdMax⟩
    refine ⟨⟨c, l, b.maxHold⟩, ?_, code, fun h => absurd h zero, fun _ => ⟨bytes, rfl⟩⟩
    rw [VectorBody.config, hc, hl]
    have used : c ≠ .unused := fun e => zero (unused.mp e)
    cases c with
    | unused => exact absurd rfl used
    | _ => exact if_pos ok

theorem VectorBody.config_of_illegal {b : VectorBody} (h : ¬b.Legal) : b.config = none := by
  rw [VectorBody.config]
  by_cases cls : b.cls.toNat ≤ 3
  · obtain ⟨c, hc, -, unused⟩ := VectorClass.ofByte_of_le cls
    have used : ¬b.cls.toNat = 0 := fun zero => h ⟨cls, fun other => absurd zero other⟩
    have refused : (match seizureList b.list with
        | none => none
        | some l =>
          if 1 ≤ l.length ∧ l.length ≤ 8 ∧ ascending l = true ∧ 100 ≤ b.maxHold ∧ b.maxHold ≤ 3000 then
            some (⟨c, l, b.maxHold⟩ : VectorCfg)
          else none) = none := by
      by_cases named : ∀ z, z ∈ b.list → z.Names
      · obtain ⟨l, hl, -, numbers⟩ := seizureList_of_named named
        have length : l.length = b.list.length := by simpa using congrArg List.length numbers
        rw [hl]
        refine if_neg fun ⟨least, most, ascends, holds⟩ => h ⟨cls, fun _ => ⟨length ▸ least, length ▸ most, named, ?_, holds⟩⟩
        rw [← numbers]
        exact (ascending_iff l).mp ascends
      · push Not at named
        rw [seizureList_of_unnamed named]
    rw [hc]
    cases c with
    | unused => exact absurd (unused.mp rfl) used
    | rail | emergency | transit => exact refused
  · rw [VectorClass.ofByte_of_gt (by omega)]

theorem ruleVectorSet_out_of_range {b : VectorBody} (h : 8 ≤ b.vector ∨ ¬b.Legal) : s.ruleVectorSet p b = s.refuse .badValue := by
  unfold State.ruleVectorSet
  obtain h | h := h
  · rw [vectorOf_unnamed h]
  · rw [VectorBody.config_of_illegal h]
    cases vectorOf b.vector <;> rfl

theorem ruleVectorSet_eq {b : VectorBody} {k : VecIx} {x : VectorCfg} (hk : b.vector = k.val) (hx : b.config = some x) :
    s.ruleVectorSet p b = if s.causeActive k then s.refuse .state else (s.setVector p k x).grant [] := by
  rw [State.ruleVectorSet, vectorOf_named hk, hx]

/-- Settles O22. -/
theorem vectorSetRule : Obligations.VectorSetRule := by
  intro s p tag v c h1 h0 n l q f hl ht answer
  obtain ⟨zs, bytes, length, pairs⟩ := listedBytes_of_even l n.toNat hl
  let b : VectorBody := ⟨v.toNat, c, ofHalf h1 h0, zs⟩
  have body : vectorBody f.body = some b := by
    show (match listedBytes l with | some l => _ | none => none) = _
    rw [bytes]
    exact if_pos length
  refine ⟨fun hs => request_answered_class ht hs body (by decide), ?_⟩
  intro hs hold legal
  have ruled {u : State} {c : ReplyCode} (h : (s.setPort p q).ruleVectorSet p b = ⟨u.setPort p q, ⟨c, []⟩⟩) :
      exec (.vectorSet p tag f.body) s = answer u c :=
    request_answered (own := State.ruleVectorSet p) ht (.inl hs) body (by decide) h
  have agree : legal ↔ b.Legal := by
    have named : (∀ x, x ∈ pairsOf l → 1 ≤ x.1.toNat ∧ x.1.toNat ≤ 24 ∧ x.2.toNat ≤ 2) ↔ ∀ z, z ∈ zs → z.Names := by
      rw [← pairs, List.forall_mem_map]
      simp only [ListedByte.Names, and_assoc]
    have ascends : (pairsOf l).Pairwise (fun a b => a.1.toNat < b.1.toNat) ↔ (zs.map (·.pos.toNat)).Pairwise (· < ·) := by
      rw [← pairs, List.pairwise_map, List.pairwise_map]
    have iff : legal ↔ c.toNat ≤ 3 ∧ (c.toNat ≠ 0 → 1 ≤ zs.length ∧ zs.length ≤ 8 ∧ (∀ z, z ∈ zs → z.Names) ∧
        (zs.map (·.pos.toNat)).Pairwise (· < ·) ∧ 100 ≤ hold ∧ hold ≤ 3000) := by
      rw [length, ← named, ← ascends]
    exact iff.trans ⟨fun h => ⟨h.1, h.2⟩, fun h => ⟨h.cls, h.used⟩⟩
  refine ⟨fun h => ruled (ruleVectorSet_out_of_range (h.imp_right fun e => mt agree.mpr e)), ?_⟩
  intro k hk hlegal
  obtain ⟨x, hx, code, unused, used⟩ := VectorBody.config_of_legal (agree.mp hlegal)
  have rule := ruleVectorSet_eq (s := s.setPort p q) (p := p) (b := b) hk hx
  rw [State.causeActive_setPort, State.setVector, State.setPort_pre] at rule
  refine ⟨fun on => ruled (rule.trans (if_pos on)), fun off => ⟨x, code, unused, fun h => ⟨?_, (used h).2⟩, ?_⟩⟩
  · rw [(used h).1]
    exact pairs
  · intro t
    refine ruled ?_
    rw [rule, if_neg (by rw [State.causeActive, off]; decide)]
    dsimp only
    split <;> cases p <;> rfl

/-! ### LINE-SET -/

theorem Polarity.ofByte_of_le {b : Byte} (h : b.toNat ≤ 1) :
    Polarity.ofByte b = some (if b.toNat = 0 then .activeHigh else .activeLow) := by
  obtain e | e : b.toNat = 0 ∨ b.toNat = 1 := by omega
  · rw [Polarity.ofByte, e]; rfl
  · rw [Polarity.ofByte, e]; rfl

theorem Polarity.ofByte_of_gt {b : Byte} (h : 1 < b.toNat) : Polarity.ofByte b = none := by
  unfold Polarity.ofByte
  split
  · omega
  · omega
  · rfl

theorem LineBody.config_eq (b : LineBody) :
    b.config = if b.polarity.toNat ≤ 1 ∧ b.debounce ≤ 500 ∧ b.debounce % 10 = 0 then
      some ⟨if b.polarity.toNat = 0 then .activeHigh else .activeLow, b.debounce⟩ else none := by
  rw [LineBody.config]
  by_cases h : b.polarity.toNat ≤ 1
  · rw [Polarity.ofByte_of_le h]
    exact if_congr (by simp [h]) rfl rfl
  · rw [Polarity.ofByte_of_gt (by omega), if_neg (by simp [h])]

/-- Settles O23. -/
theorem lineSetRule : Obligations.LineSetRule := by
  intro s p tag k pol d1 d0 time q f c ht answer
  refine ⟨fun hs => request_answered_class ht hs rfl (by decide), ?_⟩
  intro hs d legal
  let b : LineBody := ⟨k.toNat, pol, d⟩
  have ruled {u : State} {r : ReplyCode} (h : (s.setPort p q).ruleLineSet p time b = ⟨u.setPort p q, ⟨r, []⟩⟩) :
      exec c s = answer u r :=
    request_answered (own := State.ruleLineSet p time) ht (.inl hs) rfl (by decide) h
  refine ⟨fun h => ruled ?_, ?_⟩
  · unfold State.ruleLineSet
    obtain h | h := h
    · rw [lineOf_unnamed h]
      rfl
    · rw [LineBody.config_eq, if_neg h]
      cases lineOf b.line <;> rfl
  · intro i hi hlegal old cfg
    have rule : (s.setPort p q).ruleLineSet p time b =
        if s.causeActive (vectorOfLine i) then (s.setPort p q).refuse .state
        else ((s.setPort p q).reconfigureLine p time i cfg).grant [] := by
      rw [State.ruleLineSet, lineOf_named hi, LineBody.config_eq, if_pos hlegal, ← State.causeActive_setPort s p q]
    refine ⟨fun on => ruled (rule.trans (if_pos on)), fun off => ?_⟩
    intro now t
    refine ruled ?_
    rw [rule, if_neg (by rw [State.causeActive, off]; decide), State.reconfigureLine, State.setPort_pre]
    dsimp only
    split <;> cases p <;> rfl

end Sys2Proof.Machine
end

section
/-! The start of a computation and the computation trigger (R73, R77 to R79), and COMPUTE (R75). -/

namespace Sys2Proof.Machine

variable {s t u : State}

/-! ### The snapshot -/

theorem State.isEnrolled_of_kept (h : t.kept = s.kept) : t.isEnrolled = s.isEnrolled := funext fun p => by
  simpa [State.kept, State.isEnrolled] using congrArg (fun k => (k.chain.get p).isEnrolled) h

theorem State.enrolledList_of_kept (h : t.kept = s.kept) : t.enrolledList = s.enrolledList :=
  congrArg (allPos.filter ·) (State.isEnrolled_of_kept h)

/-- The snapshot reads what the frame keeps. -/
theorem State.snapshot_of_kept (h : t.kept = s.kept) : t.snapshot = s.snapshot := by
  have plans : t.plans = s.plans := congrArg Kept.plans h
  have memGen : t.memGen = s.memGen := congrArg Kept.memGen h
  have clock : t.clock = s.clock := congrArg Kept.clock h
  have policy : t.ctl.policy = s.ctl.policy := congrArg Kept.policy h
  have positions : t.snapPos = s.snapPos := funext fun p => by
    simp only [State.snapPos, State.activeEntry, plans, State.meas_of_kept h, clock]
  have links : t.snapLink = s.snapLink := funext fun l => by
    simp only [State.snapLink, State.linkRec_of_links (State.links_of_kept h)]
  simp only [State.snapshot, State.planTag, State.plan_of_kept h, plans, memGen, clock, policy, positions, links,
    State.enrolledList_of_kept h, State.meas_of_kept h]

theorem allPos_pairwise : allPos.Pairwise (· < ·) := List.pairwise_lt_finRange 24

/-- A link lies in the span of an ascending list when it has a position of the list on each side. -/
theorem inSpan_eq {ps : List Pos} (h : ps.Pairwise (· < ·)) (l : LinkIx) :
    inSpan ps l = ((ps.any fun p => decide (p.val ≤ l.val)) && ps.any fun p => decide (l.val < p.val)) := by
  cases ps with
  | nil => rfl
  | cons a ps =>
    have first (p : Pos) (hp : p ∈ a :: ps) : a.val ≤ p.val := by
      obtain rfl | hp := List.mem_cons.mp hp
      · exact le_rfl
      · exact (List.rel_of_pairwise_cons h hp).le
    have last (p : Pos) (hp : p ∈ a :: ps) : p.val ≤ ((a :: ps).getLast (by simp)).val := by
      obtain ⟨i, hi, rfl⟩ := List.getElem_of_mem hp
      rw [List.getLast_eq_getElem]
      obtain e | lt := Nat.eq_or_lt_of_le (Nat.le_sub_one_of_lt hi)
      · simp only [e, le_refl]
      · exact (List.pairwise_iff_getElem.mp h i _ hi (by simp) lt).le
    rw [inSpan, List.head?_cons, List.getLast?_eq_getLast_of_ne_nil (by simp)]
    show (decide _ && decide _) = _
    congr 1
    · rw [Bool.eq_iff_iff, decide_eq_true_eq, List.any_eq_true]
      refine ⟨fun le => ⟨a, by simp, by simpa using le⟩, fun ⟨p, hp, le⟩ => ?_⟩
      have := first p hp
      simp only [decide_eq_true_eq] at le
      omega
    · rw [Bool.eq_iff_iff, decide_eq_true_eq, List.any_eq_true]
      refine ⟨fun lt => ⟨_, List.getLast_mem (by simp), by simpa using lt⟩, fun ⟨p, hp, lt⟩ => ?_⟩
      have := last p hp
      simp only [decide_eq_true_eq] at lt
      omega

theorem State.enrolledList_pairwise (s : State) : s.enrolledList.Pairwise (· < ·) := allPos_pairwise.filter _

theorem State.snapPos_pos (s : State) (p : Pos) : (s.snapPos p).pos = p := by
  unfold State.snapPos
  cases s.meas.dir <;> rfl

theorem entryOf_unique {ps : PlanStore} {i : SlotIx} {o : Pos} {h : Header} {es : List Entry} {e : Entry}
    (hb : (ps.slot i).body = .ready h es) (he : e ∈ es) (ho : e.position = o.val + 1)
    (unique : ∀ f, f ∈ es → f.position = e.position → f = e) : ps.entryOf i o = some e := by
  rw [PlanStore.entryOf, hb]
  have found : (es.find? fun x => x.position == posNum o).isSome = true :=
    List.find?_isSome.mpr ⟨e, he, by simpa [posNum] using ho⟩
  obtain ⟨f, hf⟩ := Option.isSome_iff_exists.mp found
  have position : f.position = posNum o := by simpa using List.find?_some hf
  rw [SlotBody.entries, hf, unique f (List.mem_of_find?_eq_some hf) (position.trans ho.symm)]

theorem State.snapshot_of (s : State) : s.snapshot.Of s where
  tag := ⟨rfl, rfl⟩
  plan h es hb := by
    have plan : s.plan = h := by simp only [State.plan, PlanStore.header, hb, SlotBody.header]
    rw [← plan]
    exact ⟨rfl, rfl, rfl, rfl, rfl, rfl, rfl, rfl, rfl⟩
  values := ⟨rfl, rfl, rfl, rfl⟩
  enrolled := by
    show (s.enrolledList.map s.snapPos).map (·.pos) = _
    rw [List.map_map]
    exact (List.map_congr_left fun p _ => s.snapPos_pos p).trans (List.map_id _)
  windows h es x e hb hx he ho unique := by
    obtain ⟨p, -, rfl⟩ := List.mem_map.mp hx
    rw [State.snapPos_pos] at ho
    have entry : s.activeEntry p = e := by rw [State.activeEntry, entryOf_unique hb he ho unique]; rfl
    simp only [State.snapPos, entry]
    cases s.meas.dir <;> exact ⟨rfl, rfl⟩
  queues x hx := by
    obtain ⟨p, -, rfl⟩ := List.mem_map.mp hx
    rw [State.snapPos_pos]
    simp only [State.snapPos]
    cases s.meas.dir with
    | inbound => show currentQueue _ _ = _; cases (s.meas.pos.get p).queueIn <;> rfl
    | outbound => show currentQueue _ _ = _; cases (s.meas.pos.get p).queueOut <;> rfl
  span := by
    show ((spanLinks s.enrolledList).map s.snapLink).map (·.link) = _
    rw [List.map_map]
    refine (List.map_id _).trans (List.filter_congr fun l _ => ?_)
    rw [inSpan_eq s.enrolledList_pairwise]
    simp only [State.enrolledList, List.any_filter]
    rfl
  links x hx := by
    obtain ⟨l, -, rfl⟩ := List.mem_map.mp hx
    exact ⟨rfl, rfl, rfl⟩

/-! ### The start of a computation -/

theorem limitTo_eq (lo hi x : Nat) (h : lo ≤ hi) : limitTo lo hi x = max lo (min hi x) := by
  unfold limitTo
  split
  · omega
  split <;> omega

theorem Snapshot.travelValue_eq (n : Snapshot) (length speed : Nat) (q : Quality) :
    n.travelValue length speed q = n.valueOf length speed q := by
  refine (limitTo_eq 1 9999 _ (by decide)).trans ?_
  cases q <;> rfl

theorem Snapshot.travelValues_eq (n : Snapshot) : n.travelValues = n.links.map fun l =>
    ⟨l.link, n.valueOf l.length n.speedIn l.inb, n.valueOf l.length n.speedOut l.outb⟩ := by
  simp only [Snapshot.travelValues, Snapshot.travelValue_eq]

theorem Quality.isPoisoned_iff {q : Quality} : q.isPoisoned = true ↔ q = .poisoned := by
  cases q <;> simp [Quality.isPoisoned]

theorem Snapshot.poisonedSet_eq (n : Snapshot) : n.poisonedSet = n.links.flatMap fun l =>
    (if l.inb = .poisoned then [(l.link, .inbound)] else []) ++ (if l.outb = .poisoned then [(l.link, .outbound)] else []) := by
  simp only [Snapshot.poisonedSet, Quality.isPoisoned_iff]

theorem State.newComputation_begun (s : State) : s.newComputation.Begun (s.band.number + 1) where
  number := rfl
  travel := Snapshot.travelValues_eq _
  poisoned := Snapshot.poisonedSet_eq _
  interrupted := rfl

theorem Computation.startFaults_eq {x : Computation} {k : Half} (h : x.Begun k) : x.startFaults = x.poisonUsed := by
  rw [Computation.startFaults, Computation.poisonUsed, h.poisoned]
  cases x.snap.policy with
  | strict => rfl
  | tolerant =>
    rw [List.map_flatMap]
    refine congrArg (List.flatMap · _) (funext fun l => ?_)
    rw [List.map_append]
    congr 1 <;> split <;> rfl

/-- A trigger taken after faults and alert events that leave the Band Computer alone. -/
theorem State.trigger_triggered {m : Master} {fs : List FaultInfo} {P : AlertClass → Prop} (hm : u.ctl.master = m)
    (hb : u.band = s.band) (hc : u.clock = s.clock) (h : Raises fs P s u) : Triggered m fs P s u.trigger := by
  unfold Triggered
  rw [← hm, ← hb]
  have kept : u.trigger.kept = u.kept := State.kept_trigger u
  split
  · next starts =>
    have mayStart : u.MayStart := starts
    refine ⟨u.newComputation, ?_, ⟨(State.snapshot_of_kept kept).symm, u.newComputation_begun⟩, ?_⟩
    · rw [State.trigger_of_mayStart mayStart]
      exact u.startComputation_keepsBand.band
    · rw [State.trigger_of_mayStart mayStart, ← Computation.startFaults_eq u.newComputation_begun]
      have start : Raises u.newComputation.startFaults (fun _ => False) u u.startComputation :=
        (Raises.faults u.newComputation.startFaults (u.setBand { u.band with
          inFlight := some u.newComputation, recompute := false, number := u.newComputation.number })).congr rfl rfl rfl
      exact (h.trans start hc).iff fun c => by simp
  · next busy =>
    rw [State.trigger_of_busy busy]
    exact ⟨rfl, h.congr rfl rfl rfl⟩

/-- Faults change the Fault and Alert Unit alone. -/
theorem State.foldl_fault_eq (l : List FaultInfo) (s : State) :
    l.foldl (fun s i => s.fault i) s = { s with faults := (l.foldl (fun s i => s.fault i) s).faults } := by
  induction l generalizing s with
  | nil => rfl
  | cons i l ih =>
    rw [List.foldl_cons, ih]
    rfl

/-- A trigger changes the Band Computer and the Fault and Alert Unit alone. -/
theorem State.trigger_eq (s : State) : s.trigger = { s with band := s.trigger.band, faults := s.trigger.faults } := by
  by_cases h : s.MayStart
  · rw [State.trigger_of_mayStart h, State.startComputation, State.foldl_fault_eq]
    rfl
  · rw [State.trigger_of_busy h]
    rfl

theorem State.trigger_pos (s : State) : s.trigger.pos = s.pos := by rw [State.trigger_eq]

theorem State.trigger_trunk (s : State) : s.trigger.trunk = s.trunk := by rw [State.trigger_eq]

theorem State.trigger_pre (s : State) : s.trigger.pre = s.pre := by rw [State.trigger_eq]

/-! ### COMPUTE -/

variable {p : PortId} {q : Port}

/-- A state that keeps the ports of one that holds `q` at `p` is its own with `q` put there. -/
theorem State.setPort_of_kept (h : t.kept = (s.setPort p q).kept) : t.setPort p q = t :=
  State.setPort_of_port ((State.port_of_kept h p).trans (State.port_setPort ..))

/-- Settles O21. -/
theorem computeRule : Obligations.ComputeRule := by
  refine ⟨State.snapshot_of, ?_⟩
  intro s p tag q ht answer number
  have ruled {u : State} {c : ReplyCode} {l : List Byte} (hs : s.senderClass p = .supervisory)
      (h : (s.setPort p q).ruleCompute = ⟨u.setPort p q, ⟨c, l⟩⟩) : exec (.compute p tag []) s = answer u c l :=
    request_answered (own := fun _ => State.ruleCompute) ht (.inl hs) rfl (by decide) h
  have band : (s.setPort p q).band = s.band := State.setPort_band ..
  have ctl : (s.setPort p q).ctl = s.ctl := State.setPort_ctl ..
  refine ⟨fun hs => request_answered_class ht hs rfl (by decide), fun hs hm => ruled hs ?_, fun hs hm idle => ?_, fun x hs hm busy => ruled hs ?_⟩
  · rw [State.ruleCompute, if_neg (by rw [ctl]; exact hm)]
    rfl
  · have kept := State.kept_trigger (s.setPort p q)
    have mayStart : (s.setPort p q).MayStart := ⟨by rw [ctl]; exact hm, by rw [band]; exact idle⟩
    refine ⟨(s.setPort p q).trigger, ruled hs ?_, ?_, ?_, ?_, ?_, ?_, kept⟩
    · rw [State.setPort_of_kept kept, State.ruleCompute, if_pos mayStart.1, mayStart.2]
      have started : (s.setPort p q).trigger.band.number = s.band.number + 1 := by
        rw [State.trigger_of_mayStart mayStart, State.startComputation_keepsBand _ |>.band, ← band]
        rfl
      show State.grant _ _ = _
      rw [started]
      rfl
    · exact State.trigger_triggered mayStart.1 band (State.setPort_clock ..) (Raises.of_faults_eq (State.setPort_faults ..))
    · exact (State.trigger_pos _).trans (State.setPort_pos ..)
    · exact (State.trigger_trunk _).trans (State.setPort_trunk ..)
    · exact (State.trigger_pre _).trans (State.setPort_pre ..)
    · exact (State.trigger_ctl _).trans ctl
  · have busyNow : ¬(s.setPort p q).MayStart := fun h => by
      have none := h.2
      rw [band, busy] at none
      cases none
    rw [State.ruleCompute, if_pos (by rw [ctl]; exact hm), band, busy]
    show State.grant _ (s.setPort p q).trigger = _
    rw [State.trigger_of_busy busyNow, band]
    cases p <;> rfl

end Sys2Proof.Machine
end

section
/-! Taking a request, and the checks before the owning block: kind, body length, sender class (R179, R180). -/

namespace Sys2Proof.Machine

variable {s : State} {p : PortId} {q : Port} {tag : Byte} {b : List Byte}

/-! ### The body lengths -/

theorem noFields_eq_none (h : b.length ≠ 0) : noFields b = none := by
  unfold noFields
  split
  · exact absurd rfl h
  · rfl

theorem oneByte_eq_none (h : b.length ≠ 1) : oneByte b = none := by
  unfold oneByte
  split
  · exact absurd rfl h
  · rfl

theorem twoBytes_eq_none (h : b.length ≠ 2) : twoBytes b = none := by
  unfold twoBytes
  split
  · exact absurd rfl h
  · rfl

theorem oneHalf_eq_none (h : b.length ≠ 2) : oneHalf b = none := by
  unfold oneHalf
  split
  · exact absurd rfl h
  · rfl

theorem linkBody_eq_none (h : b.length ≠ 3) : linkBody b = none := by
  unfold linkBody
  split
  · exact absurd rfl h
  · rfl

theorem openBody_eq_none (h : b.length ≠ 17) : openBody b = none := by
  unfold openBody
  split
  · exact absurd rfl h
  · rfl

theorem openBody_of_length (h : b.length = 17) : ∃ o, openBody b = some o :=
  match b, h with
  | [_, _, _, _, _, _, _, _, _, _, _, _, _, _, _, _, _], _ => ⟨_, rfl⟩

theorem entryBody_eq_none (h : b.length ≠ 11) : entryBody b = none := by
  unfold entryBody
  split
  · exact absurd rfl h
  · rfl

theorem entryBody_of_length (h : b.length = 11) : ∃ o, entryBody b = some o :=
  match b, h with
  | [_, _, _, _, _, _, _, _, _, _, _], _ => ⟨_, rfl⟩

theorem lineBody_eq_none (h : b.length ≠ 4) : lineBody b = none := by
  unfold lineBody
  split
  · exact absurd rfl h
  · rfl

theorem listedBytes_length : (l : List Byte) → (zs : List ListedByte) → listedBytes l = some zs → l.length = 2 * zs.length
  | [], zs, h => by cases h; rfl
  | [_], zs, h => by cases h
  | a :: b :: l, zs, h => by
    rw [listedBytes] at h
    obtain ⟨ys, hy, rfl⟩ := Option.map_eq_some_iff.mp h
    have := listedBytes_length l ys hy
    simp
    omega

theorem vectorBody_eq_none (h : ∀ v c h1 h0 n l, b = v :: c :: h1 :: h0 :: n :: l → l.length ≠ 2 * n.toNat) : vectorBody b = none := by
  unfold vectorBody
  split
  · next v c h1 h0 n l =>
    split
    · next zs hz => exact if_neg fun e => h v c h1 h0 n l rfl (by rw [listedBytes_length l zs hz, e])
    · rfl
  · rfl

theorem clearBody_eq_none (h : ∀ n l, b = n :: l → l.length ≠ n.toNat) : clearBody b = none := by
  unfold clearBody
  split
  · next n l => exact if_neg (h n l rfl)
  · rfl

/-! ### A request that is not taken, and one that its checks refuse -/

section Request

variable {α : Type} {fieldMay : Bool} {parse : List Byte → Option α} {own : α → State → Ruling} {kind : Byte}

theorem serve_unpowered_or_waits {f : Frame} {rule : SenderClass → State → Ruling} {after : ReplyCode → State → State}
    (h : (s.port p).taking f = none) : powered (fun s => s.serve p f rule after) s = .next s := by
  cases hp : s.powered with
  | false => exact powered_off _ hp
  | true => rw [powered_run _ hp, State.serve_waits _ _ h]

theorem serve_answered {rule : SenderClass → State → Ruling} {after : ReplyCode → State → State} {c : ReplyCode}
    (ht : s.CanTake p ⟨kind, tag, b⟩ q) (hk : kind.toNat < 128)
    (hr : rule (s.senderClass p) (s.setPort p q) = (s.setPort p q).refuse c) (ha : ∀ u, after c u = u) :
    powered (fun s => s.serve p ⟨kind, tag, b⟩ rule after) s = .next (s.replying p q ⟨kind, tag, b⟩ (s.senderClass p) c []) := by
  obtain ⟨hp, htake⟩ := ht
  rw [powered_run _ hp, State.serve_taken _ _ htake, hr, State.refuse, ha, State.putReply_eq_replying _ _ _ _ _ _ hk,
    State.replying_of_setPort]

theorem serve_misfits {after : ReplyCode → State → State} (ht : s.CanTake p ⟨kind, tag, b⟩ q) (hk : kind.toNat < 128)
    (hb : parse b = none) (ha : ∀ u, after .badFormat u = u) :
    powered (fun s => s.serve p ⟨kind, tag, b⟩ (checkThenOwn fieldMay parse own b) after) s =
      .next (s.replying p q ⟨kind, tag, b⟩ (s.senderClass p) .badFormat []) :=
  serve_answered ht hk (checked_badFormat hb) ha

end Request

theorem restartAfter_of_refused {c : ReplyCode} (h : c ≠ .ok) (u : State) : restartAfter p c u = u := if_neg h

theorem eraseAfter_of_refused {c : ReplyCode} (h : c ≠ .ok) (u : State) : eraseAfter p c u = u := if_neg h

theorem taking_eq_none {f : Frame} (h : (s.port p).inProgress.isSome = true ∨ (∃ g rest, (s.port p).frames = g :: rest ∧ g ≠ f) ∨
    (s.port p).frames = [] ∧ ((s.port p).receiving ≠ [] ∨ 248 < f.body.length)) : (s.port p).taking f = none := by
  unfold Port.taking
  split
  · rfl
  · next idle =>
    obtain busy | ⟨g, rest, frames, other⟩ | ⟨frames, full⟩ := h
    · exact absurd busy idle
    · rw [frames]
      exact if_neg other
    · rw [frames]
      refine if_neg fun ⟨hunting, fits⟩ => ?_
      obtain receiving | long := full
      · exact receiving hunting
      · omega

theorem FixedRequest.waits {c : Instr} {f : Frame} {n : Nat} (h : FixedRequest p tag b c f n) (ht : (s.port p).taking f = none) :
    exec c s = .next s := by
  cases h <;> exact serve_unpowered_or_waits ht

theorem Carries.waits {c : Instr} {f : Frame} (h : Carries p tag b c f) (ht : (s.port p).taking f = none) :
    exec c s = .next s := by
  cases h with
  | fixed _ _ _ fixed => exact fixed.waits ht
  | vectorSet | alertClear => exact serve_unpowered_or_waits ht
  | unknown kind out =>
    have unknown : isRequestKind kind = false := by
      simp [isRequestKind]
      omega
    show execUnknownKind p kind tag b s = _
    unfold execUnknownKind
    simp only [unknown, Bool.false_eq_true, if_false]
    exact serve_unpowered_or_waits ht

theorem Carries.body {c : Instr} {f : Frame} (h : Carries p tag b c f) : f.body = b := by
  cases h with
  | fixed _ _ _ fixed => cases fixed <;> rfl
  | vectorSet | alertClear | unknown => rfl

theorem FixedRequest.misfits {c : Instr} {f : Frame} {n : Nat} (h : FixedRequest p tag b c f n) (hn : b.length ≠ n)
    (ht : s.CanTake p f q) : exec c s = .next (s.replying p q f (s.senderClass p) .badFormat []) := by
  cases h with
  | chainLink => exact request_answered_badFormat ht (linkBody_eq_none hn) (by decide)
  | enrol | exclude | qPool => exact request_answered_badFormat ht (twoBytes_eq_none hn) (by decide)
  | planOpen => exact request_answered_badFormat ht (openBody_eq_none hn) (by decide)
  | planEntry => exact request_answered_badFormat ht (entryBody_eq_none hn) (by decide)
  | planClose | planDrop | planLock | planUnlock | planSelect | policy | timebase | preCall | preClear | qJunction | qPlan | qMeasure =>
    exact request_answered_badFormat ht (oneByte_eq_none hn) (by decide)
  | beaconSet => exact request_answered_badFormat ht (oneHalf_eq_none hn) (by decide)
  | lineSet => exact request_answered_badFormat ht (lineBody_eq_none hn) (by decide)
  | alertEnable => exact request_answered_badFormat ht (if_neg hn) (by decide)
  | restart => exact serve_misfits ht (by decide) (noFields_eq_none hn) (restartAfter_of_refused (by decide))
  | erase => exact serve_misfits ht (by decide) (noFields_eq_none hn) (eraseAfter_of_refused (by decide))
  | start | stop | hold | resume | fallback | compute | faultClear | qStatus | qChain | qBand | qPre | qFault | qAlert =>
    exact request_answered_badFormat ht (noFields_eq_none hn) (by decide)

theorem SupervisoryRequest.forbidden {c : Instr} {f : Frame} (h : SupervisoryRequest p tag c f) (hs : s.senderClass p = .field)
    (ht : s.CanTake p f q) : exec c s = .next (s.replying p q f (s.senderClass p) .senderClass []) := by
  cases h with
  | planOpen b hb =>
    obtain ⟨o, ho⟩ := openBody_of_length hb
    exact request_answered_class ht hs ho (by decide)
  | planEntry b hb =>
    obtain ⟨o, ho⟩ := entryBody_of_length hb
    exact request_answered_class ht hs ho (by decide)
  | vectorSet v c h1 h0 n l hl =>
    obtain ⟨zs, bytes, length, -⟩ := listedBytes_of_even l n.toNat hl
    have body : vectorBody (v :: c :: h1 :: h0 :: n :: l) = some ⟨v.toNat, c, ofHalf h1 h0, zs⟩ := by
      show (match listedBytes l with | some l => _ | none => none) = _
      rw [bytes]
      exact if_pos length
    exact request_answered_class ht hs body (by decide)
  | alertEnable b hb => exact request_answered_class ht hs (if_pos hb) (by decide)
  | restart =>
    exact serve_answered ht (by decide) (by rw [hs]; exact checked_senderClass rfl) (restartAfter_of_refused (by decide))
  | erase =>
    exact serve_answered ht (by decide) (by rw [hs]; exact checked_senderClass rfl) (eraseAfter_of_refused (by decide))
  | _ => exact request_answered_class ht hs rfl (by decide)

theorem State.canTake_oldest {f : Frame} {rest : List Frame} (hp : s.powered = true) (idle : (s.port p).inProgress = none)
    (h : (s.port p).frames = f :: rest) : s.CanTake p f { s.port p with frames := rest } := by
  refine ⟨hp, ?_⟩
  rw [Port.taking, if_neg (by rw [idle]; decide), h]
  exact if_pos rfl

theorem State.canTake_arriving {f : Frame} (hp : s.powered = true) (idle : (s.port p).inProgress = none)
    (h : (s.port p).frames = []) (hunting : (s.port p).receiving = []) (fits : f.body.length ≤ 248) :
    s.CanTake p f (s.port p) := by
  refine ⟨hp, ?_⟩
  rw [Port.taking, if_neg (by rw [idle]; decide), h]
  exact if_pos ⟨hunting, fits⟩

/-- Settles O4. -/
theorem checksBeforeTheOwner : Obligations.ChecksBeforeTheOwner := by
  refine ⟨fun s p f hp idle => ⟨fun rest => State.canTake_oldest hp idle, State.canTake_arriving hp idle⟩, ?_, ?_, ?_, ?_, ?_, ?_⟩
  · intro s p tag b c f carries h
    exact carries.waits (taking_eq_none (by rw [carries.body]; exact h))
  · intro s p kind tag b known
    have request : isRequestKind kind = true := by simpa [isRequestKind] using known
    show execUnknownKind p kind tag b s = _
    unfold execUnknownKind
    simp only [request]
    cases hp : s.powered with
    | false => exact powered_off _ hp
    | true => exact powered_run _ hp
  · intro s p kind tag b q unknown ⟨hp, ht⟩
    have request : isRequestKind kind = false := by
      simp [isRequestKind]
      omega
    refine ⟨replyKind kind, replyKind_of_lt, ?_⟩
    show execUnknownKind p kind tag b s = _
    unfold execUnknownKind
    simp only [request, Bool.false_eq_true, if_false]
    refine (powered_run _ hp).trans (congrArg Host.Outcome.next ((State.serve_taken _ _ ht).trans ?_))
    cases p <;> rfl
  · intro s p tag b c f n q fixed hn ht
    exact fixed.misfits hn ht
  · exact fun s p tag b q => ⟨fun h ht => request_answered_badFormat ht (vectorBody_eq_none h) (by decide),
      fun h ht => request_answered_badFormat ht (clearBody_eq_none h) (by decide)⟩
  · intro s tag c f q supervisory key ht
    have hs : s.senderClass .field = .field := if_neg (by rw [key]; decide)
    rw [supervisory.forbidden hs ht, hs]

end Sys2Proof.Machine
end

section
/-! The reception of bytes at a port, and the port events (R177 to R179, R167). -/

namespace Sys2Proof.Machine

variable {s : State} {p : PortId} {q : Port}

/-! ### One byte -/

theorem Port.receive_full {b : Byte} (h : 256 ≤ q.held) : q.receive b = if q.receiving = [] then q else q.discard := if_pos h

theorem Port.receive_room {b : Byte} (h : q.held < 256) : q.receive b = q.collect b := if_neg (Nat.not_le.mpr h)

theorem Port.collect_hunting {b : Byte} (h : q.receiving = []) :
    q.collect b = if b = syncByte then { q with receiving := [b] } else q := by
  rw [Port.collect, h]

theorem Port.collect_length {y b : Byte} (h : q.receiving = [y]) :
    q.collect b = if 2 ≤ b.toNat ∧ b.toNat ≤ 250 then { q with receiving := [y, b] } else q.discard := by
  rw [Port.collect, h]
  rfl

theorem Port.collect_inside {y len b : Byte} {rest : List Byte} (h : q.receiving = y :: len :: rest)
    (more : rest.length + 1 ≠ len.toNat + 2) : q.collect b = { q with receiving := y :: len :: (rest ++ [b]) } := by
  rw [Port.collect, h]
  exact if_neg more

theorem Port.collect_last {y len b : Byte} {rest : List Byte} (h : q.receiving = y :: len :: rest)
    (last : rest.length + 1 = len.toNat + 2) : q.collect b = q.complete len (rest ++ [b]) := by
  rw [Port.collect, h]
  exact if_pos last

theorem judgeFrame_eq {len kind tag c1 c0 : Byte} {body : List Byte} (h : body.length + 2 = len.toNat) :
    judgeFrame len (kind :: tag :: body ++ [c1, c0]) =
      if [c1, c0] = checkBytes (len :: kind :: tag :: body) then some ⟨kind, tag, body⟩ else none := by
  have length : (kind :: tag :: body).length = len.toNat := by simpa using h
  rw [judgeFrame, ← length, List.take_left, List.drop_left]

theorem Port.complete_eq {len kind tag c1 c0 : Byte} {body : List Byte} (h : body.length + 2 = len.toNat) :
    q.complete len (kind :: tag :: body ++ [c1, c0]) =
      if [c1, c0] = checkBytes (len :: kind :: tag :: body) then
        { q with receiving := [], frames := q.frames ++ [⟨kind, tag, body⟩] }
      else q.discard := by
  rw [Port.complete, judgeFrame_eq h]
  by_cases good : [c1, c0] = checkBytes (len :: kind :: tag :: body)
  · rw [if_pos good, if_pos good]
  · rw [if_neg good, if_neg good]

/-! ### The bytes of a frame -/

theorem Port.receiveAll_append (a b : List Byte) (q : Port) : q.receiveAll (a ++ b) = (q.receiveAll a).receiveAll b :=
  List.foldl_append ..

/-- The bytes inside a frame, short of its last, are collected. -/
theorem Port.receiveAll_inside {y len : Byte} {rest : List Byte} (more : List Byte) (h : q.receiving = y :: len :: rest)
    (short : rest.length + more.length < len.toNat + 2) (room : q.held + more.length ≤ 256) :
    q.receiveAll more = { q with receiving := y :: len :: (rest ++ more) } := by
  induction more generalizing q rest with
  | nil => rw [List.append_nil, ← h]; rfl
  | cons b more ih =>
    simp only [List.length_cons] at short room
    have first : q.receive b = { q with receiving := y :: len :: (rest ++ [b]) } :=
      (Port.receive_room (by omega)).trans (Port.collect_inside h (by omega))
    have held : (q.receive b).held = q.held + 1 := by
      rw [first, Port.held, Port.held, h]
      simp
      omega
    show (q.receive b).receiveAll more = _
    rw [ih (q := q.receive b) (rest := rest ++ [b]) (by rw [first]) (by simp; omega) (by omega), first]
    simp

/-- A frame's bytes with any two check bytes, at a HUNTING port with room. -/
theorem Port.receiveAll_frame (f : Frame) (c1 c0 : Byte) (fits : f.body.length ≤ 248) (hunting : q.receiving = [])
    (room : q.held + f.body.length + 6 ≤ 256) :
    q.receiveAll (syncByte :: f.covered ++ [c1, c0]) =
      if [c1, c0] = checkBytes f.covered then { q with frames := q.frames ++ [f] } else q.discard := by
  have len : (lengthByte f.body).toNat = f.body.length + 2 := by
    rw [lengthByte, if_pos fits]
    simp [byte]
    omega
  let opened : Port := { q with receiving := [syncByte, lengthByte f.body] }
  have start : q.receiveAll [syncByte, lengthByte f.body] = opened := by
    have synced : q.receive syncByte = { q with receiving := [syncByte] } :=
      (Port.receive_room (by omega)).trans ((Port.collect_hunting hunting).trans (if_pos rfl))
    have held : (q.receive syncByte).held = q.held + 1 := by
      rw [synced, Port.held, Port.held, hunting]
      simp
    show (q.receive syncByte).receive (lengthByte f.body) = _
    rw [Port.receive_room (by omega), Port.collect_length (y := syncByte) (by rw [synced]), if_pos (by omega), synced]
  have opened_held : opened.held = q.held + 2 := by
    rw [Port.held, Port.held, hunting]
    simp [opened]
  let filled : Port := { q with receiving := syncByte :: lengthByte f.body :: (f.kind :: f.tag :: f.body ++ [c1]) }
  have inside : opened.receiveAll (f.kind :: f.tag :: f.body ++ [c1]) = filled :=
    Port.receiveAll_inside (rest := []) _ rfl (by simp; omega) (by simp; omega)
  have filled_held : filled.held < 256 := by
    have : filled.held = q.held + f.body.length + 5 := by
      rw [Port.held, Port.held, hunting]
      simp [filled]
      omega
    omega
  have split : syncByte :: f.covered ++ [c1, c0] =
      [syncByte, lengthByte f.body] ++ ((f.kind :: f.tag :: f.body ++ [c1]) ++ [c0]) := by
    simp [Frame.covered]
  rw [split, Port.receiveAll_append, start, Port.receiveAll_append, inside]
  show filled.receive c0 = _
  have last : f.kind :: f.tag :: f.body ++ [c1] ++ [c0] = f.kind :: f.tag :: f.body ++ [c1, c0] := by simp
  rw [Port.receive_room filled_held, Port.collect_last (y := syncByte) rfl (by simp; omega), last,
    Port.complete_eq (by omega)]
  by_cases good : [c1, c0] = checkBytes f.covered
  · rw [if_pos good]
    refine (if_pos good).trans ?_
    rw [← hunting]
  · rw [if_neg good]
    refine (if_neg good).trans ?_
    rfl

theorem exec_portFrame (bytes : List Byte) (hp : s.powered = true) :
    exec (.portFrame p bytes) s = .next (s.setPort p ((s.port p).receiveAll bytes)) := powered_run _ hp

theorem Port.discard_of_hunting (h : q.receiving = []) :
    q.discard = { q with errors := if q.errors < 65535 then q.errors + 1 else q.errors } := by
  rw [Port.discard, ← h]
  rfl

/-- Settles O32. -/
theorem receivedFrameIsKept : Obligations.ReceivedFrameIsKept := by
  intro s p f hp fits hunting room
  obtain ⟨c1, c0, check⟩ : ∃ c1 c0, checkBytes f.covered = [c1, c0] := ⟨_, _, rfl⟩
  have bytes : f.bytes = syncByte :: f.covered ++ [c1, c0] := by rw [Frame.bytes, check]; rfl
  rw [exec_portFrame _ hp, bytes, Port.receiveAll_frame f c1 c0 fits hunting room, if_pos check.symm]

/-- Settles O33. -/
theorem damagedFrameIsDiscarded : Obligations.DamagedFrameIsDiscarded := by
  constructor
  · intro s p f c1 c0 hp fits hunting room bad
    rw [exec_portFrame _ hp, Port.receiveAll_frame f c1 c0 fits hunting room, if_neg bad, Port.discard_of_hunting hunting]
  · intro s p hp q discarded holds
    have one (b : Byte) : exec (.portFrame p [b]) s = .next (s.setPort p (q.receive b)) := exec_portFrame _ hp
    refine ⟨?_, fun a b => ?_, fun b => ⟨fun full => ?_, fun room hunting => ?_, fun y room length => ?_,
      fun y len rest room inside more => ?_, fun y len kind tag body c1 c0 room last length => ?_⟩⟩
    · rw [exec_portFrame _ hp]
      exact congrArg Host.Outcome.next (State.setPort_port ..)
    · refine ⟨_, exec_portFrame a hp, ?_⟩
      have powered : (s.setPort p ((s.port p).receiveAll a)).powered = true := (State.setPort_powered ..).trans hp
      rw [exec_portFrame _ hp, exec_portFrame _ powered, State.port_setPort, State.setPort_setPort, Port.receiveAll_append]
    · rw [one, Port.receive_full full]
      by_cases hunting : q.receiving = []
      · rw [if_pos hunting, if_pos hunting, State.setPort_port]
      · rw [if_neg hunting, if_neg hunting]
        rfl
    · rw [one, Port.receive_room room, Port.collect_hunting hunting]
      by_cases sync : b = syncByte
      · rw [if_pos sync]
        exact congrArg Host.Outcome.next (if_pos sync).symm
      · rw [if_neg sync, State.setPort_port]
        exact congrArg Host.Outcome.next (if_neg sync).symm
    · rw [one, Port.receive_room room, Port.collect_length length]
      by_cases ok : 2 ≤ b.toNat ∧ b.toNat ≤ 250
      · rw [if_pos ok, if_pos ok]
      · rw [if_neg ok, if_neg ok]
        rfl
    · rw [one, Port.receive_room room, Port.collect_inside inside more]
      rfl
    · obtain ⟨received, rfl⟩ : q.receiving = y :: len :: (kind :: tag :: body ++ [c1]) ∧ b = c0 := by
        have split : q.receiving ++ [b] = (y :: len :: (kind :: tag :: body ++ [c1])) ++ [c0] := by simpa using last
        obtain ⟨front, back⟩ := List.append_inj' split rfl
        exact ⟨front, by simpa using back⟩
      have whole : kind :: tag :: body ++ [c1] ++ [b] = kind :: tag :: body ++ [c1, b] := by simp
      rw [one, Port.receive_room room, Port.collect_last received (by simp; omega), whole, Port.complete_eq length]
      by_cases good : [c1, b] = checkBytes (len :: kind :: tag :: body)
      · rw [if_pos good, if_pos good]
      · rw [if_neg good, if_neg good]
        rfl

/-- Settles O34. -/
theorem portEventRule : Obligations.PortEventRule := by
  intro s p hp q discarded
  refine ⟨?_, fun b => ?_, ?_⟩
  · refine (powered_run _ hp).trans (congrArg Host.Outcome.next ?_)
    rw [Port.pause]
    by_cases hunting : q.receiving = []
    · rw [if_pos hunting, if_pos hunting, State.setPort_port]
    · rw [if_neg hunting, if_neg hunting]
      rfl
  · refine (powered_run _ hp).trans (congrArg Host.Outcome.next ?_)
    by_cases room : q.held < 256
    · rw [if_neg (Nat.not_le.mpr room), if_pos (.inl room)]
    · have full : 256 ≤ q.held := Nat.not_lt.mp room
      rw [if_pos full, Port.receive_full full]
      by_cases hunting : q.receiving = []
      · rw [if_pos hunting, if_pos (.inr hunting), State.setPort_port]
      · rw [if_neg hunting, if_neg (not_or.mpr ⟨room, hunting⟩)]
        rfl
  · refine (powered_run _ hp).trans (congrArg Host.Outcome.next ?_)
    rw [State.endReply]
    show (match q.inProgress with | none => s | some r => _) = _
    cases q.inProgress with
    | none => rfl
    | some r =>
      dsimp only
      rw [State.setPort_unfinished]
      cases s.unfinished <;> rfl

end Sys2Proof.Machine
end

section
/-! The restart of the part from its store: POWER_ON, RESTART and ERASE (R168, R169), the loss of supply (R167), and the reset state. -/

namespace Sys2Proof.Machine

variable {s t u : State} {p : PortId} {q : Port}

/-! ### What a restart leaves -/

/-- The passage to ACQUIRING leaves all but the clock and the Fault and Alert Unit alone. -/
theorem State.acquireAfterRestart_keeps {α : Type} (g : State → α) (h : ∀ u k f, g ((u.setClock k).setFaults f) = g u) (u : State) :
    g u.acquireAfterRestart = g u := by
  obtain ⟨k, f, e, -⟩ := u.acquireAfterRestart_eq
  rw [e, h]

theorem State.restart_linkRec (l : LinkIx) : s.restart.linkRec l = .restarted (s.store.lengths.get l) :=
  (State.acquireAfterRestart_keeps (State.linkRec · l) (fun _ _ _ => rfl) _).trans (s.restartBlocks_linkRec l)

theorem State.restart_memGen : s.restart.memGen = 0 :=
  (State.acquireAfterRestart_keeps State.memGen (fun _ _ _ => rfl) _).trans (by simp only [State.restartBlocks])

theorem State.restart_meas : s.restart.meas = .restarted s.store :=
  (State.acquireAfterRestart_keeps State.meas (fun _ _ _ => rfl) _).trans (by simp only [State.restartBlocks])

theorem State.restart_trunk : s.restart.trunk = .restarted s.trunk.out :=
  (State.acquireAfterRestart_keeps State.trunk (fun _ _ _ => rfl) _).trans (by simp only [State.restartBlocks])

theorem State.restart_port (p : PortId) : s.restart.port p = .restarted (s.port p).out := by
  cases p with
  | centre => exact (State.acquireAfterRestart_keeps State.centre (fun _ _ _ => rfl) _).trans (by simp only [State.restartBlocks]; rfl)
  | field => exact (State.acquireAfterRestart_keeps State.field (fun _ _ _ => rfl) _).trans (by simp only [State.restartBlocks]; rfl)

theorem State.restart_powered : s.restart.powered = true :=
  (State.acquireAfterRestart_keeps State.powered (fun _ _ _ => rfl) _).trans s.restartBlocks_powered

theorem State.restart_now : s.restart.now = 0 :=
  (State.acquireAfterRestart_keeps State.now (fun _ _ _ => rfl) _).trans (by simp only [State.restartBlocks])

theorem State.acquireAfterRestart_preferReference (h : u.clock.pref = .preferReference) :
    u.acquireAfterRestart = (u.setTimebase (.acquiring 0 none) u.clock.dsLength).alert .timebase := by
  rw [State.acquireAfterRestart, h]

theorem State.acquireAfterRestart_internalOnly (h : u.clock.pref = .internalOnly) : u.acquireAfterRestart = u := by
  rw [State.acquireAfterRestart, h]

theorem State.restart_clock : s.restart.clock =
    { Clock.restarted s.store with
      tb := match s.store.pref with | .preferReference => .acquiring 0 none | .internalOnly => .internal } := by
  have start : s.restartBlocks.clock = .restarted s.store := s.restartBlocks_clock
  have pref : s.restartBlocks.clock.pref = s.store.pref := by rw [start]; rfl
  have acquiring (u : State) : ((u.setTimebase (.acquiring 0 none) u.clock.dsLength).alert .timebase).clock =
      { u.clock with tb := .acquiring 0 none } := rfl
  cases h : s.store.pref with
  | preferReference => rw [State.restart, State.acquireAfterRestart_preferReference (pref.trans h), acquiring, start]
  | internalOnly =>
    rw [State.restart, State.acquireAfterRestart_internalOnly (pref.trans h), start]
    rfl

theorem State.restart_faultUnit : s.restart.faults =
    match s.store.pref with
    | .preferReference => (FaultUnit.restarted s.store s.faults).alert .timebase
    | .internalOnly => .restarted s.store s.faults := by
  have start : s.restartBlocks.faults = .restarted s.store s.faults := s.restartBlocks_faults
  have pref : s.restartBlocks.clock.pref = s.store.pref := by rw [s.restartBlocks_clock]; rfl
  cases h : s.store.pref with
  | preferReference =>
    have acquiring (u : State) (d : Nat) : ((u.setTimebase (.acquiring 0 none) d).alert .timebase).faults =
        u.faults.alert .timebase := rfl
    rw [State.restart, State.acquireAfterRestart_preferReference (pref.trans h), acquiring, start]
  | internalOnly => rw [State.restart, State.acquireAfterRestart_internalOnly (pref.trans h), start]

theorem FaultUnit.restarted_pending (st : Store) (f : FaultUnit) (i : Fin 9) : (FaultUnit.restarted st f).pending.get i = false :=
  get_replicate ..

theorem Meas.restarted_pos (st : Store) (o : Pos) : (Meas.restarted st).pos.get o = ⟨none, none, false, 0, 0⟩ := by
  rw [Meas.restarted, get_replicate, PosMeas.restarted]

theorem Trunk.restarted_orders (out : Option TrunkFrame) (o : Pos) : (Trunk.restarted out).orders.get o = none := by
  rw [Trunk.restarted, get_replicate]

theorem Pre.restarted_causes (st : Store) (x : Pre) (v : VecIx) :
    (Pre.restarted st x).causes.get v = none ∧ (Pre.restarted st x).lastEnd.get v = none := by
  rw [Pre.restarted, get_replicate, get_replicate]
  exact ⟨rfl, rfl⟩

theorem Pre.restarted_lines (st : Store) (x : Pre) (k : LineIx) :
    (Pre.restarted st x).lines.get k = ⟨st.lines.get k, false, true, ⟨(x.lines.get k).input.high, 0, false⟩⟩ := by
  rw [Pre.restarted, get_ofFn]
  rfl

/-- A restart, from the store content and with the input levels that the state has. -/
theorem State.restartedFrom {st : Store} (hst : u.store = st) (hlines : u.pre.lines = s.pre.lines) (hctl : u.ctl = s.ctl)
    (hpending : u.pending = s.pending) : RestartedFrom st s u.restart := by
  subst hst
  have links := u.restart_linkRec
  have positions := u.restart_posRec
  have memGen := u.restart_memGen
  have plans := u.restart_plans
  have clock := u.restart_clock
  have meas := u.restart_meas
  have band := u.restart_band
  have trunk := u.restart_trunk
  have pre := u.restart_pre
  have ctl := u.restart_ctl
  have faults := u.restart_faultUnit
  have ports := State.restart_port (s := u)
  have rest : u.restart.store = u.store ∧ u.restart.unfinished = none ∧ u.restart.powered = true ∧ u.restart.now = 0 ∧
      u.restart.pending = s.pending :=
    ⟨u.restart_store, u.restart_unfinished, u.restart_powered, u.restart_now, u.restart_pending.trans hpending⟩
  generalize u.restart = t at *
  have plan : t.plan = (PlanStore.restarted u.store).header u.store.active := by
    rw [State.plan, plans]
    rfl
  exact
    { positions, links, memGen, band, rest
      slots := fun i => by rw [plans, PlanStore.slot, PlanStore.restarted, get_ofFn]; rfl
      roles := by rw [plans]; exact ⟨rfl, rfl⟩
      clock := by rw [clock, plan]; rfl
      meas := by
        refine ⟨fun o => ?_, ?_, ?_, ?_, ?_⟩
        · rw [meas, Meas.restarted_pos]
        · rw [meas, Meas.restarted]
        · rw [meas, Meas.restarted]
        · rw [meas, Meas.restarted]
        · rw [meas, plan, Meas.restarted]
      orders := fun o => by rw [trunk, Trunk.restarted_orders]
      trunk := by rw [trunk]; exact ⟨rfl, rfl, rfl, rfl, rfl, rfl, rfl, rfl⟩
      causes := fun v => by rw [pre]; exact Pre.restarted_causes u.store u.pre v
      vectors := by rw [pre]; rfl
      lines := fun k => by
        rw [pre, Pre.restarted_lines, hlines]
      master := by rw [ctl]; exact ⟨rfl, rfl, rfl⟩
      ctlLines := by rw [ctl, hctl]; exact ⟨rfl, rfl, rfl⟩
      faults := by
        rw [faults]
        cases h : u.store.pref with
        | preferReference =>
          refine ⟨rfl, rfl, rfl, rfl, fun c => ?_, ?_⟩
          · rw [Bool.eq_iff_iff, FaultUnit.alert_pending_iff, FaultUnit.restarted_pending]
            simp
          · rw [Bool.eq_iff_iff, FaultUnit.alert_waiting_iff, FaultUnit.restarted_pending]
            simp [FaultUnit.restarted]
        | internalOnly =>
          refine ⟨rfl, rfl, rfl, rfl, fun c => ?_, ?_⟩
          · rw [FaultUnit.restarted_pending]
            simp
          · simp [FaultUnit.restarted]
      ports := fun p => by rw [ports]; exact ⟨rfl, rfl, rfl, rfl⟩ }

/-! ### RESTART and ERASE -/

theorem State.endReply_putReply (s : State) (f : Frame) (cls : SenderClass) (a : Answer) :
    (s.putReply p f cls a).endReply p =
      { s.setPort p { s.port p with inProgress := none, out := some (f.replyWith a) } with
        unfinished := Unfinished.closedBy p s.unfinished } := by
  cases p <;> rfl

/-- A request that its block grants, leaving `u`, and after whose reply the part restarts. -/
theorem restarted_of_granted {f : Frame} {st : Store} (hu : u.store = st) (hlines : u.pre.lines = s.pre.lines)
    (hctl : u.ctl = s.ctl) (hpending : u.pending = s.pending) (cls : SenderClass) :
    RestartedFrom st s ((u.putReply p f cls ⟨.ok, []⟩).endReply p).restart ∧
      (((u.putReply p f cls ⟨.ok, []⟩).endReply p).restart.port p).out = some (f.replyWith ⟨.ok, []⟩) := by
  rw [State.endReply_putReply, State.restart_port]
  refine ⟨State.restartedFrom ?_ ?_ ?_ ?_, ?_⟩
  · exact (State.setPort_store ..).trans hu
  · exact (congrArg Pre.lines (State.setPort_pre ..)).trans hlines
  · exact (State.setPort_ctl ..).trans hctl
  · exact (State.setPort_pending ..).trans hpending
  · cases p <;> rfl

/-- Settles O28. -/
theorem restartRule : Obligations.RestartRule := by
  refine ⟨fun s => ⟨_, rfl, State.restartedFrom rfl rfl rfl rfl⟩, fun s p tag q ht hs => ?_⟩
  obtain ⟨hp, htake⟩ := ht
  have run : exec (.restart p tag []) s =
      .next (((s.setPort p q).putReply p ⟨27, tag, []⟩ .supervisory ⟨.ok, []⟩).endReply p).restart := by
    refine (powered_run _ hp).trans (congrArg Host.Outcome.next ?_)
    rw [State.serve_taken _ _ htake, hs, checked_own (a := ()) rfl (.inl rfl)]
    exact if_pos rfl
  obtain ⟨restarted, out⟩ := restarted_of_granted (s := s) (u := s.setPort p q) (p := p) (f := ⟨27, tag, []⟩) (State.setPort_store ..)
    (by rw [State.setPort_pre]) (State.setPort_ctl ..) (State.setPort_pending ..) .supervisory
  exact ⟨_, run, restarted, out⟩

theorem State.eraseStore_store (s : State) : (s.eraseStore p).store = Store.factory := rfl

/-- Settles O29. -/
theorem eraseAndPowerLossRule : Obligations.EraseAndPowerLossRule := by
  refine ⟨fun s p tag q ht hs => ?_, fun s torn hp => powered_run _ hp⟩
  obtain ⟨hp, htake⟩ := ht
  have run : exec (.erase p tag []) s =
      .next ((((s.setPort p q).eraseStore p).putReply p ⟨28, tag, []⟩ .supervisory ⟨.ok, []⟩).endReply p).restart := by
    refine (powered_run _ hp).trans (congrArg Host.Outcome.next ?_)
    rw [State.serve_taken _ _ htake, hs, checked_own (a := ()) rfl (.inl rfl)]
    exact if_pos rfl
  have pre : ((s.setPort p q).eraseStore p).pre = s.pre := State.setPort_pre ..
  obtain ⟨restarted, out⟩ := restarted_of_granted (s := s) (u := (s.setPort p q).eraseStore p) (p := p) (f := ⟨28, tag, []⟩)
    (State.eraseStore_store _) (by rw [pre]) (State.setPort_ctl ..) (State.setPort_pending ..) .supervisory
  exact ⟨_, run, restarted, out⟩

/-! ### The reset state -/

/-- The reset state is one that a restart leaves as it is. -/
theorem State.reset_restart : State.reset.restart = State.reset := by decide +kernel

theorem State.reset_restartedFrom : RestartedFrom Store.factory State.reset State.reset := by
  have restarted : RestartedFrom Store.factory State.reset State.reset.restart := State.restartedFrom rfl rfl rfl rfl
  rwa [State.reset_restart] at restarted

theorem State.reset_posRec (o : Pos) : State.reset.posRec o = .restarted .vacant := get_replicate ..

/-- The laws of one block and of the seeks at reset: every position rests, without owner, and no cause is active. -/
theorem State.reset_rests : FaultLaw State.reset ∧ HealthLaw State.reset ∧ HoldLaw State.reset ∧ OwnerLaw State.reset ∧
    MembersLaw State.reset ∧ InStepLaw State.reset ∧ SeekLaw State.reset ∧ OffsetLaw State.reset ∧ SnapshotLaw State.reset := by
  have noCause (v : VecIx) : State.reset.pre.causes.get v = none := get_replicate ..
  refine ⟨fun _ => rfl, fun p => ?_, fun v c h => ?_, fun p h => ?_, fun h => ?_, fun p h => ?_, fun _ p => ?_, fun _ p n h => ?_,
    fun x h => ?_⟩
  · rw [State.reset_posRec]
    exact ⟨by decide, by decide, by decide⟩
  · cases (noCause v).symm.trans h
  · rw [State.reset_posRec] at h
    cases h
  · obtain h | h := h <;> cases h
  · rw [State.reset_posRec] at h
    cases h
  · rw [State.reset_posRec]
    exact ⟨nofun, fun _ => rfl, rfl⟩
  · rw [State.reset_posRec] at h
    obtain h | h := h <;> cases h
  · cases h

theorem State.reset_causeLaw : CauseLaw State.reset :=
  Tests.cause_law (fun o => by rw [State.reset_posRec]; exact ⟨rfl, rfl⟩) (by unfold distinct; decide +kernel)
    (by unfold distinct; decide +kernel) rfl

theorem State.reset_slot_not_loading (i : SlotIx) (h : Header) (r : PortId) (es : List (Option Entry)) :
    (State.reset.plans.slot i).body ≠ .loading h r es := by
  rw [← State.reset_restart, State.restart_plans, PlanStore.restarted_slot]
  show (match (State.reset.store.slots.get i).plan with | some q => SlotBody.ready q.h q.entries | none => .empty) ≠ _
  cases (State.reset.store.slots.get i).plan <;> nofun

/-- Settles O30: the reset state is its own restart, from the factory configuration. -/
theorem resetValues : Obligations.ResetValues := by
  obtain ⟨-, plansOk, dropsOk, clockLaw, mirrorLaw, plansKept⟩ := Tests.witness_StepKeepsMirrorLaw_StepKeepsClockLaw_StepKeepsDropLaw
  obtain ⟨fault, health, hold, owner, members, inStep, seek, offset, snapshot⟩ := State.reset_rests
  have timebase : TimebaseLaw State.reset := State.reset_restart ▸ TimebaseLaw.restart State.reset
  have running : State.reset.PlansKept := State.reset_restart ▸ State.PlansKept.restart plansOk plansKept
  refine ⟨State.reset_restartedFrom, fun o => get_replicate .., fun l => get_replicate .., rfl, rfl, rfl, rfl,
    fun i h => (Store.factory_slots i).trans (if_neg (Ne.symm h)), rfl, rfl, fun v => get_replicate .., fun k => get_replicate .., rfl, fun i => get_replicate ..,
    fault, health, hold, owner, State.reset_causeLaw, members, inStep, seek, offset, snapshot, timebase, mirrorLaw, clockLaw,
    ⟨mirrorLaw, plansOk, nofun, fun _ => ⟨fun i h q es e => absurd e (State.reset_slot_not_loading i h q es), nofun⟩⟩,
    ⟨plansKept, nofun, fun _ => running⟩, mirrorLaw, dropsOk, nofun⟩

end Sys2Proof.Machine
end

section
/-! The queries (R182 to R184): each record is the one its rule writes out, and a query changes nothing but its port. -/

namespace Sys2Proof.Machine

variable {s : State} {p : PortId} {q : Port} {tag : Byte}

/-! ### Records field by field -/

/-- Two records that agree in their first fields, of which the left one has two groups, and in the rest. -/
theorem append_congr₂ {α : Type} {a b c r r' : List α} (h : a ++ b = c) (hr : r = r') : a ++ (b ++ r) = c ++ r' := by
  rw [← h, hr, List.append_assoc]

theorem append_congr {α : Type} {a c r r' : List α} (h : a = c) (hr : r = r') : a ++ r = c ++ r' := by rw [h, hr]

theorem counted_congr {α : Type} {f g : α → List Byte} (h : ∀ a, f a = g a) (l : List α) : counted f l = counted g l := by
  rw [funext h]

theorem optional_congr {α : Type} {f g : α → List Byte} (h : ∀ a, f a = g a) (x : Option α) : optional f x = optional g x := by
  rw [funext h]

theorem Health.code_eq (h : Health) : h.code = healthByte h := by cases h <;> rfl

theorem SeekState.code_eq (x : SeekState) : x.code = seekByte x := by cases x <;> rfl

theorem Dir.code_eq (d : Dir) : d.code = dirByte d := by cases d <;> rfl

theorem HoldPhase.code_eq (h : HoldPhase) : h.code = phaseByte h := by cases h <;> rfl

theorem VectorClass.code_eq (c : VectorClass) : c.code = classByte c := by cases c <;> rfl

theorem FaultKind.code_eq (k : FaultKind) : k.code = kindByte k := by cases k <;> rfl

theorem activeCode_eq (b : Bool) : activeCode b = flag b := by cases b <;> rfl

theorem Enrolment.bytes_eq (e : Enrolment) : e.bytes = enrolmentFields e := by
  cases e with
  | vacant | enrolled => rfl
  | excluded d c => cases c <;> rfl

theorem Completion.bytes_eq (x : Completion) : x.bytes = outcomeFields x := by
  unfold Completion.bytes outcomeFields
  cases x.verdict with
  | accepted | refused => rfl
  | stale c => cases c <;> rfl

/-- The same, with three groups on the left and two on the right. -/
theorem append_congr₃ {α : Type} {a b c d e r r' : List α} (h : a ++ (b ++ c) = d ++ e) (hr : r = r') :
    a ++ (b ++ (c ++ r)) = d ++ (e ++ r') := by
  rw [← List.append_assoc d, ← h, hr]
  simp only [List.append_assoc]

/-- The same, with three groups on the left and one on the right. -/
theorem append_congr₃₁ {α : Type} {a b c d r r' : List α} (h : a ++ (b ++ c) = d) (hr : r = r') : a ++ (b ++ (c ++ r)) = d ++ r' := by
  rw [← h, hr]
  simp only [List.append_assoc]

theorem State.statusRecord_eq (s : State) : s.statusRecord = s.statusFields := by
  delta State.statusFields
  simp only [State.statusRecord, State.masterGroup, State.timingGroup, State.planGroup, State.computationGroup,
    State.trunkGroup, List.append_assoc]
  refine append_congr₂ ?_ (append_congr ?_ (append_congr₃ ?_ ?_))
  · cases s.ctl.master with
    | detached r => cases r <;> rfl
    | _ => rfl
  · simp only [activeCode_eq]
    cases s.ctl.policy <;> rfl
  · cases s.clock.pref <;> cases s.clock.tb <;> rfl
  iterate 4 refine append_congr rfl ?_
  refine append_congr rfl (append_congr ?_ (append_congr rfl (append_congr rfl (append_congr ?_ (append_congr ?_ ?_)))))
  · rw [State.pendingTag]
    cases s.plans.pendingSlot <;> rfl
  · rw [Dir.code_eq]
  · cases s.band.inFlight <;> rfl
  refine append_congr rfl (append_congr (optional_congr Completion.bytes_eq _) (append_congr rfl (append_congr rfl
    (append_congr rfl (append_congr rfl (append_congr ?_ rfl))))))
  cases s.trunk.exchange with
  | none => rfl
  | some x => cases h : x.kind <;> simp only [optional, h] <;> rfl

theorem State.chainRecord_eq (s : State) : s.chainRecord = s.chainFields := by
  simp only [State.chainRecord, State.chainFields, Enrolment.bytes_eq, Health.code_eq, SeekState.code_eq]
  rfl

theorem State.junctionRecord_eq (s : State) (p : Pos) : s.junctionRecord p = s.junctionFields p := by
  delta State.junctionFields
  simp only [State.junctionRecord, PosRec.seekBytes, Enrolment.bytes_eq, Health.code_eq, SeekState.code_eq, List.append_assoc]
  refine append_congr rfl (append_congr rfl (append_congr rfl (append_congr₂ ?_ (append_congr ?_ (append_congr ?_
    (append_congr rfl (append_congr ?_ (append_congr rfl (append_congr rfl (append_congr ?_ rfl))))))))))
  · cases (s.posRec p).travel with
    | none => rfl
    | some x => cases h : x.dir <;> simp only [optional, h] <;> rfl
  · cases (s.posRec p).mode <;> rfl
  · cases (s.posRec p).tagSeen <;> rfl
  · cases (s.posRec p).seek with
    | suspended r => cases r <;> rfl
    | _ => rfl
  · cases (s.posRec p).sent <;> rfl

theorem Header.bytes_eq (h : Header) : h.bytes = headerFields h := by
  delta headerFields
  simp only [Header.bytes, Dir.code_eq, List.append_assoc]
  refine append_congr rfl (append_congr ?_ rfl)
  cases h.mode <;> rfl

theorem State.planRecord_eq (s : State) (i : SlotIx) : s.planRecord i = s.planFields i := by
  delta State.planFields
  simp only [State.planRecord, flag, decide_eq_true_eq]
  cases (s.plans.slot i).body with
  | empty => rfl
  | loading h r es =>
    simp only [SlotBody.bytes, Header.bytes_eq, writtenCount, List.countP_eq_length_filter]
    cases r <;> rfl
  | ready h es =>
    simp only [SlotBody.bytes, Header.bytes_eq]
    rfl

theorem Measure.bytes_eq (m : Measure) : m.bytes = measureFields m := by
  delta measureFields
  simp only [Measure.bytes, List.append_assoc]
  cases m.quality <;> rfl

theorem queueBytes_eq (q : Option QueueRec) :
    queueBytes q = match q with | none => [0] | some y => [1, byte y.value] ++ half y.round.toNat := by
  cases q <;> rfl

theorem State.measureRecord_eq (s : State) (l : LinkIx) {p q : Pos} (hp : p.val = l.val) (hq : q.val = l.val + 1) :
    s.measureRecord l = s.linkFields l p q := by
  obtain rfl : p = linkNear l := Fin.ext hp
  obtain rfl : q = linkFar l := Fin.ext hq
  delta State.linkFields
  simp only [State.measureRecord, Measure.bytes_eq, PosMeas.bytes, Header.linkTimes, Dir.code_eq, List.append_assoc]
  refine append_congr rfl (append_congr rfl (append_congr rfl ?_))
  have queue (x : Option QueueRec) (r : List Byte) : queueBytes x ++ r =
      (match x with | none => [0] | some y => [1, byte y.value] ++ half y.round.toNat) ++ r := by
    cases x <;> rfl
  split <;> simp only [List.append_assoc] <;> iterate 4 refine append_congr rfl ?_
  all_goals
    iterate 4 refine append_congr (queueBytes_eq _) ?_
    rfl

theorem BandRecord.bytes_eq (b : BandRecord) : b.bytes = half b.number.toNat ++ [byte b.slot.val, b.gen] ++ half b.c ++
    half b.memGen.toNat ++ half b.startCycle.toNat ++ [dirByte b.dir] ++ half b.w ++ half b.origin ++ half b.counterBand ++
    optional half b.counterStart ++ [flag b.degraded] ++
    counted (fun e => [byte (e.pos.val + 1)] ++ half e.target ++ signed e.slide ++ half e.lead ++ half e.slack) b.entries := by
  rw [BandRecord.bytes, Dir.code_eq, counted_congr fun e => ?_]
  · rfl
  · simp only [BandEntry.bytes, List.append_assoc]
    rfl

theorem State.bandRecord_eq (s : State) : s.bandRecord = s.bandFields := by
  delta State.bandFields
  simp only [State.bandRecord]
  cases s.band.last with
  | none =>
    refine congrArg (· ++ [0]) ?_
    simp only [List.append_assoc]
    refine append_congr ?_ (append_congr rfl (append_congr rfl (append_congr (optional_congr Completion.bytes_eq _) rfl)))
    cases s.band.inFlight <;> rfl
  | some b =>
    simp only [optional, BandRecord.bytes_eq, List.append_assoc]
    refine append_congr ?_ (append_congr rfl (append_congr rfl (append_congr (optional_congr Completion.bytes_eq _) rfl)))
    cases s.band.inFlight <;> rfl

theorem Order.bytes_eq (o : Order) : o.bytes =
    match o with
    | .preempt v c h => [0, 1, byte v.val, classByte c, phaseByte h]
    | .release => [1, 0] := by
  cases o with
  | preempt v c h => rw [Order.bytes, VectorClass.code_eq, HoldPhase.code_eq]; rfl
  | release => rfl

theorem State.preRecord_eq (s : State) : s.preRecord = s.preFields := by
  delta State.preFields
  simp only [State.preRecord, List.append_assoc]
  refine append_congr ?_ (append_congr ?_ (append_congr rfl ?_))
  · refine congrArg (List.flatMap · allVectors) (funext fun v => ?_)
    simp only [State.vectorBytes, VectorClass.code_eq, List.append_assoc]
    refine append_congr rfl (append_congr rfl (append_congr (counted_congr (fun z => by rw [Seizure.bytes, HoldPhase.code_eq]; rfl) _) ?_))
    refine append_congr₃₁ ?_ ?_
    · cases s.pre.causes.get v with
      | none => rfl
      | some x => cases h : x.source <;> simp only [optional, h] <;> rfl
    · cases s.pre.lastEnd.get v with
      | none => rfl
      | some r => cases r <;> rfl
  · refine congrArg (List.flatMap · allLines) (funext fun k => ?_)
    simp only [PLine.bytes, activeCode_eq]
    cases (s.pre.lines.get k).cfg.polarity <;> rfl
  · refine (counted_congr (fun x => ?_) _).trans rfl
    rw [orderEntryBytes, Order.bytes_eq]
    rfl

theorem FaultInfo.fields_eq (i : FaultInfo) : [i.kind.code] ++ (optional (fun p => [posByte p]) i.position ++
    (optional (fun x => [byte (linkNum x.1), Dir.code x.2]) i.link ++
      (optional (fun v => [vectorByte v]) i.vector ++ optional (fun c => [c]) i.causeCode))) =
    match i with
    | .junctionLost p => [0, 1, byte (p.val + 1), 0, 0, 0]
    | .poisonUsed l d => [1, 0, 1, byte (l.val + 1), dirByte d, 0, 0]
    | .bandRefused l d => [2, 0, 1, byte (l.val + 1), dirByte d, 0, 0]
    | .holdExpired v => [3, 0, 0, 1, byte v.val, 0]
    | .referenceLost .interval => [4, 0, 0, 0, 1, 0]
    | .referenceLost .silence => [4, 0, 0, 0, 1, 1]
    | .preemptUndelivered p none => [5, 1, byte (p.val + 1), 0, 0, 0]
    | .preemptUndelivered p (some v) => [5, 1, byte (p.val + 1), 0, 1, byte v.val, 0]
    | .fallbackEntered .request => [6, 0, 0, 0, 1, 0]
    | .fallbackEntered (.lost p) => [6, 1, byte (p.val + 1), 0, 0, 1, 1]
    | .fallbackEntered .membership => [6, 0, 0, 0, 1, 2] := by
  cases i with
  | poisonUsed l d | bandRefused l d => cases d <;> rfl
  | referenceLost c => cases c <;> rfl
  | preemptUndelivered p v => cases v <;> rfl
  | fallbackEntered c => cases c <;> rfl
  | junctionLost | holdExpired => rfl

theorem State.faultRecord_eq (s : State) : s.faultRecord = s.faultFields := by
  delta State.faultFields
  rw [State.faultRecord]
  refine append_congr ?_ (counted_congr (fun k => by rw [FaultKind.code_eq]) _)
  cases s.faults.first with
  | none => rfl
  | some r =>
    simp only [optional, FaultRecord.bytes, List.append_assoc]
    refine congrArg (1 :: ·) ?_
    have fields := congrArg (· ++ (half r.cycleNo.toNat ++ half r.cyclePos)) r.info.fields_eq
    simp only [List.append_assoc] at fields
    exact fields

theorem AlertClass.flatMap_all (f : Fin 9 → List Byte) : AlertClass.all.flatMap (fun c => f c.ix) = (List.finRange 9).flatMap f := by
  have numbers : AlertClass.all.map (·.ix) = List.finRange 9 := by decide
  rw [← numbers, List.flatMap_map]

theorem State.alertRecord_eq (s : State) : s.alertRecord =
    ((List.finRange 9).flatMap fun i =>
      [if s.faults.pending.get i then 1 else 0, if s.faults.enabled.get i then 1 else 0]) ++
      [if s.faults.waiting then 1 else 0, s.faults.seq] := by
  rw [← AlertClass.flatMap_all]
  rfl

/-! ### The pool -/

/-- The run of slot `i` holds pool entry `e`. -/
def PlanStore.RunHolds (ps : PlanStore) (i : SlotIx) (e : Nat) : Prop :=
  (ps.slot i).body ≠ .empty ∧ (ps.header i).base ≤ e ∧ e < (ps.header i).base + (ps.header i).count

theorem PlanStore.runHolds_iff {ps : PlanStore} {i : SlotIx} {e : Nat} :
    (match (ps.slot i).body.run with | some r => r.holds e | none => false) = true ↔ ps.RunHolds i e := by
  unfold PlanStore.RunHolds PlanStore.header
  cases (ps.slot i).body with
  | empty => simp [SlotBody.run]
  | loading h r es => simp [SlotBody.run, SlotBody.header, PoolRun.holds]
  | ready h es => simp [SlotBody.run, SlotBody.header, PoolRun.holds]

theorem PlanStore.poolOwner_none {ps : PlanStore} {e : Nat} (h : ∀ i, ¬ps.RunHolds i e) : ps.poolOwner e = none :=
  List.find?_eq_none.mpr fun i _ held => h i (PlanStore.runHolds_iff.mp held)

theorem PlanStore.poolOwner_some {ps : PlanStore} {e : Nat} {i : SlotIx} (h : ps.RunHolds i e) (unique : ∀ j, ps.RunHolds j e → j = i) :
    ps.poolOwner e = some i := by
  have found : (ps.poolOwner e).isSome = true := List.find?_isSome.mpr ⟨i, mem_allSlots i, PlanStore.runHolds_iff.mpr h⟩
  obtain ⟨j, hj⟩ := Option.isSome_iff_exists.mp found
  have held := List.find?_some hj
  rw [hj, unique j (PlanStore.runHolds_iff.mp held)]

theorem Entry.bytes_eq (x : Entry) :
    x.bytes = [byte x.position] ++ half x.inb.s ++ half x.inb.e ++ half x.outb.s ++ half x.outb.e := by
  simp only [Entry.bytes, windowPair, List.append_assoc]
  rfl

theorem State.poolFields_poolEntry (s : State) (e : Nat) : s.PoolFields e (s.plans.poolEntry e) := by
  refine ⟨fun none => ?_, fun i held unique => ⟨fun h es hb => ?_, fun h r es hb => ?_⟩⟩
  · rw [PlanStore.poolEntry, PlanStore.poolOwner_none none]
    rfl
  · rw [PlanStore.poolEntry, PlanStore.poolOwner_some held unique]
    simp only [PlanStore.header, hb, SlotBody.header, SlotBody.poolBytes]
    cases es[e - h.base]? with
    | none => rfl
    | some x => simp only [optional, Entry.bytes_eq]; rfl
  · rw [PlanStore.poolEntry, PlanStore.poolOwner_some held unique]
    simp only [PlanStore.header, hb, SlotBody.header, SlotBody.poolBytes]
    cases es[e - h.base]? with
    | none => rfl
    | some x =>
      cases x with
      | none => rfl
      | some x => simp only [Entry.bytes_eq]; rfl

/-! ### The replies -/

theorem Port.errors_of_taking {f : Frame} {q q' : Port} (h : q.taking f = some q') : q'.errors = q.errors := by
  unfold Port.taking at h
  split at h
  · cases h
  split at h
  · split at h <;> cases h
    rfl
  · split at h <;> cases h
    rfl

/-- Q-STATUS reads the error counts of the ports, which the taking of a frame leaves alone. -/
theorem State.statusRecord_setPort (h : q.errors = (s.port p).errors) : (s.setPort p q).statusRecord = s.statusRecord := by
  cases p with
  | centre =>
    have errors : q.errors = s.centre.errors := h
    show _ ++ half q.errors ++ _ = _ ++ half s.centre.errors ++ _
    rw [errors]
    rfl
  | field =>
    have errors : q.errors = s.field.errors := h
    show _ ++ half q.errors = _ ++ half s.field.errors
    rw [errors]
    rfl

theorem counted_replicate {α : Type} (f : α → List Byte) (l : List α) (n : Byte) (h : l.length = n.toNat) :
    counted f l = n :: (l.map f).flatten := by
  have count : byte l.length = n := by
    rw [h]
    simp [byte]
  rw [counted, count, List.flatMap_def]

/-- A query without a body whose record reads no port. -/
theorem query_answered {kind : Byte} {record : State → List Byte} (ht : s.CanTake p ⟨kind, tag, []⟩ q) (hk : kind.toNat < 128)
    (hr : record (s.setPort p q) = record s) :
    powered (State.request p kind true noFields (fun _ s => s.grant (record s)) tag []) s =
      .next (s.replying p q ⟨kind, tag, []⟩ (s.senderClass p) .ok (record s)) :=
  request_answered (own := fun _ s => s.grant (record s)) (a := ()) ht (.inr rfl) rfl hk (by rw [State.grant, hr])

/-- A query that names a thing. -/
theorem namedQuery_answered {kind a : Byte} {α : Type} {find : Nat → Option α} {x : α} {record : State → α → List Byte}
    (ht : s.CanTake p ⟨kind, tag, [a]⟩ q) (hk : kind.toNat < 128) (hf : find a.toNat = some x)
    (hr : record (s.setPort p q) x = record s x) :
    powered (State.request p kind true oneByte (State.ruleNamed find record) tag [a]) s =
      .next (s.replying p q ⟨kind, tag, [a]⟩ (s.senderClass p) .ok (record s x)) :=
  request_answered (own := State.ruleNamed find record) (a := a.toNat) ht (.inr rfl) rfl hk
    (by rw [State.ruleNamed, hf]; show State.grant _ _ = _; rw [State.grant, hr])

theorem namedQuery_refused {kind a : Byte} {α : Type} {find : Nat → Option α} {record : State → α → List Byte}
    (ht : s.CanTake p ⟨kind, tag, [a]⟩ q) (hk : kind.toNat < 128) (hf : find a.toNat = none) :
    powered (State.request p kind true oneByte (State.ruleNamed find record) tag [a]) s =
      .next (s.replying p q ⟨kind, tag, [a]⟩ (s.senderClass p) .badValue []) :=
  request_answered (own := State.ruleNamed find record) (a := a.toNat) ht (.inr rfl) rfl hk
    (by rw [State.ruleNamed, hf]; rfl)

theorem Query.answered {c : Instr} {f : Frame} {record : State → List Byte} (h : Query p tag c f record) (ht : s.CanTake p f q) :
    exec c s = .next (s.replying p q f (s.senderClass p) .ok (record s)) := by
  cases h with
  | status =>
    rw [← State.statusRecord_eq]
    exact query_answered ht (by decide) (State.statusRecord_setPort (Port.errors_of_taking ht.2))
  | chain =>
    rw [← State.chainRecord_eq]
    exact query_answered ht (by decide) (by cases p <;> rfl)
  | junction a o ho =>
    beta_reduce
    rw [← State.junctionRecord_eq]
    exact namedQuery_answered (record := State.junctionRecord) ht (by decide) (posOf_named ho) (by cases p <;> rfl)
  | plan a i hi =>
    beta_reduce
    rw [← State.planRecord_eq]
    exact namedQuery_answered (record := State.planRecord) ht (by decide) (slotOf_named hi) (by cases p <;> rfl)
  | measure a l o u hl ho hu =>
    beta_reduce
    rw [← State.measureRecord_eq s l ho hu]
    exact namedQuery_answered (record := State.measureRecord) ht (by decide) (linkOf_named hl) (by cases p <;> rfl)
  | band =>
    rw [← State.bandRecord_eq]
    exact query_answered ht (by decide) (by cases p <;> rfl)
  | pre =>
    rw [← State.preRecord_eq]
    exact query_answered ht (by decide) (by cases p <;> rfl)
  | fault =>
    rw [← State.faultRecord_eq]
    exact query_answered ht (by decide) (by cases p <;> rfl)
  | alert =>
    beta_reduce
    rw [← State.alertRecord_eq]
    exact query_answered ht (by decide) (by cases p <;> rfl)

theorem EmptyQuery.refused {c : Instr} {f : Frame} (h : EmptyQuery p tag c f) (ht : s.CanTake p f q) :
    exec c s = .next (s.replying p q f (s.senderClass p) .badValue []) := by
  cases h with
  | junction a ha => exact namedQuery_refused ht (by decide) (posOf_unnamed (by omega))
  | plan a ha => exact namedQuery_refused ht (by decide) (slotOf_unnamed ha)
  | measure a ha => exact namedQuery_refused ht (by decide) (linkOf_unnamed (by omega))
  | pool a n hn =>
    refine request_answered (own := State.ruleQPool) (a := (a.toNat, n.toNat)) ht (.inr rfl) rfl (by decide) ?_
    rw [State.ruleQPool]
    exact if_pos (by show n.toNat < 1 ∨ 16 < n.toNat ∨ 256 < a.toNat + n.toNat; omega)

/-- Settles O31. -/
theorem queryRule : Obligations.QueryRule := by
  refine ⟨fun s p tag c f q ht => ⟨fun record query => query.answered ht, fun empty => empty.refused ht⟩, ?_⟩
  intro s p tag a n q ht ⟨least, most, inPool⟩
  refine ⟨(List.range n.toNat).map fun i => s.plans.poolEntry (a.toNat + i), by simp, ?_, fun i hi => ?_⟩
  · refine request_answered (own := State.ruleQPool) (a := (a.toNat, n.toNat)) ht (.inr rfl) rfl (by decide) ?_
    rw [State.ruleQPool, ← counted_replicate _ _ n (by simp)]
    refine (if_neg (by show ¬(n.toNat < 1 ∨ 16 < n.toNat ∨ 256 < a.toNat + n.toNat); omega)).trans ?_
    rw [State.grant, State.poolRecord, State.setPort_plans]
  · have entry : ((List.range n.toNat).map fun i => s.plans.poolEntry (a.toNat + i)).getD i [] = s.plans.poolEntry (a.toNat + i) := by
      simp [List.getD_eq_getElem?_getD, hi]
    rw [entry]
    exact s.poolFields_poolEntry _

end Sys2Proof.Machine
end

section
/-! REF pulses and the silence limit (R40 to R42). -/

namespace Sys2Proof.Machine

variable {s : State} {time : Nat}

theorem goodInterval_iff {n : Nat} : goodInterval n = true ↔ 990 ≤ n ∧ n ≤ 1010 := decide_eq_true_iff

theorem exec_refPulse (hp : s.powered = true) :
    exec (.refPulse time) s = .next ((s.at time).refPulseAt (max s.now time)) := powered_run _ hp

theorem exec_silenceLimit (hp : s.powered = true) :
    exec (.silenceLimit time) s = .next ((s.at time).silenceAt (max s.now time)) := powered_run _ hp

theorem State.refPulseAt_internal {t : Nat} (h : s.clock.tb = .internal) : s.refPulseAt t = s := by
  rw [State.refPulseAt, h]

theorem State.refPulseAt_acquiring {t n : Nat} {prev : Option Nat} (h : s.clock.tb = .acquiring n prev) :
    s.refPulseAt t = s.pulseAcquiring n prev t := by
  rw [State.refPulseAt, h]

theorem State.refPulseAt_reference {t prev last : Nat} (h : s.clock.tb = .reference prev last) :
    s.refPulseAt t = if 990 ≤ t - prev ∧ t - prev ≤ 1010 then s.setTimebase (.reference t (t - prev)) (t - prev)
      else s.referenceLoss .interval (some t) := by
  rw [State.refPulseAt, h]
  exact if_congr goodInterval_iff rfl rfl

theorem State.pulseAcquiring_good {t n prev : Nat} (h : 990 ≤ t - prev ∧ t - prev ≤ 1010) :
    s.pulseAcquiring n (some prev) t = if n + 1 = 8 then (s.setTimebase (.reference t (t - prev)) (t - prev)).alert .timebase
      else s.setTimebase (.acquiring (n + 1) (some t)) s.clock.dsLength :=
  if_pos (goodInterval_iff.mpr h)

theorem State.pulseAcquiring_bad {t n prev : Nat} (h : ¬(990 ≤ t - prev ∧ t - prev ≤ 1010)) :
    s.pulseAcquiring n (some prev) t = s.setTimebase (.acquiring 0 (some t)) s.clock.dsLength :=
  if_neg (mt goodInterval_iff.mp h)

theorem State.silenceAt_reference {t prev last : Nat} (h : s.clock.tb = .reference prev last) :
    s.silenceAt t = if prev + 1500 ≤ t then s.referenceLoss .silence none else s := by
  rw [State.silenceAt, h]

theorem State.silenceAt_elsewhere {t : Nat} (h : ∀ prev last, s.clock.tb ≠ .reference prev last) : s.silenceAt t = s := by
  unfold State.silenceAt
  split
  · next prev last e => exact absurd e (h prev last)
  all_goals rfl

/-- Settles O39. -/
theorem referenceRule : Obligations.ReferenceRule := by
  intro s time hp now moved lost good
  have lost_eq (cause : RefCause) (prev : Option Nat) : (s.at time).referenceLoss cause prev = lost cause prev := by
    unfold State.referenceLoss
    show (match s.clock.pref with | .internalOnly => _ | .preferReference => _) = _
    cases e : s.clock.pref with
    | internalOnly => simp only [lost, e]; rfl
    | preferReference => simp only [lost, e]; rfl
  refine ⟨fun tb => ?_, fun n tb => ?_, fun n prev tb => ⟨fun bad => ?_, fun ok other => ?_, fun ok last => ?_⟩,
    fun prev last tb => ⟨fun ok => ?_, fun bad => ?_, ?_⟩, fun tb => ?_⟩
  · rw [exec_refPulse hp, State.refPulseAt_internal (s := s.at time) tb]
    rfl
  · rw [exec_refPulse hp, State.refPulseAt_acquiring (s := s.at time) tb]
    rfl
  · rw [exec_refPulse hp, State.refPulseAt_acquiring (s := s.at time) tb, State.pulseAcquiring_bad bad]
    rfl
  · rw [exec_refPulse hp, State.refPulseAt_acquiring (s := s.at time) tb, State.pulseAcquiring_good ok, if_neg (by omega)]
    rfl
  · rw [exec_refPulse hp, State.refPulseAt_acquiring (s := s.at time) tb, State.pulseAcquiring_good ok, if_pos (by omega)]
    rfl
  · rw [exec_refPulse hp, State.refPulseAt_reference (s := s.at time) tb, if_pos ok]
    rfl
  · rw [exec_refPulse hp, State.refPulseAt_reference (s := s.at time) tb, if_neg bad, lost_eq]
  · rw [exec_silenceLimit hp, State.silenceAt_reference (s := s.at time) tb, lost_eq]
    rfl
  · rw [exec_silenceLimit hp, State.silenceAt_elsewhere (s := s.at time) tb]
    rfl

end Sys2Proof.Machine
end

section
/-! The counter direction of a computation (R84 to R87): the longest run of a common set, the greedy slide, and what the band record
holds of both. -/

namespace Sys2Proof.Machine

/-! ### The first of the best -/

/-- Of a best so far and a further candidate, the one of larger value, the first of equals. -/
def keepBest {α : Type} (f : α → Nat) (best : Option α) (x : α) : Option α :=
  match best with
  | none => some x
  | some b => if f b < f x then some x else some b

theorem keepBest_map {α β : Type} (f : β → Nat) (g : α → β) (best : Option α) (x : α) :
    keepBest f (best.map g) (g x) = (keepBest (fun a => f (g a)) best x).map g := by
  cases best with
  | none => rfl
  | some b =>
    show (if f (g b) < f (g x) then some (g x) else some (g b)) = Option.map g (if f (g b) < f (g x) then some x else some b)
    split <;> rfl

theorem foldl_keepBest_map {α β : Type} (f : β → Nat) (g : α → β) (l : List α) (best : Option α) :
    (l.map g).foldl (keepBest f) (best.map g) = (l.foldl (keepBest fun a => f (g a)) best).map g := by
  induction l generalizing best with
  | nil => rfl
  | cons x l ih =>
    rw [List.map_cons, List.foldl_cons, keepBest_map, ih]
    rfl

/-- In a list ordered by `R` the first of the best is found. -/
theorem foldl_keepBest_some {α : Type} {R : α → α → Prop} (f : α → Nat) (l : List α) (b : α) (h : (b :: l).Pairwise R) :
    ∃ m, m ∈ b :: l ∧ l.foldl (keepBest f) (some b) = some m ∧ (m = b ∨ f b < f m) ∧
      ∀ x, x ∈ b :: l → f x < f m ∨ f x = f m ∧ (x = m ∨ R m x) := by
  induction l generalizing b with
  | nil => exact ⟨b, by simp, rfl, .inl rfl, fun x hx => .inr (by simp at hx; simp [hx])⟩
  | cons y l ih =>
    rw [List.foldl_cons]
    by_cases better : f b < f y
    · obtain ⟨m, hm, fold, atLeast, best⟩ := ih y (List.Pairwise.of_cons h)
      have less : f b < f m := by
        obtain rfl | less := atLeast
        · exact better
        · omega
      refine ⟨m, List.mem_cons_of_mem b hm, by rw [keepBest, if_pos better, fold], .inr less, fun x hx => ?_⟩
      obtain rfl | hx := List.mem_cons.mp hx
      · exact .inl less
      · exact best x hx
    · have sub : (b :: l).Pairwise R := h.sublist (by simp)
      obtain ⟨m, hm, fold, atLeast, best⟩ := ih b sub
      have up : m ∈ b :: y :: l := by
        obtain rfl | hm := List.mem_cons.mp hm
        · simp
        · simp [hm]
      refine ⟨m, up, by rw [keepBest, if_neg better, fold], atLeast, fun x hx => ?_⟩
      obtain rfl | hx := List.mem_cons.mp hx
      · exact best x (by simp)
      obtain rfl | hx := List.mem_cons.mp hx
      · obtain rfl | less := atLeast
        · obtain less | same := Nat.lt_or_eq_of_le (Nat.not_lt.mp better)
          · exact .inl less
          · exact .inr ⟨same, .inr (List.rel_of_pairwise_cons h (by simp))⟩
        · exact .inl (by omega)
      · exact best x (by simp [hx])

theorem foldl_keepBest {α : Type} {R : α → α → Prop} (f : α → Nat) {l : List α} (hl : l ≠ []) (h : l.Pairwise R) :
    ∃ m, m ∈ l ∧ l.foldl (keepBest f) none = some m ∧ ∀ x, x ∈ l → f x < f m ∨ f x = f m ∧ (x = m ∨ R m x) := by
  cases l with
  | nil => exact absurd rfl hl
  | cons b l =>
    obtain ⟨m, hm, fold, -, best⟩ := foldl_keepBest_some f l b h
    exact ⟨m, hm, fold, best⟩

/-! ### Runs -/

theorem Run.longer_eq : Run.longer = keepBest Run.length := by
  funext best r
  cases best <;> rfl

section Runs

variable {mem : Nat → Bool} {c t : Nat}

theorem runLength_spec (fuel t : Nat) : runLength mem c fuel t ≤ fuel ∧
    (∀ i, i < runLength mem c fuel t → mem ((t + i) % c) = true) ∧
    (runLength mem c fuel t < fuel → mem ((t + runLength mem c fuel t) % c) = false) := by
  induction fuel generalizing t with
  | zero => exact ⟨le_rfl, by simp [runLength], by simp⟩
  | succ fuel ih =>
    rw [runLength]
    by_cases h : mem (t % c) = true
    · obtain ⟨le, members, whole⟩ := ih (t + 1)
      rw [if_pos h]
      refine ⟨by omega, fun i hi => ?_, fun lt => ?_⟩
      · cases i with
        | zero => exact h
        | succ i => rw [← Nat.add_assoc, Nat.add_right_comm]; exact members i (by omega)
      · rw [← Nat.add_assoc, Nat.add_right_comm]
        exact whole (by omega)
    · rw [if_neg h]
      exact ⟨Nat.zero_le _, by simp, fun _ => by simpa using h⟩

theorem isRunStart_iff : isRunStart mem c t = true ↔ mem t = true ∧ mem ((t + c - 1) % c) = false := by
  simp [isRunStart]

/-- The runs of a common set are those that start at a run start and reach as far as its members do. -/
theorem runAt_iff (ht : t < c) {b : Nat} :
    RunAt (mem · = true) c t b ↔ isRunStart mem c t = true ∧ b = runLength mem c c t := by
  obtain ⟨le, members, whole⟩ := runLength_spec (mem := mem) (c := c) c t
  have before : t + c - 1 = t + (c - 1) := by omega
  rw [isRunStart_iff]
  constructor
  · rintro ⟨-, some, first, inRun, ends⟩
    have start := inRun 0 (by omega)
    rw [Nat.add_zero, Nat.mod_eq_of_lt ht] at start
    have short : b < c := by
      by_contra long
      exact first (before ▸ inRun (c - 1) (by omega))
    refine ⟨⟨start, by simpa using first⟩, ?_⟩
    obtain less | same | more := Nat.lt_trichotomy b (runLength mem c c t)
    · exact absurd (members b less) ends
    · exact same
    · rw [inRun _ more] at whole
      cases whole (by omega)
  · rintro ⟨⟨start, first⟩, rfl⟩
    have short : runLength mem c c t < c := by
      by_contra long
      have last := members (c - 1) (by omega)
      rw [← before, first] at last
      cases last
    refine ⟨ht, ?_, by simp [first], members, by simp [whole short]⟩
    by_contra none
    have zero : runLength mem c c t = 0 := by omega
    rw [zero, Nat.add_zero, Nat.mod_eq_of_lt ht, start] at whole
    cases whole (by omega)

theorem pred_mod {x : Nat} (hc : 0 < c) (hx : 0 < x) : (x % c + c - 1) % c = (x - 1) % c := by
  have split : x % c + c - 1 = x % c + (c - 1) := by omega
  have back : x + (c - 1) = x - 1 + c := by omega
  rw [split, Nat.mod_add_mod, back, Nat.add_mod_right]

/-- A set that has a member but is not the whole cycle has a run. -/
theorem exists_runStart (hc : 0 < c) {u : Nat} (ht : t < c) (on : mem t = true) (off : mem (u % c) = false) :
    ∃ r, r < c ∧ isRunStart mem c r = true := by
  have some : ∃ i, mem ((u + i) % c) = true := by
    refine ⟨t + c * u - u, ?_⟩
    have : u ≤ c * u := Nat.le_mul_of_pos_left u hc
    have back : u + (t + c * u - u) = t + c * u := by omega
    rw [back, Nat.add_mul_mod_self_left, Nat.mod_eq_of_lt ht, on]
  classical
  have first := Nat.find_spec some
  have positive : 0 < Nat.find some := by
    by_contra zero
    have : Nat.find some = 0 := by omega
    rw [this, Nat.add_zero, off] at first
    cases first
  refine ⟨(u + Nat.find some) % c, Nat.mod_lt _ hc, isRunStart_iff.mpr ⟨first, ?_⟩⟩
  rw [pred_mod hc (by omega), Nat.add_sub_assoc positive]
  simpa using Nat.find_min some (m := Nat.find some - 1) (by omega)

/-- The longest run of a set that is not the whole cycle (R85). -/
theorem longestRun_spec (hc : 0 < c) {u : Nat} (off : mem (u % c) = false) :
    PartialBand (mem · = true) c (bandLength (longestRun mem c)) ((longestRun mem c).map Run.start) := by
  let starts := (List.range c).filter (isRunStart mem c)
  have fold : longestRun mem c = (starts.foldl (keepBest fun t => runLength mem c c t) none).map fun t =>
      ⟨runLength mem c c t, t⟩ := by
    rw [← foldl_keepBest_map Run.length (fun t => ⟨runLength mem c c t, t⟩) starts none, List.foldl_map, ← Run.longer_eq]
    rfl
  have mem_starts (t : Nat) : t ∈ starts ↔ t < c ∧ isRunStart mem c t = true := by simp [starts]
  by_cases empty : starts = []
  · refine .inl ⟨fun t ht on => ?_, by rw [fold, empty]; rfl, by rw [fold, empty]; rfl⟩
    obtain ⟨r, hr, start⟩ := exists_runStart hc ht on off
    have found := (mem_starts r).mpr ⟨hr, start⟩
    rw [empty] at found
    cases found
  · have ascending : starts.Pairwise (· < ·) := List.pairwise_lt_range.filter _
    obtain ⟨m, hm, found, best⟩ := foldl_keepBest (fun t => runLength mem c c t) empty ascending
    obtain ⟨inCycle, start⟩ := (mem_starts m).mp hm
    rw [fold, found]
    refine .inr ⟨m, rfl, (runAt_iff inCycle).mpr ⟨start, rfl⟩, fun t b run => ?_⟩
    obtain ⟨start', rfl⟩ := (runAt_iff run.inCycle).mp run
    obtain less | ⟨same, here⟩ := best t ((mem_starts t).mpr ⟨run.inCycle, start'⟩)
    · exact .inl less
    · refine .inr ⟨same, ?_⟩
      obtain rfl | lt := here
      · exact le_rfl
      · exact lt.le

end Runs

/-- The partial band of a set is one number. -/
theorem PartialBand.unique {mem : Nat → Prop} {c b b' : Nat} {start start' : Option Nat} (h : PartialBand mem c b start)
    (h' : PartialBand mem c b' start') : b = b' := by
  have clash {t b : Nat} (none : ∀ t, t < c → ¬mem t) (run : RunAt mem c t b) : False := by
    have first := run.members 0 run.some
    exact none _ (Nat.mod_lt _ (Nat.zero_lt_of_lt run.inCycle)) first
  obtain ⟨none, rfl, -⟩ | ⟨t, -, run, most⟩ := h
  · obtain ⟨-, rfl, -⟩ | ⟨t', -, run', -⟩ := h'
    · rfl
    · exact (clash none run').elim
  · obtain ⟨none, -, -⟩ | ⟨t', -, run', most'⟩ := h'
    · exact (clash none run).elim
    · have := most t' b' run'
      have := most' t b run
      omega

end Sys2Proof.Machine
end

section
/-! The greedy slide and the band record (R83 to R87, R92). -/

namespace Sys2Proof.Machine

/-! ### The slide -/

/-- A position with the shift of so many slide steps. -/
def chosenOf (step : Nat) (y : CounterRow × Nat) : Chosen := ⟨y.1, -((y.2 * step : Nat) : Int)⟩

theorem inCommon_iff {c step t : Nat} {l : List (CounterRow × Nat)} :
    inCommon c (l.map (chosenOf step)) t = true ↔ Common c step l t := by
  rw [inCommon, List.all_eq_true, List.forall_mem_map]
  refine forall₂_congr fun y _ => ?_
  rw [CounterRow.admits, decide_eq_true_eq, chosenOf]
  have same : ((t : Int) + y.1.arrival) - ((y.1.theta : Int) + -((y.2 * step : Nat) : Int) + y.1.start) =
      (t + y.1.arrival : Nat) - ((y.1.theta : Int) - (y.2 * step : Nat) + y.1.start) := by omega
  rw [same]

/-- The partial band of some positions with their slide steps. -/
def bandOf (c step : Nat) (l : List (CounterRow × Nat)) : Nat :=
  bandLength (longestRun (inCommon c (l.map (chosenOf step))) c)

/-- The stage in which these positions have these slide steps. -/
def stageOf (c step : Nat) (l : List (CounterRow × Nat)) : Stage :=
  ⟨l.map (chosenOf step), longestRun (inCommon c (l.map (chosenOf step))) c⟩

theorem Stage.better_eq : Stage.better = keepBest fun st => bandLength st.run := by
  funext best st
  cases best <;> rfl

theorem Stage.extend_eq {c step k : Nat} {st : Stage} {l : List (CounterRow × Nat)} (h : st.chosen = l.map (chosenOf step))
    (row : CounterRow) : st.extend c row (-((k * step : Nat) : Int)) = stageOf c step (l ++ [(row, k)]) := by
  simp only [Stage.extend, stageOf, h, List.map_append]
  rfl

/-- One position takes, of the multiples of the slide step down to its slack, the first of largest partial band (R86). -/
theorem Stage.next_spec {c step : Nat} {st : Stage} {l : List (CounterRow × Nat)} (h : st.chosen = l.map (chosenOf step))
    (row : CounterRow) : ∃ k, k * step ≤ row.slack ∧ st.next c step row = stageOf c step (l ++ [(row, k)]) ∧
      ∀ n, 0 < step → n * step ≤ row.slack →
        bandOf c step (l ++ [(row, n)]) < bandOf c step (l ++ [(row, k)]) ∨
          bandOf c step (l ++ [(row, n)]) = bandOf c step (l ++ [(row, k)]) ∧ k ≤ n := by
  let stages := List.range (row.slack / step + 1)
  let stage := fun k => stageOf c step (l ++ [(row, k)])
  obtain ⟨k, hk, found, best⟩ := foldl_keepBest (l := stages) (R := (· < ·)) (fun k => bandLength (stage k).run) (by simp [stages])
    List.pairwise_lt_range
  have within : k * step ≤ row.slack := by
    have : k ≤ row.slack / step := by simpa [stages, Nat.lt_succ_iff] using hk
    exact (Nat.mul_le_mul_right step this).trans (Nat.div_mul_le_self ..)
  refine ⟨k, within, ?_, fun n hs hn => ?_⟩
  · have all : (candidates step row.slack).map (st.extend c row) = stages.map stage := by
      rw [candidates, List.map_map]
      exact List.map_congr_left fun i _ => Stage.extend_eq h row
    rw [Stage.next, all, Stage.better_eq, ← Option.map_none (f := stage), foldl_keepBest_map, found]
    rfl
  · have candidate : n ∈ stages := by
      simp only [stages, List.mem_range, Nat.lt_succ_iff]
      exact (Nat.le_div_iff_mul_le hs).mpr hn
    obtain less | ⟨same, here⟩ := best n candidate
    · exact .inl less
    · refine .inr ⟨same, ?_⟩
      obtain rfl | lt := here
      · exact le_rfl
      · exact lt.le

/-- The greedy slide over `rows` ends in stage `st` with these slide steps: each position's choice is the first of largest partial band
with the choices before it (R86). -/
structure Slides (c step : Nat) (rows : List CounterRow) (steps : List Nat) (st : Stage) : Prop where
  length : steps.length = rows.length
  chosen : st.chosen = (rows.zip steps).map (chosenOf step)
  run : rows ≠ [] → st = stageOf c step (rows.zip steps)
  best : ∀ (j : Nat) (row : CounterRow) (k : Nat), (rows.zip steps)[j]? = some (row, k) → k * step ≤ row.slack ∧
    ∀ n, 0 < step → n * step ≤ row.slack →
      bandOf c step ((rows.zip steps).take j ++ [(row, n)]) < bandOf c step ((rows.zip steps).take j ++ [(row, k)]) ∨
        bandOf c step ((rows.zip steps).take j ++ [(row, n)]) = bandOf c step ((rows.zip steps).take j ++ [(row, k)]) ∧ k ≤ n

theorem exists_slides (c step : Nat) (rows : List CounterRow) : ∃ steps, Slides c step rows steps (slideAll c step rows) := by
  induction rows using List.reverseRecOn with
  | nil => exact ⟨[], ⟨rfl, rfl, fun h => absurd rfl h, fun j row k h => by simp at h⟩⟩
  | append_singleton rows row ih =>
    obtain ⟨steps, length, chosen, -, best⟩ := ih
    obtain ⟨k, within, next, first⟩ := Stage.next_spec (c := c) chosen row
    have zip : (rows ++ [row]).zip (steps ++ [k]) = rows.zip steps ++ [(row, k)] := List.zip_append length.symm
    have slid : slideAll c step (rows ++ [row]) = stageOf c step (rows.zip steps ++ [(row, k)]) := by
      rw [slideAll, List.foldl_append]
      exact next
    refine ⟨steps ++ [k], ⟨by simp [length], by rw [slid, zip]; rfl, fun _ => by rw [slid, zip], fun j r m h => ?_⟩⟩
    rw [zip] at h ⊢
    obtain earlier | last := Nat.lt_or_ge j (rows.zip steps).length
    · rw [List.getElem?_append_left earlier] at h
      rw [List.take_append_of_le_length earlier.le]
      exact best j r m h
    · rw [List.getElem?_append_right last] at h
      have here : j - (rows.zip steps).length = 0 := by
        by_contra more
        rw [List.getElem?_eq_none (by rw [List.length_singleton]; omega)] at h
        cases h
      rw [here] at h
      cases h
      have whole : (rows.zip steps ++ [(row, k)]).take j = rows.zip steps := by
        rw [show j = (rows.zip steps).length by omega]
        exact List.take_left
      rw [whole]
      exact ⟨within, first⟩

/-! ### The common set -/

theorem modC_nonneg_lt {a : Int} {c : Nat} (hc : 0 < c) : (modC a c : Int) = a % (c : Int) ∧ modC a c < c := by
  have low : 0 ≤ a % (c : Int) := Int.emod_nonneg _ (by omega)
  have high : a % (c : Int) < c := Int.emod_lt_of_pos _ (by omega)
  unfold modC
  omega

/-- The admissible departures of a position are not the whole cycle (R84). -/
theorem exists_inadmissible {c step : Nat} {l : List (CounterRow × Nat)} {y : CounterRow × Nat} (hc : 0 < c) (hy : y ∈ l)
    (green : y.1.green < c) : ∃ u, inCommon c (l.map (chosenOf step)) (u % c) = false := by
  let shift : Int := ((y.1.theta : Int) - (y.2 * step : Nat) + y.1.start) - y.1.arrival
  refine ⟨modC (y.1.green + shift) c, ?_⟩
  rw [← Bool.not_eq_true, inCommon_iff]
  intro common
  have admitted := common y hy
  have lands := (modC_nonneg_lt (a := y.1.green + shift) hc).1
  have within := (modC_nonneg_lt (a := y.1.green + shift) hc).2
  rw [Nat.mod_eq_of_lt within] at admitted
  have phase : ((modC (y.1.green + shift) c + y.1.arrival : Nat) : Int) -
      ((y.1.theta : Int) - (y.2 * step : Nat) + y.1.start) = (y.1.green + shift) % (c : Int) - shift := by
    rw [← lands]
    simp only [shift]
    push_cast
    ring
  rw [phase] at admitted
  have same : modC ((y.1.green + shift) % (c : Int) - shift) c = y.1.green := by
    unfold modC
    rw [Int.emod_sub_emod, Int.add_sub_cancel, Int.emod_eq_of_lt (by omega) (by omega)]
    rfl
  omega

/-- A run of the common set is no longer than the green of any of its positions (R84, R85). -/
theorem RunAt.le_green {c step t b : Nat} {l : List (CounterRow × Nat)} {y : CounterRow × Nat} (h : RunAt (Common c step l) c t b)
    (hy : y ∈ l) (green : y.1.green < c) : b ≤ y.1.green := by
  have hc : 0 < c := Nat.zero_lt_of_lt h.inCycle
  by_contra long
  let shift : Int := y.1.arrival - ((y.1.theta : Int) - (y.2 * step : Nat) + y.1.start)
  have phase (i : Nat) (hi : i < b) : ((t + i : Nat) + shift) % (c : Int) < y.1.green := by
    have admitted := h.members i hi y hy
    have e : (((t + i) % c + y.1.arrival : Nat) : Int) - ((y.1.theta : Int) - (y.2 * step : Nat) + y.1.start) =
        ((t + i : Nat) : Int) % (c : Int) + shift := by
      simp only [shift]
      push_cast
      ring
    rw [e] at admitted
    have value := (modC_nonneg_lt (a := ((t + i : Nat) : Int) % (c : Int) + shift) hc).1
    rw [Int.emod_add_emod] at value
    omega
  have first := phase 0 (by omega)
  let v := ((t : Int) + shift) % (c : Int)
  have low : 0 ≤ v := Int.emod_nonneg _ (by omega)
  have small : v < y.1.green := by simpa using first
  have later := phase (y.1.green - v.toNat) (by omega)
  have e : ((t + (y.1.green - v.toNat) : Nat) + shift) % (c : Int) = y.1.green := by
    have add : ((t + (y.1.green - v.toNat) : Nat) : Int) + shift = (t + shift) + (y.1.green - v) := by
      push_cast
      omega
    rw [add, ← Int.emod_add_emod]
    show (v + (y.1.green - v)) % (c : Int) = _
    rw [show v + ((y.1.green : Int) - v) = y.1.green by omega, Int.emod_eq_of_lt (by omega) (by omega)]
  omega

end Sys2Proof.Machine
end

section
/-! The rows of the counter stages, the band record and the peak band under any slides (R81 to R87, R92). -/

namespace Sys2Proof.Machine

/-! ### Arrivals -/

theorem sum_filter_map {α : Type} (p : α → Bool) (f : α → Nat) (l : List α) :
    ((l.filter p).map f).sum = (l.map fun a => if p a = true then f a else 0).sum := by
  induction l with
  | nil => rfl
  | cons a l ih => by_cases h : p a = true <;> simp [h, ih]

theorem Computation.segmentValue_eq (x : Computation) (d : Dir) (a b : Pos) : segmentValue x.travel d a b = x.between d a b := by
  rw [segmentValue, sum_filter_map, Computation.between]
  refine congrArg List.sum (List.map_congr_left fun v _ => ?_)
  exact if_congr (by simp) (by cases d <;> rfl) rfl

theorem arrivals_length (tv : List TravelValue) (d : Dir) (acc : Nat) (l : List SnapPos) :
    (arrivals tv d acc l).length = l.length := by
  induction l generalizing acc with
  | nil => rfl
  | cons x l ih =>
    cases l with
    | nil => rfl
    | cons y l => simp [arrivals, ih]

theorem arrivals_first (tv : List TravelValue) (d : Dir) (acc : Nat) (l : List SnapPos) {a : Nat}
    (h : (arrivals tv d acc l)[0]? = some a) : a = acc := by
  cases l with
  | nil => cases h
  | cons x l => cases l <;> exact (Option.some.inj h).symm

theorem arrivals_next (tv : List TravelValue) (d : Dir) (acc : Nat) (l : List SnapPos) (j : Nat) {y z : SnapPos} {a b : Nat}
    (hy : l[j]? = some y) (hz : l[j + 1]? = some z) (ha : (arrivals tv d acc l)[j]? = some a)
    (hb : (arrivals tv d acc l)[j + 1]? = some b) : b = a + segmentValue tv d y.pos z.pos := by
  induction l generalizing acc j with
  | nil => cases hy
  | cons x l ih =>
    cases l with
    | nil => simp at hz
    | cons w l =>
      cases j with
      | zero =>
        obtain rfl : x = y := Option.some.inj hy
        obtain rfl : w = z := Option.some.inj hz
        obtain rfl : acc = a := Option.some.inj ha
        exact arrivals_first tv d _ (w :: l) hb
      | succ j => exact ih _ j hy hz ha hb

theorem Computation.arrive (x : Computation) (d : Dir) (l : List SnapPos) : x.Arrive d l (arrivals x.travel d 0 l) :=
  ⟨arrivals_length .., fun _ h => arrivals_first _ _ _ _ h,
    fun j y z _ _ hy hz ha hb => (arrivals_next _ _ _ _ j hy hz ha hb).trans (by rw [x.segmentValue_eq])⟩

/-! ### The rows -/

theorem Snapshot.rowOf_eq (n : Snapshot) (y : SnapPos) (a b : Nat) :
    n.rowOf y a b = ⟨y.pos, n.peakOffset y a, n.lead y, n.slack y, y.counter.s, n.counterGreen y, b⟩ := by
  have lead : (if modC ((y.peak.e : Int) - y.peak.s) n.c / 2 < y.queue * n.headway then modC ((y.peak.e : Int) - y.peak.s) n.c / 2
      else y.queue * n.headway) = n.lead y := (n.lead_eq_ite y).symm
  simp only [Snapshot.rowOf, lead]
  rfl

theorem reverse_zip_map {α β γ δ : Type} (f : α → β → γ) (l : List α) (as : List β) (bs : List δ) (ha : as.length = l.length)
    (hb : bs.length = l.length) : l.reverse.zip (((l.zip as).map fun x => f x.1 x.2).reverse.zip bs) =
      (l.reverse.zip (as.reverse.zip bs)).map fun x => (x.1, f x.1 x.2.1, x.2.2) := by
  refine List.ext_getElem (by simp [ha, hb]) fun i h h' => ?_
  simp [ha]

/-- The counter rows, with the arrivals of both directions (R81 to R84). -/
theorem Snapshot.counterRows_eq (n : Snapshot) (tv : List TravelValue) : n.counterRows tv =
    (n.peakOrder.reverse.zip ((arrivals tv n.dir 0 n.peakOrder).reverse.zip
      (arrivals tv n.dir.reverse 0 n.peakOrder.reverse))).map fun y => n.rowOf y.1 y.2.1 y.2.2 := by
  have zipped := reverse_zip_map n.peakOffset n.peakOrder (arrivals tv n.dir 0 n.peakOrder)
    (arrivals tv n.dir.reverse 0 n.peakOrder.reverse) (arrivals_length ..) (by rw [arrivals_length, List.length_reverse])
  rw [Snapshot.counterRows]
  rw [zipped, List.map_map]
  exact List.map_congr_left fun y _ => (n.rowOf_eq ..).symm

theorem Snapshot.mem_peakOrder {n : Snapshot} {y : SnapPos} : y ∈ n.peakOrder ↔ y ∈ n.positions := by
  unfold Snapshot.peakOrder
  cases n.dir <;> simp

theorem Snapshot.counterRows_length (n : Snapshot) (tv : List TravelValue) : (n.counterRows tv).length = n.peakOrder.length := by
  rw [Snapshot.counterRows_eq]
  simp [arrivals_length]

/-- Each position with its peak arrival has its row. -/
theorem Snapshot.exists_row {n : Snapshot} {tv : List TravelValue} {y : SnapPos} {a : Nat}
    (h : (y, a) ∈ n.peakOrder.zip (arrivals tv n.dir 0 n.peakOrder)) : ∃ b, n.rowOf y a b ∈ n.counterRows tv := by
  obtain ⟨i, hi, e⟩ := List.getElem_of_mem h
  rw [List.getElem_zip, Prod.mk.injEq] at e
  obtain ⟨hy, ha⟩ := e
  have small : i < n.peakOrder.length := by
    rw [List.length_zip] at hi
    omega
  have index : n.peakOrder.length - 1 - i < (n.counterRows tv).length := by
    rw [n.counterRows_length tv]
    omega
  refine ⟨(arrivals tv n.dir.reverse 0 n.peakOrder.reverse)[n.peakOrder.length - 1 - i]'(by
    rw [arrivals_length, List.length_reverse]; omega), ?_⟩
  refine List.mem_of_getElem (h := index) ?_
  have back : n.peakOrder.length - 1 - (n.peakOrder.length - 1 - i) = i := by omega
  simp only [n.counterRows_eq tv, List.getElem_map, List.getElem_zip, List.getElem_reverse, arrivals_length, back, hy, ha]

theorem Snapshot.counterRows_pos (n : Snapshot) (tv : List TravelValue) :
    (n.counterRows tv).map (·.pos) = n.peakOrder.reverse.map (·.pos) := by
  rw [Snapshot.counterRows_eq, List.map_map]
  refine List.ext_getElem (by simp [arrivals_length]) fun i h h' => ?_
  simp [Snapshot.rowOf]

theorem Snapshot.counterRows_green {n : Snapshot} {tv : List TravelValue} {row : CounterRow} (hc : 0 < n.c)
    (h : row ∈ n.counterRows tv) : row.green < n.c := by
  rw [Snapshot.counterRows_eq] at h
  obtain ⟨y, -, rfl⟩ := List.mem_map.mp h
  exact (modC_nonneg_lt hc).2

/-! ### The record -/

/-- The entry of a row under so many slide steps (R87, R92). -/
def CounterRow.entry (c step : Nat) (y : CounterRow × Nat) : BandEntry :=
  { pos := y.1.pos, target := modC ((y.1.theta : Int) - (y.2 * step : Nat)) c, slide := -((y.2 * step : Nat) : Int)
    lead := y.1.lead, slack := y.1.slack }

theorem Chosen.entry_chosenOf (c step : Nat) (y : CounterRow × Nat) : (chosenOf step y).entry c = CounterRow.entry c step y := rfl

theorem Computation.record_entries {x : Computation} {steps : List Nat}
    (h : Slides x.snap.c x.snap.slideStep (x.snap.counterRows x.travel) steps
      (slideAll x.snap.c x.snap.slideStep (x.snap.counterRows x.travel))) :
    x.record.entries =
      match x.snap.dir with
      | .inbound => ((x.snap.counterRows x.travel).zip steps).map (CounterRow.entry x.snap.c x.snap.slideStep)
      | .outbound => (((x.snap.counterRows x.travel).zip steps).map (CounterRow.entry x.snap.c x.snap.slideStep)).reverse := by
  have entries : (slideAll x.snap.c x.snap.slideStep (x.snap.counterRows x.travel)).chosen.map (Chosen.entry x.snap.c) =
      ((x.snap.counterRows x.travel).zip steps).map (CounterRow.entry x.snap.c x.snap.slideStep) := by
    rw [h.chosen, List.map_map]
    exact List.map_congr_left fun y _ => Chosen.entry_chosenOf ..
  rw [← entries]
  rfl

theorem Computation.mem_record_entries {x : Computation} {steps : List Nat}
    (h : Slides x.snap.c x.snap.slideStep (x.snap.counterRows x.travel) steps
      (slideAll x.snap.c x.snap.slideStep (x.snap.counterRows x.travel))) {e : BandEntry} :
    e ∈ x.record.entries ↔ ∃ y, y ∈ (x.snap.counterRows x.travel).zip steps ∧ CounterRow.entry x.snap.c x.snap.slideStep y = e := by
  rw [Computation.record_entries h]
  cases x.snap.dir <;> simp

/-- A row and its slide steps, from the row. -/
theorem Slides.exists_steps {c step : Nat} {rows : List CounterRow} {steps : List Nat} {st : Stage} (h : Slides c step rows steps st)
    {row : CounterRow} (hr : row ∈ rows) : ∃ k, (row, k) ∈ rows.zip steps := by
  obtain ⟨i, hi, rfl⟩ := List.getElem_of_mem hr
  have hs : i < steps.length := h.length.symm ▸ hi
  refine ⟨steps[i], ?_⟩
  rw [← List.getElem_zip (h := by rw [List.length_zip]; omega)]
  exact List.getElem_mem _

theorem Slides.within {c step : Nat} {rows : List CounterRow} {steps : List Nat} {st : Stage} (h : Slides c step rows steps st)
    {y : CounterRow × Nat} (hy : y ∈ rows.zip steps) : y.2 * step ≤ y.1.slack := by
  obtain ⟨j, hj⟩ := List.mem_iff_getElem?.mp hy
  exact (h.best j y.1 y.2 hj).1

/-- The record holds one entry for each position of the snapshot, in its order (R87, R92). -/
theorem Computation.record_positions (x : Computation) : x.record.entries.map (·.pos) = x.snap.positions.map (·.pos) := by
  obtain ⟨steps, slides⟩ := exists_slides x.snap.c x.snap.slideStep (x.snap.counterRows x.travel)
  have zipped : (((x.snap.counterRows x.travel).zip steps).map (CounterRow.entry x.snap.c x.snap.slideStep)).map (·.pos) =
      x.snap.peakOrder.reverse.map (·.pos) := by
    rw [List.map_map, ← x.snap.counterRows_pos x.travel, ← List.map_fst_zip (l₂ := steps) slides.length.ge, List.map_map]
    simp only [List.map_fst_zip slides.length.ge]
    rfl
  rw [Computation.record_entries slides]
  unfold Snapshot.peakOrder at zipped
  cases h : x.snap.dir with
  | inbound =>
    rw [h] at zipped
    simpa using zipped
  | outbound =>
    rw [h] at zipped
    have back := congrArg List.reverse zipped
    simpa [List.map_reverse] using back

/-- Settles O60: a final target is the peak offset less the slide, so a departure of the peak band meets the position at its phase in the
peak green plus the queue lead and the slide; the slide is at most the slack that the usable green leaves. -/
theorem slidesKeepThePeakBand : Obligations.SlidesKeepThePeakBand := by
  intro x hc greens y a hya
  obtain ⟨steps, slides⟩ := exists_slides x.snap.c x.snap.slideStep (x.snap.counterRows x.travel)
  obtain ⟨b, hrow⟩ := Snapshot.exists_row hya
  obtain ⟨k, hk⟩ := slides.exists_steps hrow
  have within := slides.within hk
  rw [Snapshot.rowOf_eq] at hk within
  refine ⟨_, (Computation.mem_record_entries slides).mpr ⟨_, hk, rfl⟩, rfl, rfl, fun u hu => ?_⟩
  intro phase
  have hy : y ∈ x.snap.positions := Snapshot.mem_peakOrder.mp (List.of_mem_zip hya).1
  have band : x.snap.peakBand ≤ x.snap.usable y := Snapshot.peakBand_le_usable hy
  have lead := x.snap.lead_le_half y
  have green := greens y hy
  have early : u < x.snap.peakBand := hu
  have slide : k * x.snap.slideStep ≤ x.snap.usable y - x.snap.peakBand := within
  have usable : x.snap.usable y = x.snap.peakGreen y - x.snap.lead y := rfl
  let place : Int := u + x.snap.lead y + (k * x.snap.slideStep : Nat)
  have small : place < x.snap.c := by omega
  have value : (phase : Int) = place := by
    have theta := (modC_nonneg_lt (a := (x.snap.origin : Int) + a - x.snap.lead y - y.peak.s) hc).1
    have target := (modC_nonneg_lt (a := ((x.snap.peakOffset y a : Nat) : Int) - (k * x.snap.slideStep : Nat)) hc).1
    refine (modC_nonneg_lt hc).1.trans ?_
    show (((x.snap.origin + u + a : Nat) : Int) - ((modC ((x.snap.peakOffset y a : Int) - (k * x.snap.slideStep : Nat)) x.snap.c : Nat) +
      (y.peak.s : Int))) % (x.snap.c : Int) = place
    have offset : (x.snap.peakOffset y a : Int) = ((x.snap.origin : Int) + a - x.snap.lead y - y.peak.s) % (x.snap.c : Int) := theta
    rw [target, offset, Int.emod_sub_emod, ← Int.sub_sub, sub_right_comm, Int.sub_emod_emod]
    have e : ((x.snap.origin + u + a : Nat) : Int) - y.peak.s -
        ((x.snap.origin : Int) + a - x.snap.lead y - y.peak.s - (k * x.snap.slideStep : Nat)) = place := by
      simp only [place]
      push_cast
      ring
    rw [e, Int.emod_eq_of_lt (by omega) small]
  omega

/-! ### The partial bands -/

/-- The partial band of positions whose greens leave some of the cycle out (R85). -/
theorem bandOf_partialBand {c step : Nat} {l : List (CounterRow × Nat)} (hc : 0 < c) (hl : l ≠ [])
    (greens : ∀ y, y ∈ l → y.1.green < c) :
    PartialBand (Common c step l) c (bandOf c step l) ((stageOf c step l).run.map Run.start) := by
  obtain ⟨y, hy⟩ := List.exists_mem_of_ne_nil l hl
  obtain ⟨u, off⟩ := exists_inadmissible (step := step) hc hy (greens y hy)
  have common : Common c step l = fun t => inCommon c (l.map (chosenOf step)) t = true :=
    funext fun t => propext inCommon_iff.symm
  rw [common]
  exact longestRun_spec hc off

/-- Settles O59. -/
theorem slideAndCounterBandLaw : Obligations.SlideAndCounterBandLaw := by
  intro x hc hstep
  obtain ⟨steps, slides⟩ := exists_slides x.snap.c x.snap.slideStep (x.snap.counterRows x.travel)
  have greens (y : CounterRow × Nat) (hy : y ∈ (x.snap.counterRows x.travel).zip steps) : y.1.green < x.snap.c :=
    Snapshot.counterRows_green hc (List.of_mem_zip hy).1
  have whole (h : x.snap.counterRows x.travel ≠ []) :
      PartialBand (Common x.snap.c x.snap.slideStep ((x.snap.counterRows x.travel).zip steps)) x.snap.c x.record.counterBand
        x.record.counterStart := by
    have nonempty : (x.snap.counterRows x.travel).zip steps ≠ [] := by
      rw [ne_eq, ← List.length_eq_zero_iff, List.length_zip, slides.length, min_self, List.length_eq_zero_iff]
      exact h
    have band := bandOf_partialBand (step := x.snap.slideStep) hc nonempty greens
    have stage := slides.run h
    have length : x.record.counterBand = bandOf x.snap.c x.snap.slideStep ((x.snap.counterRows x.travel).zip steps) := by
      show bandLength (slideAll x.snap.c x.snap.slideStep (x.snap.counterRows x.travel)).run = _
      rw [stage]
      rfl
    have start : x.record.counterStart =
        (stageOf x.snap.c x.snap.slideStep ((x.snap.counterRows x.travel).zip steps)).run.map Run.start := by
      show (slideAll x.snap.c x.snap.slideStep (x.snap.counterRows x.travel)).run.map Run.start = _
      rw [stage]
    rw [length, start]
    exact band
  refine ⟨fun e he => ?_, fun y hy => ?_, ?_, ⟨rfl, rfl, rfl, rfl, rfl, rfl, rfl, rfl, rfl, ?_⟩, ?_⟩
  · obtain ⟨y, hy, rfl⟩ := (Computation.mem_record_entries slides).mp he
    exact ⟨(modC_nonneg_lt hc).2, y.2, rfl, slides.within hy⟩
  · obtain ⟨a, hya⟩ : ∃ a, (y, a) ∈ x.snap.peakOrder.zip (arrivals x.travel x.snap.dir 0 x.snap.peakOrder) := by
      obtain ⟨i, hi, rfl⟩ := List.getElem_of_mem (Snapshot.mem_peakOrder.mpr hy)
      refine ⟨(arrivals x.travel x.snap.dir 0 x.snap.peakOrder)[i]'(by rw [arrivals_length]; exact hi), ?_⟩
      rw [← List.getElem_zip (h := by rw [List.length_zip, arrivals_length]; omega)]
      exact List.getElem_mem _
    obtain ⟨b, hrow⟩ := Snapshot.exists_row hya
    obtain ⟨k, hk⟩ := slides.exists_steps hrow
    obtain ⟨-, zero, -⟩ | ⟨t, -, run, -⟩ := whole (List.ne_nil_of_mem hrow)
    · rw [zero]
      exact Nat.zero_le _
    · have le := run.le_green hk (greens _ hk)
      rw [Snapshot.rowOf_eq] at le
      exact le
  · exact x.record_positions
  · show (!x.poisoned.isEmpty) = true ↔ _
    simp
  · intro peak back
    refine ⟨arrivals x.travel x.snap.dir 0 peak, arrivals x.travel back 0 peak.reverse, steps, x.arrive .., x.arrive .., ?_⟩
    intro rows
    have rows_eq : rows = x.snap.counterRows x.travel := (x.snap.counterRows_eq x.travel).symm
    clear_value rows
    subst rows_eq
    refine ⟨slides.length, Computation.record_entries slides, whole, fun j row k h => ?_⟩
    intro before stage
    obtain ⟨within, best⟩ := slides.best j row k h
    have row_green : row.green < x.snap.c := greens (row, k) (List.mem_of_getElem? h)
    have band (n : Nat) : PartialBand (stage n) x.snap.c (bandOf x.snap.c x.snap.slideStep (before ++ [(row, n)]))
        ((stageOf x.snap.c x.snap.slideStep (before ++ [(row, n)])).run.map Run.start) := by
      refine bandOf_partialBand hc (by simp) fun y hy => ?_
      obtain hy | hy := List.mem_append.mp hy
      · exact greens y (List.mem_of_mem_take hy)
      · obtain rfl : y = (row, n) := by simpa using hy
        exact row_green
    refine ⟨within, _, _, band k, fun n b' start' hn h' => ?_⟩
    rw [h'.unique (band n)]
    exact best n hstep hn

end Sys2Proof.Machine
end

section
/-! What the events of the Transition Unit and of the Preemption Unit tell the Fault and Alert Unit (R115, R143, R148), and what of the
trunk they leave alone. -/

namespace Sys2Proof.Machine

variable {s t u : State}

/-! ### Positions that enter IN_STEP -/

/-- Every IN_STEP position stays IN_STEP. -/
def State.Stays (s t : State) : Prop := ∀ o, (s.posRec o).seek = .inStep → (t.posRec o).seek = .inStep

theorem State.Stays.trans (h : s.Stays t) (k : t.Stays u) : s.Stays u := fun o ho => k o (h o ho)

theorem State.Stays.of_seek (h : ∀ o, (t.posRec o).seek = (s.posRec o).seek) : s.Stays t := fun o ho => (h o).trans ho

theorem EntersStep.congr {s' t' : State} (hs : ∀ o, (s'.posRec o).seek = (s.posRec o).seek)
    (ht : ∀ o, (t'.posRec o).seek = (t.posRec o).seek) : EntersStep s' t' ↔ EntersStep s t := by
  simp only [EntersStep, hs, ht]

theorem EntersStep.not_of_seek (h : ∀ o, (t.posRec o).seek = (s.posRec o).seek) : ¬EntersStep s t :=
  fun ⟨o, ho, hn⟩ => hn ((h o).symm.trans ho)

/-- Over two changes the entries add up, when no position enters IN_STEP and leaves it again, or leaves it and enters again. -/
theorem EntersStep.trans_iff
    (h : ∀ o, (u.posRec o).seek = .inStep → (s.posRec o).seek = .inStep → (t.posRec o).seek = .inStep)
    (k : ∀ o, (t.posRec o).seek = .inStep → (s.posRec o).seek ≠ .inStep → (u.posRec o).seek = .inStep) :
    EntersStep s u ↔ EntersStep s t ∨ EntersStep t u := by
  constructor
  · rintro ⟨o, hu, hs⟩
    by_cases ht : (t.posRec o).seek = .inStep
    · exact .inl ⟨o, ht, hs⟩
    · exact .inr ⟨o, hu, ht⟩
  · rintro (⟨o, ht, hs⟩ | ⟨o, hu, ht⟩)
    · exact ⟨o, k o ht hs, hs⟩
    · exact ⟨o, hu, fun hs => ht (h o hu hs)⟩

theorem EntersStep.trans_of_stays (h : s.Stays t) (k : t.Stays u) : EntersStep s u ↔ EntersStep s t ∨ EntersStep t u :=
  trans_iff (fun o _ hs => h o hs) fun o ht _ => k o ht

/-- The same when of the two changes at most one moves a position's seek. -/
theorem EntersStep.trans_of_apart
    (h : ∀ o, (t.posRec o).seek = (s.posRec o).seek ∨ (u.posRec o).seek = (t.posRec o).seek) :
    EntersStep s u ↔ EntersStep s t ∨ EntersStep t u := by
  refine trans_iff (fun o hu hs => ?_) fun o ht hs => ?_
  · rcases h o with e | e
    · exact e.trans hs
    · exact e.symm.trans hu
  · rcases h o with e | e
    · exact absurd (e.symm.trans ht) hs
    · exact e.trans ht

/-! ### Changes that tell every entry -/

/-- From `s` to `t` the faults `fs` are offered and the classes `P` raised, with SEEK exactly when a position enters IN_STEP; no
position leaves IN_STEP, and the clock stands. -/
structure State.Tells (fs : List FaultInfo) (P : AlertClass → Prop) (s t : State) : Prop where
  raises : Raises fs (fun c => P c ∨ c = .seek ∧ EntersStep s t) s t
  stays : s.Stays t
  clock : t.clock = s.clock

namespace State.Tells

variable {fs gs : List FaultInfo} {P Q : AlertClass → Prop}

theorem iff (h : s.Tells fs P t) (hPQ : ∀ c, P c ↔ Q c) : s.Tells fs Q t :=
  ⟨h.raises.iff fun c => by rw [hPQ], h.stays, h.clock⟩

/-- A change that moves no seek. -/
theorem of_seek (h : Raises fs P s t) (hs : ∀ o, (t.posRec o).seek = (s.posRec o).seek) (hc : t.clock = s.clock) :
    s.Tells fs P t :=
  ⟨h.iff fun c => by simp [EntersStep.not_of_seek hs], .of_seek hs, hc⟩

theorem of_eq (hp : t.pos = s.pos) (hf : t.faults = s.faults) (hc : t.clock = s.clock) : s.Tells [] (fun _ => False) t :=
  of_seek (.of_faults_eq hf) (fun o => by rw [State.posRec_of_pos hp]) hc

theorem refl (s : State) : s.Tells [] (fun _ => False) s := of_eq rfl rfl rfl

theorem alert (c : AlertClass) (s : State) : s.Tells [] (· = c) (s.alert c) := of_seek (.alert c s) (fun _ => rfl) rfl

theorem fault (i : FaultInfo) (s : State) : s.Tells [i] (fun _ => False) (s.fault i) := of_seek (.fault i s) (fun _ => rfl) rfl

theorem trans (h : s.Tells fs P t) (k : t.Tells gs Q u) : s.Tells (fs ++ gs) (fun c => P c ∨ Q c) u :=
  ⟨(h.raises.trans k.raises h.clock).iff fun c => by rw [EntersStep.trans_of_stays h.stays k.stays]; tauto,
    h.stays.trans k.stays, k.clock.trans h.clock⟩

/-- A change that raises nothing but SEEK, then another. -/
theorem silent_trans (h : s.Tells [] (fun _ => False) t) (k : t.Tells gs Q u) : s.Tells gs Q u :=
  (h.trans k).iff fun _ => iff_of_eq (false_or _)

theorem trans_silent (h : s.Tells fs P t) (k : t.Tells [] (fun _ => False) u) : s.Tells fs P u := by
  have both := (h.trans k).iff (Q := P) fun c => iff_of_eq (or_false _)
  rwa [List.append_nil] at both

theorem foldl {α : Type} {f : State → α → State} (h : ∀ s a, State.Tells [] (fun _ => False) s (f s a)) (l : List α) (s : State) :
    s.Tells [] (fun _ => False) (l.foldl f s) := by
  induction l generalizing s with
  | nil => exact refl s
  | cons a l ih => exact (h s a).silent_trans (ih _)

end State.Tells

/-- Only position `p` can be moved by a write to its seek. -/
theorem State.entersStep_putSeek (p : Pos) (r : PosRec) (s : State) :
    EntersStep s (s.putSeek p r) ↔ r.seek = .inStep ∧ (s.posRec p).seek ≠ .inStep := by
  simp only [EntersStep, State.posRec_putSeek]
  constructor
  · rintro ⟨o, ho, hn⟩
    split at ho
    · next e => exact e ▸ ⟨ho, e ▸ hn⟩
    · exact absurd ho hn
  · exact fun ⟨hr, hn⟩ => ⟨p, by rw [if_pos rfl]; exact hr, hn⟩

theorem Raises.putSeek (p : Pos) (r : PosRec) (s : State) :
    Raises [] (fun c => c = .seek ∧ EntersStep s (s.putSeek p r)) s (s.putSeek p r) := by
  rw [State.entersStep_putSeek]
  unfold State.putSeek
  dsimp only
  split
  · next h =>
    have written : Raises [] (fun _ => False) s (s.setPosRec p (r.recorrect s.plan)) := .of_faults_eq rfl
    exact (written.trans (.alert .seek _) rfl).iff fun c => by simp [h]
  · next h =>
    have written : Raises [] (fun _ => False) s (s.setPosRec p (r.recorrect s.plan)) := .of_faults_eq rfl
    exact written.iff fun c => by simp [h]

theorem State.putSeek_clock (p : Pos) (r : PosRec) (s : State) : (s.putSeek p r).clock = s.clock := by
  unfold State.putSeek
  dsimp only
  split <;> rfl

theorem State.Tells.putSeek {p : Pos} {r : PosRec} (h : (s.posRec p).seek = .inStep → r.seek = .inStep) :
    s.Tells [] (fun _ => False) (s.putSeek p r) where
  raises := (Raises.putSeek p r s).iff fun _ => (iff_of_eq (false_or _)).symm
  stays o ho := by
    rw [State.posRec_putSeek]
    split
    · next e => exact h (e ▸ ho)
    · exact ho
  clock := State.putSeek_clock p r s

theorem State.Tells.placeOrder (p : Pos) (o : Order) (s : State) : s.Tells [] (fun _ => False) (s.placeOrder p o) :=
  .of_eq rfl rfl rfl

theorem State.Tells.setPre (x : Pre) (s : State) : s.Tells [] (fun _ => False) (s.setPre x) := .of_eq rfl rfl rfl

/-! ### The trunk but for its order table -/

/-- The trunk changes at most in its order table. -/
def State.OrdersOnly (s t : State) : Prop := { t.trunk with orders := s.trunk.orders } = s.trunk

namespace State.OrdersOnly

theorem of_eq (h : t.trunk = s.trunk) : s.OrdersOnly t := by rw [State.OrdersOnly, h]

theorem refl (s : State) : s.OrdersOnly s := of_eq rfl

theorem trans (h : s.OrdersOnly t) (k : t.OrdersOnly u) : s.OrdersOnly u := by
  have other : { u.trunk with orders := s.trunk.orders } = ({ t.trunk with orders := s.trunk.orders } : Trunk) :=
    congrArg (fun x : Trunk => { x with orders := s.trunk.orders }) k
  exact other.trans h

theorem foldl {α : Type} {f : State → α → State} (h : ∀ (s : State) (a : α), s.OrdersOnly (f s a)) (l : List α) (s : State) :
    s.OrdersOnly (l.foldl f s) := by
  induction l generalizing s with
  | nil => exact refl s
  | cons a l ih => exact (h s a).trans (ih _)

theorem placeOrder (p : Pos) (o : Order) (s : State) : s.OrdersOnly (s.placeOrder p o) := rfl

theorem setPre (x : Pre) (s : State) : s.OrdersOnly (s.setPre x) := rfl

theorem alert (c : AlertClass) (s : State) : s.OrdersOnly (s.alert c) := rfl

theorem leaveClaims (v : VecIx) (s : State) : s.OrdersOnly (s.leaveClaims v) := of_eq (s.mapPosRec_trunk _)

theorem putSeek (p : Pos) (r : PosRec) (s : State) : s.OrdersOnly (s.putSeek p r) := of_eq (by simp)

theorem claim (v : VecIx) (p : Pos) (s : State) : s.OrdersOnly (s.claim v p) := by
  unfold State.claim
  dsimp only
  split
  · split
    · exact (putSeek ..).trans (placeOrder ..)
    · split
      · exact (putSeek ..).trans (placeOrder ..)
      · exact of_eq rfl
  · exact refl s

theorem activate (v : VecIx) (src : Source) (s : State) : s.OrdersOnly (s.activate v src) :=
  show s.OrdersOnly (State.alert .preempt (List.foldl _ _ _)) from
    (foldl (fun s (z : Seizure) => claim v z.pos s) (s.pre.vectors.get v).list (s.withCause v src)).trans (of_eq rfl)

theorem giveUp (v : VecIx) (p : Pos) (s : State) : s.OrdersOnly (s.giveUp v p) := by
  unfold State.giveUp
  dsimp only
  split
  · split
    · exact (placeOrder ..).trans (putSeek ..)
    · exact (putSeek ..).trans (placeOrder ..)
  · exact refl s

theorem endCause (v : VecIx) (reason : EndReason) (s : State) : s.OrdersOnly (s.endCause v reason) := by
  have given := foldl (fun s p => giveUp v p s) allPos s
  exact ((given.trans (leaveClaims v _)).trans (setPre _ _)).trans (alert .preempt _)

theorem endTransit (s : State) : s.OrdersOnly s.endTransit := by
  refine foldl (fun s v => ?_) allVectors s
  split
  · exact endCause ..
  · exact refl s

theorem preMaster (old : Master) (s : State) : s.OrdersOnly (s.preMaster old) := by
  unfold State.preMaster
  split
  · exact endTransit s
  · exact refl s

end State.OrdersOnly

/-! ### The causes -/

theorem PosRec.seek_seized_ne (r : PosRec) : r.seized.seek ≠ .inStep := by
  unfold PosRec.seized
  dsimp only
  split <;> nofun

/-- A claim suspends a position or keeps its seek: no position enters IN_STEP. -/
theorem State.seek_claim (v : VecIx) (p o : Pos) (s : State) (h : ((s.claim v p).posRec o).seek = .inStep) :
    (s.posRec o).seek = .inStep := by
  have held := congrArg (fun y : Holding => y.1.seek) (s.holding_claim p o v)
  simp only [State.holding_fst] at held
  rw [held] at h
  split at h
  · next e =>
    subst e
    unfold Holding.claimed at h
    split at h
    · split at h
      · exact absurd h (PosRec.seek_seized_ne _)
      · split at h <;> exact h
    · exact h
  · exact h

theorem Raises.claim (v : VecIx) (p : Pos) (s : State) : Raises [] (fun _ => False) s (s.claim v p) := by
  have put (r : PosRec) (h : r.seek = .inStep → (s.posRec p).seek = .inStep) : Raises [] (fun _ => False) s (s.putSeek p r) :=
    (Raises.putSeek p r s).iff fun c => by
      rw [State.entersStep_putSeek]
      exact ⟨fun ⟨_, hr, hn⟩ => hn (h hr), False.elim⟩
  have placed {t : State} (o : Order) (h : Raises [] (fun _ => False) s t) :
      Raises [] (fun _ => False) s (t.placeOrder p o) := h.congr rfl rfl rfl
  unfold State.claim
  dsimp only
  split
  · split
    · exact placed _ (put _ fun h => absurd h (PosRec.seek_seized_ne _))
    · split
      · exact placed _ (put _ fun h => h)
      · exact .of_faults_eq rfl
  · exact .refl s

theorem State.claim_clock (v : VecIx) (p : Pos) (s : State) : (s.claim v p).clock = s.clock :=
  congrArg Kept.clock (State.kept_claim v p s)

theorem Raises.claims (v : VecIx) (l : List Pos) (s : State) :
    Raises [] (fun _ => False) s (l.foldl (fun s p => s.claim v p) s) := by
  induction l generalizing s with
  | nil => exact .refl s
  | cons p l ih => exact ((Raises.claim v p s).trans (ih _) (State.claim_clock v p s)).iff fun _ => or_self_iff

theorem State.claims_clock (v : VecIx) (l : List Pos) (s : State) : (l.foldl (fun s p => s.claim v p) s).clock = s.clock :=
  foldl_keeps State.clock _ (fun s p => State.claim_clock v p s) l s

/-- The start of a cause raises PREEMPT, and nothing else (R143). -/
theorem Raises.activate (v : VecIx) (src : Source) (s : State) : Raises [] (· = .preempt) s (s.activate v src) := by
  rw [State.activate_eq]
  generalize (s.pre.vectors.get v).list.map (·.pos) = l
  exact (((Raises.claims v l (s.withCause v src)).trans (.alert .preempt _) (State.claims_clock v l _)).iff
    fun _ => iff_of_eq (false_or _)).congr rfl rfl rfl

theorem State.Tells.giveUp (v : VecIx) (p : Pos) (s : State) : s.Tells [] (fun _ => False) (s.giveUp v p) := by
  unfold State.giveUp
  dsimp only
  split
  · split
    · refine (State.Tells.placeOrder ..).silent_trans (.putSeek fun h => ?_)
      have kept : (s.posRec p).seek = .inStep := h
      show (PosRec.endSuspension ..).seek = _
      unfold PosRec.endSuspension
      simp [kept]
    · refine State.Tells.silent_trans (.putSeek fun h => ?_) (.placeOrder ..)
      exact h
  · exact .refl s

theorem State.posRec_leaveClaims (v : VecIx) (s : State) (o : Pos) :
    (s.leaveClaims v).posRec o = (s.posRec o).unclaimed v := State.posRec_mapPosRec ..

theorem State.faults_leaveClaims (v : VecIx) (s : State) : (s.leaveClaims v).faults = s.faults := s.mapPosRec_faults _

theorem State.clock_of_kept (h : t.kept = s.kept) : t.clock = s.clock := by
  rw [← State.kept_clock, h, State.kept_clock]

theorem State.Tells.leaveClaims (v : VecIx) (s : State) : s.Tells [] (fun _ => False) (s.leaveClaims v) :=
  .of_seek (.of_faults_eq (s.faults_leaveClaims v)) (fun o => by rw [State.posRec_leaveClaims]; rfl)
    (State.clock_of_kept (State.kept_leaveClaims v s))

/-- The end of a cause raises PREEMPT, and SEEK when a position enters IN_STEP (R148, R115). -/
theorem State.Tells.endCause (v : VecIx) (reason : EndReason) (s : State) : s.Tells [] (· = .preempt) (s.endCause v reason) := by
  have given : s.Tells [] (fun _ => False) (allPos.foldl (fun s p => s.giveUp v p) s) := foldl (fun s p => giveUp v p s) _ _
  exact ((given.silent_trans (leaveClaims v _)).silent_trans (setPre _ _)).silent_trans (alert .preempt _)

end Sys2Proof.Machine
end

section
/-! The start and the end of a cause, position by position (R143, R145, R148), and the requests and line settles that bring them about
(R144, R149, R147, R138). -/

namespace Sys2Proof.Machine

variable {s t u : State}

/-! ### The seek evaluation, and the end of a suspension -/

section Seek

variable (h : Header) (r : PosRec)

theorem PosRec.evaluate_eq : r.evaluate h = { r with
    seek := if r.target.isSome = true ∧ r.target = r.running then .inStep else .seeking, travel := r.seekTravel h } := by
  unfold PosRec.evaluate PosRec.seekTravel
  cases r.target with
  | none => simp
  | some a =>
    cases r.running with
    | none => simp
    | some b =>
      by_cases e : a = b
      · simp [e]
      · simp [e, chooseTravel_eq_seekChoice]

/-- The end of a suspension writes seek, direction and remaining. -/
theorem PosRec.endSuspension_eq (off : Bool) : r.endSuspension h off = { r with
    seek := (r.endSuspension h off).seek, travel := (r.endSuspension h off).travel } := by
  unfold PosRec.endSuspension
  split
  · split
    · rfl
    · rw [PosRec.evaluate_eq]
  · rfl

variable {r}

theorem PosRec.endSuspension_idle {off : Bool} {ret : ReturnState} (hk : r.seek = .suspended ret) (ho : ret = .idle ∨ off = true) :
    (r.endSuspension h off).seek = .idle ∧ (r.endSuspension h off).travel = none := by
  rw [PosRec.endSuspension, hk]
  dsimp only
  rw [if_pos ho]
  exact ⟨rfl, rfl⟩

theorem PosRec.endSuspension_seeks {off : Bool} {ret : ReturnState} (hk : r.seek = .suspended ret)
    (ho : ¬(ret = .idle ∨ off = true)) : r.endSuspension h off = r.evaluate h := by
  rw [PosRec.endSuspension, hk]
  exact if_neg ho

/-- What a RELEASE writes of a position (R110, R111). -/
theorem PosRec.released_eq (off : Bool) : r.released h off = { r with
    mode := .coordinated, seek := (r.released h off).seek, travel := (r.released h off).travel } :=
  PosRec.endSuspension_eq h _ off

theorem PosRec.owed_congr {r' : PosRec} (hs : r'.spent = r.spent) (hk : r'.seek = r.seek) (ht : r'.travel = r.travel) :
    r'.owed h = r.owed h := by
  simp only [PosRec.owed, hs, hk, ht]

end Seek

/-! ### The start of a cause -/

/-- In a list that names each position once, the phase of a listed position is that of its entry. -/
theorem VectorCfg.phaseAt_of_mem {c : VectorCfg} (hd : (c.list.map (·.pos)).Nodup) {z : Seizure} (hz : z ∈ c.list) :
    c.phaseAt z.pos = z.phase := by
  unfold VectorCfg.phaseAt
  have found : c.list.find? (fun y => y.pos == z.pos) = some z := by
    generalize c.list = l at hd hz
    induction l with
    | nil => cases hz
    | cons y l ih =>
      rw [List.map_cons, List.nodup_cons] at hd
      rcases List.mem_cons.mp hz with rfl | hm
      · simp
      · have apart : y.pos ≠ z.pos := fun e => hd.1 (e ▸ List.mem_map_of_mem hm)
        rw [List.find?_cons_of_neg (by simpa using apart)]
        exact ih hd.2 hm
  rw [found]

section Claims

variable {x : Pre} {h : Header} {v w : VecIx} {p : Pos} {y : Holding}

theorem PosRec.claimable_iff {r : PosRec} : r.claimable = true ↔ r.enrolment.isEnrolled = true ∧ r.health ≠ .lost := by
  simp [PosRec.claimable]

theorem Holding.claimed_passed (hy : y.1.claimable = false) : y.claimed x h v p = y := by simp [Holding.claimed, hy]

theorem Holding.claimed_seized (hy : y.1.claimable = true) (ho : y.1.owner = none) : y.claimed x h v p =
    ((({ y.1 with owner := some v, claims := [] } : PosRec).seized).recorrect h, some (x.preemptOrder v p).placed) := by
  rw [Holding.claimed, if_pos hy, ho]

theorem Holding.claimed_displaced (hy : y.1.claimable = true) (ho : y.1.owner = some w) (hr : x.RanksAbove v w) :
    y.claimed x h v p =
      ((({ y.1 with owner := some v, claims := x.joinClaims w y.1.claims } : PosRec).handedOver).recorrect h,
        some (x.preemptOrder v p).placed) := by
  rw [Holding.claimed, if_pos hy, ho]
  exact if_pos (Pre.outranks_iff.mpr hr)

theorem Holding.claimed_queued (hy : y.1.claimable = true) (ho : y.1.owner = some w) (hr : ¬x.RanksAbove v w) :
    y.claimed x h v p = ({ y.1 with claims := x.joinClaims v y.1.claims }, y.2) := by
  rw [Holding.claimed, if_pos hy, ho]
  exact if_neg fun e => hr (Pre.outranks_iff.mp e)

end Claims

namespace State.KeepsBand

theorem claim (v : VecIx) (p : Pos) (s : State) : s.KeepsBand (s.claim v p) := by
  unfold State.claim
  dsimp only
  split
  · split
    · exact (putSeek p _ s).trans (placeOrder p _ _)
    · split
      · exact (putSeek p _ s).trans (placeOrder p _ _)
      · exact of_eq rfl rfl rfl
  · exact refl s

theorem activate (v : VecIx) (src : Source) (s : State) : s.KeepsBand (s.activate v src) := by
  rw [State.activate_eq]
  exact ((setPre _ s).trans (foldl (fun s p => claim v p s) _ _)).trans (alert .preempt _)

end State.KeepsBand

/-- The start of a cause that is not active, in a state whose owners and pending causes are active and in rank order. -/
theorem State.Ranked.starts {v : VecIx} (src : Source) (hs : s.Ranked) (hd : ((s.pre.vectors.get v).list.map (·.pos)).Nodup)
    (hv : s.pre.causes.get v = none) : Starts v src s (s.activate v src) := by
  have at' (o : Pos) := s.holding_activate src hd o
  have listed (z : Seizure) (hz : z ∈ (s.pre.vectors.get v).list) := (at' z.pos).trans (if_pos (List.mem_map_of_mem hz))
  have record {o : Pos} {y : Holding} (e : (s.activate v src).holding o = y) :
      (s.activate v src).posRec o = y.1 ∧ (s.activate v src).trunk.orders.get o = y.2 := by
    rw [← State.holding_fst, ← State.holding_snd, e]
    exact ⟨rfl, rfl⟩
  have idle (o : Pos) : v ∉ (s.posRec o).claims := fun hm => by
    have := (hs o).active v (.inr hm)
    rw [hv] at this
    cases this
  refine
    { cause := s.activate_pre v src
      passed := fun o ho => ?_
      ordered := fun z hz he hl hw => ?_
      seized := fun z hz he hl hn => ?_
      displaced := fun z w hz he hl hw hr => ?_
      queued := fun z w hz he hl hw hr => ?_
      raised := .activate v src s
      trunk := State.OrdersOnly.activate v src s
      rest := ⟨?_, ?_, State.kept_activate v src s⟩ }
  · refine record (y := s.holding o) ((at' o).trans ?_)
    split
    · next hm =>
      refine Holding.claimed_passed (Bool.eq_false_iff.mpr fun hc => ?_)
      obtain ⟨he, hl⟩ := PosRec.claimable_iff.mp hc
      obtain ⟨z, hz, rfl⟩ := List.mem_map.mp hm
      rcases ho with ho | ho | ho
      · exact ho z hz rfl
      · rw [State.holding_fst, ho] at he; cases he
      · exact hl ho
    · rfl
  · have claim : (s.holding z.pos).1.claimable = true := PosRec.claimable_iff.mpr ⟨he, hl⟩
    have order : some (s.pre.preemptOrder v z.pos).placed =
        some ⟨.preempt v (s.pre.vectors.get v).cls z.phase, 0, false, false⟩ := by
      rw [Pre.preemptOrder, VectorCfg.phaseAt_of_mem hd hz]
      rfl
    cases ho : (s.posRec z.pos).owner with
    | none => exact (record ((listed z hz).trans (Holding.claimed_seized claim ho))).2.trans order
    | some w => exact (record ((listed z hz).trans (Holding.claimed_displaced claim ho (hw w ho)))).2.trans order
  · rw [(record ((listed z hz).trans (Holding.claimed_seized (PosRec.claimable_iff.mpr ⟨he, hl⟩) hn))).1]
    rw [State.holding_fst]
    generalize s.posRec z.pos = r
    have waits (r : PosRec) : r.seized.seek ≠ .seeking := by
      unfold PosRec.seized
      dsimp only
      split <;> nofun
    rw [PosRec.recorrect, PosRec.roundCorrection_eq_owed, PosRec.owed_of_seek (waits _)]
    unfold PosRec.seized
    cases r.seek <;> rfl
  · rw [(record ((listed z hz).trans (Holding.claimed_displaced (PosRec.claimable_iff.mpr ⟨he, hl⟩) hw hr))).1, State.holding_fst,
      Pre.joinClaims_above ((hs z.pos).above w hw)]
    rw [PosRec.recorrect, PosRec.roundCorrection_eq_owed]
    rfl
  · have queued := record ((listed z hz).trans (Holding.claimed_queued (PosRec.claimable_iff.mpr ⟨he, hl⟩) hw hr))
    obtain ⟨above, below, hc, hj, ha, hb⟩ := Pre.joinClaims_split (hs z.pos).order (idle z.pos)
    refine ⟨queued.2, above, below, hc, ha, hb, ?_⟩
    rw [queued.1, State.holding_fst, hj]
  · exact (State.KeepsBand.activate v src s).band
  · exact (State.KeepsBand.activate v src s).ctl

/-! ### The end of a cause -/

section Ended

variable {x : Pre} {h : Header} {off : Bool} {v w : VecIx} {p : Pos} {y : Holding}

theorem Holding.ended_notOwned (ho : y.1.owner ≠ some v) : y.ended x h off v p = (y.1.unclaimed v, y.2) := by
  rw [Holding.ended, Holding.givenUp, if_neg ho]

theorem Holding.ended_released (ho : y.1.owner = some v) (hc : y.1.claims = []) : y.ended x h off v p =
    (((({ y.1 with owner := none } : PosRec).released h off).recorrect h).unclaimed v, some Order.release.placed) := by
  rw [Holding.ended, Holding.givenUp, if_pos ho, hc]

theorem Holding.ended_handed {rest : List VecIx} (ho : y.1.owner = some v) (hc : y.1.claims = w :: rest) :
    y.ended x h off v p =
      (((({ y.1 with owner := some w, claims := rest } : PosRec).handedOver).recorrect h).unclaimed v,
        some (x.preemptOrder w p).placed) := by
  rw [Holding.ended, Holding.givenUp, if_pos ho, hc]

end Ended

theorem PosRec.unclaimed_of_nil {r : PosRec} (h : r.claims = []) (v : VecIx) : r.unclaimed v = r := by
  rw [PosRec.unclaimed, h, List.filter_nil, ← h]

/-- The end of the cause of a vector, whatever the reason. -/
theorem State.ends (v : VecIx) (reason : EndReason) (s : State) : Ends v reason s (s.endCause v reason) := by
  have record {o : Pos} {y : Holding} (e : (s.holding o).ended s.pre s.plan (!s.ctl.master.runs) v o = y) :
      (s.endCause v reason).posRec o = y.1 ∧ (s.endCause v reason).trunk.orders.get o = y.2 := by
    rw [← State.holding_fst, ← State.holding_snd, State.holding_endCause, e]
    exact ⟨rfl, rfl⟩
  refine
    { causes := by rw [State.endCause_pre]
      lastEnd := by rw [State.endCause_pre]
      vectors := by rw [State.endCause_pre]
      notOwned := fun o ho => record (Holding.ended_notOwned ho)
      released := fun o ho hc => ?_
      handed := fun o w rest ho hc => ?_
      trunk := State.OrdersOnly.endCause v reason s
      rest := ⟨(State.KeepsBand.endCause v reason s).band, (State.KeepsBand.endCause v reason s).ctl, State.kept_endCause v reason s⟩ }
  · obtain ⟨back, order⟩ := record (Holding.ended_released ho hc)
    refine ⟨order, ?_, fun ret hk => ?_⟩
    · rw [back, State.holding_fst, PosRec.recorrect, PosRec.roundCorrection_eq_owed]
      have e := PosRec.released_eq s.plan (r := { s.posRec o with owner := none }) (!s.ctl.master.runs)
      generalize PosRec.released _ _ _ = z at e
      have none : z.claims = [] := (congrArg PosRec.claims e).trans hc
      rw [PosRec.unclaimed_of_nil (r := { z with correction := z.owed s.plan }) none, e]
      rfl
    · rw [back, State.holding_fst]
      have off : (!s.ctl.master.runs) = true ↔ s.ctl.master.runs = false := by simp
      rw [← off]
      constructor
      · exact fun hi => PosRec.endSuspension_idle s.plan (r := { s.posRec o with owner := none, mode := .coordinated }) hk hi
      · intro hi
        have e := PosRec.endSuspension_seeks s.plan (r := { s.posRec o with owner := none, mode := .coordinated }) hk hi
        rw [PosRec.released, e, PosRec.evaluate_eq]
        exact ⟨rfl, rfl⟩
  · obtain ⟨given, order⟩ := record (Holding.ended_handed ho hc)
    refine ⟨?_, order⟩
    rw [given, PosRec.recorrect, PosRec.roundCorrection_eq_owed]
    rfl

/-- The classes an end of a cause raises, in the words of the statements. -/
theorem State.Tells.endAlerts {fs : List FaultInfo} (h : s.Tells fs (· = .preempt) t) : Raises fs (EndAlerts s t) s t := h.raises

theorem EndAlerts.congr {s' t' : State} (hs : ∀ o, (s'.posRec o).seek = (s.posRec o).seek)
    (ht : ∀ o, (t'.posRec o).seek = (t.posRec o).seek) (c : AlertClass) : EndAlerts s' t' c ↔ EndAlerts s t c := by
  rw [EndAlerts, EndAlerts, EntersStep.congr hs ht]

/-- The end of a cause speaks of none of the lines, the clock's reading or the faults. -/
theorem Ends.congr {s' : State} {v : VecIx} {reason : EndReason} (h : Ends v reason s' t) (hp : s'.pos = s.pos)
    (ht : s'.trunk = s.trunk) (hb : s'.band = s.band) (hc : s'.ctl = s.ctl) (hk : s'.kept = s.kept)
    (causes : s'.pre.causes = s.pre.causes) (lastEnd : s'.pre.lastEnd = s.pre.lastEnd) : Ends v reason s t := by
  have hv : s'.pre.vectors = s.pre.vectors := congrArg Kept.vectors hk
  have plan : s'.plan = s.plan := State.plan_of_kept hk
  have rec' (o : Pos) : s'.posRec o = s.posRec o := State.posRec_of_pos hp o
  obtain ⟨hcauses, hends, hvectors, notOwned, released, handed, trunk, rest⟩ := h
  simp only [rec', plan, ht, hb, hc, hk, causes, lastEnd, hv] at hcauses hends hvectors notOwned released handed trunk rest
  exact ⟨hcauses, hends, hvectors, notOwned, released, handed, trunk, rest⟩

theorem Pre.disarm_eq (x : Pre) (v : VecIx) : x.disarm v = { x with lines := (x.disarm v).lines } := by
  unfold Pre.disarm
  split
  · rfl
  · dsimp only
    split <;> rfl

theorem Pre.line_disarm (x : Pre) (v : VecIx) (k : LineIx) : (x.disarm v).lines.get k =
    if k.val = v.val ∧ (x.lines.get k).active = true then { x.lines.get k with armed := false } else x.lines.get k := by
  unfold Pre.disarm
  by_cases hv : v.val < 4
  · obtain ⟨j, hj⟩ : ∃ j : LineIx, v.val = j.val := ⟨⟨v.val, hv⟩, rfl⟩
    have serves : lineOfVector v = some j := (dif_pos hv).trans (congrArg some (Fin.ext hj))
    rw [serves, hj]
    dsimp only
    by_cases ha : (x.lines.get j).active = true
    · rw [if_pos ha]
      dsimp only
      rw [get_set]
      by_cases e : j = k
      · rw [if_pos e, ← e, if_pos ⟨rfl, ha⟩]
      · rw [if_neg e, if_neg fun h => e (Fin.ext h.1.symm)]
    · rw [if_neg ha, if_neg]
      rintro ⟨e, hk⟩
      exact ha (Fin.ext e ▸ hk)
  · have serves : lineOfVector v = none := dif_neg hv
    rw [serves, if_neg]
    rintro ⟨e, _⟩
    exact hv (e ▸ k.isLt)

theorem State.expire_eq (v : VecIx) (s : State) :
    s.expire v = ((s.fault (.holdExpired v)).setPre (s.pre.disarm v)).endCause v .expiry := rfl

/-- The expiry of a cause: HOLD_EXPIRED, the ACTIVE line disarmed, the end with reason EXPIRY (R147). -/
theorem State.expires (v : VecIx) (s : State) :
    Ends v .expiry s (s.expire v) ∧ Disarms v s (s.expire v) ∧
      Raises [.holdExpired v] (EndAlerts s (s.expire v)) s (s.expire v) := by
  have kept : ((s.fault (.holdExpired v)).setPre (s.pre.disarm v)).kept = s.kept := by
    refine (State.kept_setPre (by rw [Pre.disarm_eq]; rfl) fun k => ?_).trans (State.kept_fault ..)
    show ((s.pre.disarm v).lines.get k).cfg = (s.pre.lines.get k).cfg
    rw [Pre.line_disarm]
    split <;> rfl
  have causes : (s.pre.disarm v).causes = s.pre.causes := by rw [Pre.disarm_eq]
  have lastEnd : (s.pre.disarm v).lastEnd = s.pre.lastEnd := by rw [Pre.disarm_eq]
  rw [State.expire_eq]
  refine ⟨?_, fun k => ?_, ?_⟩
  · exact (State.ends v .expiry _).congr (s' := (s.fault (.holdExpired v)).setPre (s.pre.disarm v)) rfl rfl rfl rfl kept causes
      lastEnd
  · rw [State.endCause_pre]
    exact s.pre.line_disarm v k
  · exact (((State.Tells.fault (.holdExpired v) s).trans_silent (.setPre _ _)).trans (.endCause v .expiry _)).iff
      (fun _ => iff_of_eq (false_or _)) |>.endAlerts

/-! ### The requests (R144, R149) -/

section Requests

variable {α : Type} {fieldMay : Bool} {parse : List Byte → Option α} {own : α → State → Ruling} {body : List Byte} {a : α}
variable {p : PortId} {q : Port} {kind tag : Byte}

/-- A request whose effect keeps the configuration and the ports. -/
theorem request_effect {c : ReplyCode} {result : List Byte} (ht : s.CanTake p ⟨kind, tag, body⟩ q)
    (hs : s.senderClass p = .supervisory ∨ fieldMay = true) (hb : parse body = some a) (hk : kind.toNat < 128)
    (ho : own a (s.setPort p q) = ⟨t, ⟨c, result⟩⟩) (kept : t.kept = (s.setPort p q).kept) :
    powered (State.request p kind fieldMay parse own tag body) s =
      .next (t.replying p q ⟨kind, tag, body⟩ (s.senderClass p) c result) :=
  request_answered ht hs hb hk (by rw [ho, State.setPort_of_kept kept])

end Requests

theorem State.Ranked.setPort {p : PortId} {q : Port} (hs : s.Ranked) : (s.setPort p q).Ranked :=
  hs.of_pos (by cases p <;> rfl) (by rw [State.setPort_pre]) (by rw [State.setPort_pre])

/-- Settles O24: a cause that is not active starts. -/
theorem preCallRule : Obligations.PreCallRule := by
  intro s p tag n q ht answer
  have ruled {t : State} {c : ReplyCode} {result : List Byte} (h : (s.setPort p q).rulePreCall n.toNat = ⟨t, ⟨c, result⟩⟩)
      (kept : t.kept = (s.setPort p q).kept) : exec (.preCall p tag [n]) s = answer t c result :=
    request_effect (own := State.rulePreCall) ht (.inr rfl) rfl (by decide) h kept
  have here {c : ReplyCode} {result : List Byte} (h : (s.setPort p q).rulePreCall n.toNat = ⟨s.setPort p q, ⟨c, result⟩⟩) :
      exec (.preCall p tag [n]) s = answer s c result :=
    request_answered (own := State.rulePreCall) ht (.inr rfl) rfl (by decide) h
  refine ⟨fun h => here (by rw [State.rulePreCall, vectorOf_unnamed h]; rfl), fun v hv => ?_⟩
  extract_lets cls
  have rule : (s.setPort p q).rulePreCall n.toNat =
      if cls = .unused then (s.setPort p q).refuse .state
      else if cls = .transit ∧ s.ctl.master ≠ .coordinating then (s.setPort p q).refuse .state
      else if s.causeActive v then (s.setPort p q).grant [1]
      else ((s.setPort p q).activate v .call).grant [0] := by
    rw [State.rulePreCall, vectorOf_named hv]
    simp only [State.causeActive_setPort, State.setPort_pre, State.setPort_ctl]
    rfl
  refine ⟨fun h => here ?_, fun h => ?_⟩
  · rw [rule]
    split
    · rfl
    · next hn => rw [if_pos (h.resolve_left hn)]; rfl
  · rw [not_or] at h
    rw [if_neg h.1, if_neg h.2] at rule
    refine ⟨fun ha => here (rule.trans (if_pos ha)), fun hn law => ?_⟩
    obtain ⟨ranked, distinct⟩ := causeLaw_iff.mp law
    have off : s.causeActive v = false := by rw [State.causeActive, hn]; rfl
    refine ⟨(s.setPort p q).activate v .call, ruled (by rw [rule, off]; rfl) (State.kept_activate ..), ?_⟩
    exact ranked.setPort.starts .call (by rw [State.setPort_pre]; exact distinct.used v) (by rw [State.setPort_pre]; exact hn)

/-- Settles O25: a cause that is active ends, by the request or with its hold. -/
theorem causeEndRule : Obligations.CauseEndRule := by
  refine ⟨?_, ?_⟩
  · intro s p tag n q ht answer
    have ruled {t : State} {c : ReplyCode} {result : List Byte}
        (h : (s.setPort p q).rulePreClear n.toNat = ⟨t, ⟨c, result⟩⟩) (kept : t.kept = (s.setPort p q).kept) :
        exec (.preClear p tag [n]) s = answer t c result :=
      request_effect (own := State.rulePreClear) ht (.inr rfl) rfl (by decide) h kept
    have here {c : ReplyCode} {result : List Byte}
        (h : (s.setPort p q).rulePreClear n.toNat = ⟨s.setPort p q, ⟨c, result⟩⟩) :
        exec (.preClear p tag [n]) s = answer s c result :=
      request_answered (own := State.rulePreClear) ht (.inr rfl) rfl (by decide) h
    refine ⟨fun h => here (by rw [State.rulePreClear, vectorOf_unnamed h]; rfl), fun v hv => ?_⟩
    have rule : (s.setPort p q).rulePreClear n.toNat =
        if s.causeActive v then ((s.setPort p q).endCause v .clear).grant [0] else (s.setPort p q).grant [1] := by
      rw [State.rulePreClear, vectorOf_named hv]
      simp only [State.causeActive_setPort]
      rfl
    refine ⟨fun hn => here ?_, fun ha => ?_⟩
    · have off : s.causeActive v = false := by rw [State.causeActive, hn]; rfl
      rw [rule, off]
      rfl
    · refine ⟨(s.setPort p q).endCause v .clear, ruled (by rw [rule]; exact if_pos ha) (State.kept_endCause ..),
        (s.setPort p q).ends v .clear, ?_, ?_⟩
      · exact ((State.Tells.endCause v .clear (s.setPort p q)).endAlerts.congr (s := s.setPort p q) (by cases p <;> rfl)
          (by cases p <;> rfl) rfl).iff fun c => EndAlerts.congr (fun o => by cases p <;> rfl) (fun o => rfl) c
      · rw [State.endCause_pre, State.setPort_pre]
  · intro s v c hp hc
    have run : exec (.causeExpiry v) s = .next (if c.remaining ≤ 1 then s.expire v else s) := by
      show execCauseExpiry v s = _
      unfold execCauseExpiry powered
      rw [if_pos hp]
      dsimp only
      rw [hc]
    obtain ⟨ends, disarms, raised⟩ := s.expires v
    refine ⟨fun h => by rw [run, if_neg (by omega)], fun h => ⟨s.expire v, by rw [run, if_pos h], ends, raised, disarms⟩⟩

end Sys2Proof.Machine
end

section
/-! The input lines: the measurement on a pin and the settles of the preemption lines (R136 to R138). -/

namespace Sys2Proof.Machine

variable {s t u : State}

theorem LineCfg.activeLevel_iff (c : LineCfg) (high : Bool) :
    c.activeLevel high = true ↔ (c.polarity = .activeHigh ↔ high = true) := by
  unfold LineCfg.activeLevel
  cases c.polarity <;> cases high <;> decide

theorem Input.due_iff (i : Input) (debounce t : Nat) : i.due debounce t = true ↔ i.settled = false ∧ i.since + debounce ≤ t := by
  simp [Input.due]

theorem exec_preLineSettle (k : LineIx) (time : Nat) (hp : s.powered = true) :
    exec (.preLineSettle k time) s = .next ((s.at time).settleLineAt k (s.at time).now) := by
  show execPreLineSettle k time s = _
  unfold execPreLineSettle powered
  rw [if_pos hp]
  rfl

theorem exec_lineInputChange (l : LineId) (high : Bool) (time : Nat) (hp : s.powered = true) :
    exec (.lineInputChange l high time) s = .next (((s.at time).inputChange l high).settleAtOnce l) := by
  show execLineInputChange l high time s = _
  unfold execLineInputChange
  rw [if_pos hp]

theorem State.input_at (l : LineId) (time : Nat) : (s.at time).input l = s.input l := by cases l <;> rfl

theorem State.setInput_cfg (k j : LineIx) (i : Input) : ((s.setInput (.preempt k) i).pre.lines.get j).cfg = (s.pre.lines.get j).cfg := by
  show ((s.pre.lines.set k.val { s.pre.lines.get k with input := i } k.isLt).get j).cfg = _
  rw [get_set]
  split
  · next e => rw [e]
  · rfl

/-- A line of debounce 0 is the only one that settles within the input change. -/
theorem State.settleAtOnce_of_ne {l : LineId} (h : ∀ k, l = .preempt k → (s.pre.lines.get k).cfg.debounce ≠ 0) :
    s.settleAtOnce l = s := by
  cases l with
  | preempt k => exact if_neg (h k rfl)
  | hold => rfl
  | detach => rfl
  | key => rfl

theorem State.inputChange_same {l : LineId} {high : Bool} (h : (s.input l).high = high) : s.inputChange l high = s := if_pos h

theorem State.inputChange_turn {l : LineId} {high : Bool} (h : (s.input l).high ≠ high) :
    s.inputChange l high = s.setInput l ⟨high, s.now, false⟩ := if_neg h

/-- An event whose time lies in the past is taken at the latest time named before (assumption 5). -/
theorem State.at_of_le {time : Nat} (h : time ≤ s.now) : s.at time = s := by
  unfold State.at
  rw [Nat.max_eq_left h]

theorem State.mayStart_iff (v : VecIx) : s.mayStart v = true ↔
    (s.pre.vectors.get v).cls ≠ .unused ∧ s.pre.causes.get v = none ∧
      ((s.pre.vectors.get v).cls = .transit → s.ctl.master = .coordinating) := by
  unfold State.mayStart State.causeActive
  simp [and_assoc, imp_iff_not_or]

/-- The record of line `k` once it has settled. -/
def State.settledLine (s : State) (k : LineIx) (active armed : Bool) : State :=
  s.setLine k ⟨(s.pre.lines.get k).cfg, active, armed, { (s.pre.lines.get k).input with settled := true }⟩

section Settle

variable {k : LineIx}

theorem State.settleLine_high_of_active (hh : (s.pre.lines.get k).cfg.activeLevel (s.pre.lines.get k).input.high = true)
    (ha : (s.pre.lines.get k).active = true) : s.settleLine k = s.settledLine k true (s.pre.lines.get k).armed := by
  unfold State.settleLine
  dsimp only
  rw [if_pos hh, if_pos ha]
  have same : ({ s.pre.lines.get k with active := true } : PLine) = s.pre.lines.get k := by rw [← ha]
  exact congrArg (fun l : PLine => s.setLine k { l with input := (s.pre.lines.get k).input.settle }) same.symm

/-- A line that turns active (R138). -/
theorem State.settleLine_high_of_inactive (hh : (s.pre.lines.get k).cfg.activeLevel (s.pre.lines.get k).input.high = true)
    (ha : (s.pre.lines.get k).active = false) : s.settleLine k =
      if (s.pre.lines.get k).armed = true ∧ s.mayStart (vectorOfLine k) = true then
        (s.settledLine k true (s.pre.lines.get k).armed).activate (vectorOfLine k) .line
      else s.settledLine k true (s.pre.lines.get k).armed := by
  unfold State.settleLine
  dsimp only
  rw [if_pos hh, if_neg (by rw [ha]; decide)]
  exact if_congr Bool.and_eq_true_iff rfl rfl

/-- A line that turns inactive, or settles inactive again (R138). -/
theorem State.settleLine_low (hh : (s.pre.lines.get k).cfg.activeLevel (s.pre.lines.get k).input.high ≠ true) : s.settleLine k =
    if (s.pre.lines.get k).active = true ∧ s.causeActive (vectorOfLine k) = true then
      (s.settledLine k false true).endCause (vectorOfLine k) .line
    else s.settledLine k false true := by
  unfold State.settleLine
  dsimp only
  rw [if_neg hh]
  exact if_congr Bool.and_eq_true_iff rfl rfl

end Settle

theorem State.Ranked.settledLine (k : LineIx) (active armed : Bool) (hs : s.Ranked) : (s.settledLine k active armed).Ranked :=
  hs.of_pos rfl rfl rfl

/-- Settles O40: by what is due on the line, the level, and the state of the line and its vector. -/
theorem preLineRule : Obligations.PreLineRule := by
  intro s time hp u
  have hu : s.at time = u := rfl
  refine ⟨fun l high hl hk => ?_, fun l high hl hk => ?_, fun k high hk => ?_, fun k => ?_⟩
  · rw [exec_lineInputChange _ _ _ hp, State.inputChange_same ((congrArg Input.high (State.input_at l time)).trans hl), hu,
      State.settleAtOnce_of_ne (s := u) hk]
  · rw [exec_lineInputChange _ _ _ hp,
      State.inputChange_turn fun e => hl ((congrArg Input.high (State.input_at l time)).symm.trans e), hu,
      State.settleAtOnce_of_ne]
    rintro k rfl
    rw [State.setInput_cfg]
    exact hk k rfl
  · rw [exec_lineInputChange _ _ _ hp, hu]
    by_cases e : (s.pre.lines.get k).input.high = high
    · rw [if_pos e, exec_preLineSettle _ _ hp, State.inputChange_same (s := u) (l := .preempt k) e]
      exact congrArg Host.Outcome.next (if_pos hk)
    · rw [if_neg e, exec_preLineSettle k time (s := u.setInput (.preempt k) ⟨high, u.now, false⟩) hp,
        State.inputChange_turn (s := u) (l := .preempt k) e]
      have stands : (u.setInput (.preempt k) ⟨high, u.now, false⟩).at time = u.setInput (.preempt k) ⟨high, u.now, false⟩ :=
        State.at_of_le (Nat.le_max_right ..)
      rw [stands]
      refine congrArg Host.Outcome.next (if_pos ?_)
      rw [State.setInput_cfg]
      exact hk
  · intro l v due high put starts
    have settle : due → exec (.preLineSettle k time) s = .next (u.settleLine k) := fun h => by
      rw [exec_preLineSettle _ _ hp]
      exact congrArg Host.Outcome.next (if_pos ((Input.due_iff ..).mpr h))
    have up : high → (u.pre.lines.get k).cfg.activeLevel (u.pre.lines.get k).input.high = true :=
      (LineCfg.activeLevel_iff ..).mpr
    have down : ¬high → (u.pre.lines.get k).cfg.activeLevel (u.pre.lines.get k).input.high ≠ true :=
      fun h e => h ((LineCfg.activeLevel_iff ..).mp e)
    have may : (l.armed = true ∧ u.mayStart v = true) ↔ starts := and_congr_right fun _ => State.mayStart_iff v
    refine ⟨fun hd => ?_, fun hd hh ha => ?_, fun hd hh ha hn => ?_, fun hd hh ha hs law => ?_, fun hd hh hn => ?_,
      fun hd hh ha hc => ?_⟩
    · rw [exec_preLineSettle _ _ hp]
      exact congrArg Host.Outcome.next (if_neg fun e => hd ((Input.due_iff ..).mp e))
    · rw [settle hd, State.settleLine_high_of_active (up hh) ha]
      rfl
    · rw [settle hd, State.settleLine_high_of_inactive (up hh) ha]
      exact congrArg Host.Outcome.next (if_neg fun e => hn (may.mp e))
    · refine ⟨(u.settledLine k true l.armed).activate v .line, ?_, ?_⟩
      · rw [settle hd, State.settleLine_high_of_inactive (up hh) ha]
        exact congrArg Host.Outcome.next (if_pos (may.mpr hs))
      · obtain ⟨ranked, distinct⟩ := causeLaw_iff.mp law
        have same : put true true = u.settledLine k true l.armed := by rw [hs.1]; rfl
        rw [same]
        have ranked' : u.Ranked := ranked.of_pos rfl rfl rfl
        exact (ranked'.settledLine k true l.armed).starts .line (distinct.used v) hs.2.2.1
    · rw [settle hd, State.settleLine_low (down hh)]
      refine congrArg Host.Outcome.next (if_neg ?_)
      rintro ⟨ha, hc⟩
      rcases hn with hn | hn
      · cases hn.symm.trans ha
      · have off : s.causeActive v = false := by rw [State.causeActive, hn]; rfl
        cases off.symm.trans hc
    · refine ⟨(u.settledLine k false true).endCause v .line, ?_, (u.settledLine k false true).ends v .line, ?_, ?_⟩
      · rw [settle hd, State.settleLine_low (down hh)]
        exact congrArg Host.Outcome.next (if_pos ⟨ha, hc⟩)
      · exact (State.Tells.endCause v .line (u.settledLine k false true)).endAlerts.congr (s' := s)
          (t' := (u.settledLine k false true).endCause v .line) rfl rfl rfl
      · rw [State.endCause_pre]
        rfl

end Sys2Proof.Machine
end

section
/-! A change of master state as the Transition Unit and the Preemption Unit take it (R112, R152): every position's seek in turn, then the
TRANSIT causes one at a time. -/

namespace Sys2Proof.Machine

variable {s t u : State}

/-! ### Seeks written one position after another -/

theorem State.posRec_foldl_of_notMem {α : Type} {f : State → α → State} {key : α → Pos}
    (hf : ∀ s a o, key a ≠ o → (f s a).posRec o = s.posRec o) {o : Pos} {l : List α} (ho : o ∉ l.map key) (s : State) :
    (l.foldl f s).posRec o = s.posRec o := by
  induction l generalizing s with
  | nil => rfl
  | cons a l ih =>
    rw [List.map_cons, List.mem_cons, not_or] at ho
    rw [List.foldl_cons, ih ho.2, hf _ _ _ fun e => ho.1 e.symm]

theorem State.foldl_putSeek_clock {α : Type} (key : α → Pos) (r : State → α → PosRec) (l : List α) (s : State) :
    (l.foldl (fun s a => s.putSeek (key a) (r s a)) s).clock = s.clock :=
  foldl_keeps State.clock _ (fun s _ => s.putSeek_clock _ _) l s

/-- Seeks written for distinct positions raise SEEK exactly when one of them enters IN_STEP (R115). -/
theorem Raises.putSeeks {α : Type} {key : α → Pos} (r : State → α → PosRec) {l : List α} (hl : (l.map key).Nodup) (s : State) :
    Raises [] (fun c => c = .seek ∧ EntersStep s (l.foldl (fun s a => s.putSeek (key a) (r s a)) s)) s
      (l.foldl (fun s a => s.putSeek (key a) (r s a)) s) := by
  induction l generalizing s with
  | nil => exact (Raises.refl s).iff fun c => by simp [EntersStep.not_of_seek (s := s) (t := s) fun _ => rfl]
  | cons a l ih =>
    rw [List.map_cons, List.nodup_cons] at hl
    rw [List.foldl_cons]
    generalize ht : s.putSeek (key a) (r s a) = t
    have first : Raises [] (fun c => c = .seek ∧ EntersStep s t) s t := ht ▸ Raises.putSeek (key a) (r s a) s
    have clock : t.clock = s.clock := ht ▸ s.putSeek_clock (key a) (r s a)
    refine (first.trans (ih hl.2 t) clock).iff fun c => ?_
    have apart : ∀ o, (t.posRec o).seek = (s.posRec o).seek ∨
        ((l.foldl (fun s a => s.putSeek (key a) (r s a)) t).posRec o).seek = (t.posRec o).seek := by
      intro o
      by_cases e : key a = o
      · refine .inr (congrArg PosRec.seek (State.posRec_foldl_of_notMem (key := key) (fun s b o hb => ?_) (e ▸ hl.1) t))
        rw [State.posRec_putSeek, if_neg hb]
      · refine .inl ?_
        rw [← ht, State.posRec_putSeek, if_neg e]
    rw [EntersStep.trans_of_apart apart, ← and_or_left]

/-- Every position's seek is written, in ascending order. -/
def State.sweep (g : Header → PosRec → PosRec) (s : State) : State :=
  allPos.foldl (fun s p => s.putSeek p (g s.plan (s.posRec p))) s

section Sweep

variable (g : Header → PosRec → PosRec) (s : State)

theorem State.posRec_sweep (o : Pos) : (s.sweep g).posRec o = (g s.plan (s.posRec o)).recorrect s.plan := by
  have folded := look_foldl (f := fun s p => s.putSeek p (g s.plan (s.posRec p))) (env := State.plan) (look := State.posRec)
    (g := fun h _ r => (g h r).recorrect h) (fun s p => s.plan_putSeek p _)
    (fun s p q => s.posRec_putSeek p q _) allPos_nodup s o
  rwa [if_pos (mem_allPos o)] at folded

theorem Raises.sweep : Raises [] (fun c => c = .seek ∧ EntersStep s (s.sweep g)) s (s.sweep g) :=
  Raises.putSeeks (key := id) (fun s p => g s.plan (s.posRec p)) (by rw [List.map_id]; exact allPos_nodup) s

theorem State.sweep_trunk : (s.sweep g).trunk = s.trunk := foldl_keeps State.trunk _ (fun s p => s.putSeek_trunk p _) _ _

theorem State.sweep_pre : (s.sweep g).pre = s.pre := foldl_keeps State.pre _ (fun s p => s.putSeek_pre p _) _ _

theorem State.sweep_clock : (s.sweep g).clock = s.clock := foldl_keeps State.clock _ (fun s p => s.putSeek_clock p _) _ _

theorem State.sweep_keepsBand : s.KeepsBand (s.sweep g) := State.KeepsBand.foldl (fun s p => .putSeek p _ s) _ _

end Sweep

/-- IDLE or FALLBACK to COORDINATING or HOLD (R112). -/
theorem State.seekMaster_rises {old new : Master} (ho : old = .idle ∨ old = .fallback) (hn : new = .coordinating ∨ new = .hold)
    (s : State) : s.seekMaster old new = s.sweep PosRec.masterRises := by
  rcases ho with rfl | rfl <;> rcases hn with rfl | rfl <;> rfl

/-- COORDINATING or HOLD to IDLE or FALLBACK, and IDLE to FALLBACK (R112). -/
theorem State.seekMaster_falls {old new : Master}
    (h : (old = .coordinating ∨ old = .hold) ∧ (new = .idle ∨ new = .fallback) ∨ old = .idle ∧ new = .fallback) (s : State) :
    s.seekMaster old new = s.sweep fun _ => PosRec.masterFalls := by
  rcases h with ⟨rfl | rfl, rfl | rfl⟩ | ⟨rfl, rfl⟩ <;> rfl

/-- From COORDINATING or HOLD to one of them, and to DETACHED, no seek moves (R112). -/
theorem State.seekMaster_stays {old new : Master} (ho : old = .coordinating ∨ old = .hold)
    (hn : new = .coordinating ∨ new = .hold ∨ new.isDetached = true) (s : State) : s.seekMaster old new = s := by
  rcases ho with rfl | rfl <;> rcases hn with rfl | rfl | hn
  any_goals rfl
  all_goals
    cases new with
    | detached r => rfl
    | _ => cases hn

/-! ### The end of several causes at one position -/

theorem PosRec.RankedBy.claims_eq_nil {x : Pre} {r : PosRec} (hr : r.RankedBy x) (ho : r.owner = none) : r.claims = [] :=
  List.eq_nil_iff_forall_not_mem.mpr fun w hw => by
    have owned := hr.owned w hw
    rw [ho] at owned
    cases owned

/-- A position's record and order once the causes of `K` have ended (R148, R152). -/
def Holding.afterEnds (x : Pre) (h : Header) (off : Bool) (K : VecIx → Bool) (p : Pos) (y : Holding) : Holding :=
  match y.1.owner with
  | none => y
  | some v =>
    if K v then
      match y.1.claims.filter fun w => !K w with
      | [] =>
        ((({ y.1 with owner := none, claims := [] } : PosRec).released h off).recorrect h, some Order.release.placed)
      | w :: rest =>
        ((({ y.1 with owner := some w, claims := rest } : PosRec).handedOver).recorrect h, some (x.preemptOrder w p).placed)
    else ({ y.1 with claims := y.1.claims.filter fun w => !K w }, y.2)

/-- The order at a position that has lost its owner, by the causes left. -/
def Pre.orderLeft (x : Pre) (p : Pos) : List VecIx → OrderEntry
  | [] => Order.release.placed
  | w :: _ => (x.preemptOrder w p).placed

section AfterEnds

variable {x : Pre} {h : Header} {off : Bool} {K L : VecIx → Bool} {p : Pos} {y : Holding} {v w : VecIx} {rest : List VecIx}

theorem Holding.afterEnds_unowned (ho : y.1.owner = none) : y.afterEnds x h off K p = y := by rw [Holding.afterEnds, ho]

theorem Holding.afterEnds_kept (ho : y.1.owner = some v) (hk : K v = false) :
    y.afterEnds x h off K p = ({ y.1 with claims := y.1.claims.filter fun w => !K w }, y.2) := by
  rw [Holding.afterEnds, ho]
  exact if_neg (by rw [hk]; decide)

theorem Holding.afterEnds_released (ho : y.1.owner = some v) (hk : K v = true) (hc : (y.1.claims.filter fun w => !K w) = []) :
    y.afterEnds x h off K p =
      ((({ y.1 with owner := none, claims := [] } : PosRec).released h off).recorrect h, some Order.release.placed) := by
  rw [Holding.afterEnds, ho]
  dsimp only
  rw [if_pos hk, hc]

theorem Holding.afterEnds_handed (ho : y.1.owner = some v) (hk : K v = true)
    (hc : (y.1.claims.filter fun w => !K w) = w :: rest) : y.afterEnds x h off K p =
      ((({ y.1 with owner := some w, claims := rest } : PosRec).handedOver).recorrect h, some (x.preemptOrder w p).placed) := by
  rw [Holding.afterEnds, ho]
  dsimp only
  rw [if_pos hk, hc]

theorem filter_or (l : List VecIx) : (l.filter fun w => !(K w || L w)) = (l.filter fun w => !K w).filter fun w => !L w := by
  rw [List.filter_filter]
  exact List.filter_congr fun w _ => by rw [Bool.not_or, Bool.and_comm]

/-- What a RELEASE and the correction after it write does not depend on the mode, the owner, the claims or the correction before. -/
theorem PosRec.released_recorrect_congr (h : Header) (off : Bool) (r : PosRec) (m : Mode) (o : Option VecIx) (c : List VecIx) (i : Int) :
    ((({ { r with mode := m, owner := o, claims := c, correction := i } with owner := none, claims := [] } : PosRec).released h
      off).recorrect h) = (({ r with owner := none, claims := [] } : PosRec).released h off).recorrect h := by
  unfold PosRec.released PosRec.endSuspension PosRec.recorrect
  dsimp only
  cases r.seek with
  | suspended ret =>
    dsimp only
    split
    · rfl
    · rw [PosRec.evaluate_eq, PosRec.evaluate_eq]
      rfl
  | idle => rfl
  | seeking => rfl
  | inStep => rfl

/-- To end the causes of `K` and then those of `L` is to end both. -/
theorem Holding.afterEnds_afterEnds :
    (y.afterEnds x h off K p).afterEnds x h off L p = y.afterEnds x h off (fun v => K v || L v) p := by
  cases ho : y.1.owner with
  | none => rw [Holding.afterEnds_unowned ho, Holding.afterEnds_unowned ho, Holding.afterEnds_unowned ho]
  | some v =>
    have split' := filter_or (K := K) (L := L) y.1.claims
    cases hk : K v with
    | false =>
      rw [Holding.afterEnds_kept ho hk]
      generalize hy : ({ y.1 with claims := y.1.claims.filter fun w => !K w }, y.2) = y'
      have ho' : y'.1.owner = some v := by rw [← hy]; exact ho
      have hc' : y'.1.claims = y.1.claims.filter fun w => !K w := by rw [← hy]
      cases hl : L v with
      | false =>
        rw [Holding.afterEnds_kept ho' hl, Holding.afterEnds_kept ho (by rw [hk, hl]; rfl), hc', ← split', ← hy]
      | true =>
        have both : (K v || L v) = true := by rw [hl, Bool.or_true]
        cases hc : y'.1.claims.filter fun w => !L w with
        | nil =>
          rw [Holding.afterEnds_released ho' hl hc, Holding.afterEnds_released ho both (by rw [split', ← hc', hc]), ← hy]
        | cons w rest =>
          rw [Holding.afterEnds_handed ho' hl hc, Holding.afterEnds_handed ho both (by rw [split', ← hc', hc]), ← hy]
    | true =>
      have both : (K v || L v) = true := by rw [hk]; rfl
      cases hc : y.1.claims.filter fun w => !K w with
      | nil =>
        rw [hc] at split'
        rw [Holding.afterEnds_released ho hk hc, Holding.afterEnds_released ho both split', Holding.afterEnds_unowned]
        rw [PosRec.released_eq]
        rfl
      | cons w rest =>
        rw [hc] at split'
        rw [Holding.afterEnds_handed ho hk hc]
        generalize hy : ((({ y.1 with owner := some w, claims := rest } : PosRec).handedOver).recorrect h,
          some (x.preemptOrder w p).placed) = y'
        have ho' : y'.1.owner = some w := by rw [← hy]; rfl
        have hc' : y'.1.claims = rest := by rw [← hy]; rfl
        cases hl : L w with
        | false =>
          rw [List.filter_cons_of_pos (by rw [hl]; rfl)] at split'
          rw [Holding.afterEnds_kept ho' hl, Holding.afterEnds_handed ho both split', hc', ← hy]
          rfl
        | true =>
          rw [List.filter_cons_of_neg (by rw [hl]; decide)] at split'
          cases hr : y'.1.claims.filter fun w => !L w with
          | nil =>
            rw [Holding.afterEnds_released ho' hl hr, Holding.afterEnds_released ho both (by rw [split', ← hc', hr]), ← hy]
            exact congrArg (·, _) (PosRec.released_recorrect_congr ..)
          | cons w' rest' =>
            rw [Holding.afterEnds_handed ho' hl hr, Holding.afterEnds_handed ho both (by rw [split', ← hc', hr]), ← hy]
            rfl

theorem Holding.afterEnds_congr (hc : ∀ v, y.1.owner = some v ∨ v ∈ y.1.claims → K v = L v) :
    y.afterEnds x h off K p = y.afterEnds x h off L p := by
  cases ho : y.1.owner with
  | none => rw [Holding.afterEnds_unowned ho, Holding.afterEnds_unowned ho]
  | some v =>
    have same : (y.1.claims.filter fun w => !K w) = y.1.claims.filter fun w => !L w :=
      List.filter_congr fun w hw => by rw [hc w (.inr hw)]
    rw [Holding.afterEnds, Holding.afterEnds, ho]
    dsimp only
    rw [hc v (.inl ho), same]

theorem Holding.afterEnds_none (hc : ∀ v, y.1.owner = some v ∨ v ∈ y.1.claims → K v = false) : y.afterEnds x h off K p = y := by
  rw [Holding.afterEnds_congr (L := fun _ => false) hc]
  cases ho : y.1.owner with
  | none => exact Holding.afterEnds_unowned ho
  | some v =>
    rw [Holding.afterEnds_kept ho rfl]
    simp

/-- The end of one cause, at a position whose pending causes stand in rank order below its owner. -/
theorem Holding.ended_eq_afterEnds (hy : y.1.RankedBy x) : y.ended x h off v p = y.afterEnds x h off (fun w => decide (w = v)) p := by
  have unclaimed (r : PosRec) : r.unclaimed v = { r with claims := r.claims.filter fun w => !decide (w = v) } :=
    congrArg (fun l => { r with claims := l }) (List.filter_congr fun w _ => by by_cases e : w = v <;> simp [e])
  cases ho : y.1.owner with
  | none =>
    have bare : y.1.claims = [] := hy.claims_eq_nil ho
    rw [Holding.ended_notOwned (by rw [ho]; nofun), Holding.afterEnds_unowned ho, PosRec.unclaimed_of_nil bare]
  | some w =>
    by_cases e : w = v
    · subst e
      have apart : (y.1.claims.filter fun u => !decide (u = w)) = y.1.claims :=
        List.filter_eq_self.mpr fun u hu => by simpa using (hy.above w ho u hu).ne.symm
      cases hc : y.1.claims with
      | nil =>
        have bare : ({ y.1 with owner := none } : PosRec) = { y.1 with owner := none, claims := [] } :=
          congrArg (fun l => ({ y.1 with owner := none, claims := l } : PosRec)) hc
        rw [Holding.ended_released ho hc, Holding.afterEnds_released ho (by simp) (apart.trans hc), bare,
          PosRec.unclaimed_of_nil]
        exact congrArg PosRec.claims (PosRec.released_eq h (r := { y.1 with owner := none, claims := [] }) off)
      | cons w' rest =>
        rw [Holding.ended_handed ho hc, Holding.afterEnds_handed ho (by simp) (apart.trans hc), unclaimed]
        have below : (rest.filter fun u => !decide (u = w)) = rest :=
          List.filter_eq_self.mpr fun u hu => by
            simpa using (hy.above w ho u (hc ▸ List.mem_cons_of_mem _ hu)).ne.symm
        exact congrArg (fun l => (({ ({ y.1 with owner := some w', claims := rest } : PosRec).handedOver.recorrect h with
          claims := l } : PosRec), some (x.preemptOrder w' p).placed)) below
    · rw [Holding.ended_notOwned (by rw [ho]; simpa using e), Holding.afterEnds_kept ho (by simpa using e), unclaimed]

theorem Holding.afterEnds_vectors {x' : Pre} (hv : x'.vectors = x.vectors) :
    y.afterEnds x' h off K p = y.afterEnds x h off K p := by
  unfold Holding.afterEnds Pre.preemptOrder
  rw [hv]

/-- The owner and the pending causes left, and the mode and order of a position that loses its owner. -/
theorem Holding.left_afterEnds {l : List VecIx} (hy : y.1.RankedBy x) (hl : l = (y.1.owner.toList ++ y.1.claims).filter fun w => !K w) :
    (y.afterEnds x h off K p).1.owner = l.head? ∧ (y.afterEnds x h off K p).1.claims = l.tail ∧
      (∀ v, y.1.owner = some v → K v = true →
        (y.afterEnds x h off K p).1.mode = (if l = [] then .coordinated else .preempted) ∧
        (y.afterEnds x h off K p).2 = some (x.orderLeft p l)) ∧
      ((∀ v, y.1.owner = some v → K v = false) →
        (y.afterEnds x h off K p).1 = { y.1 with claims := (y.afterEnds x h off K p).1.claims } ∧
        (y.afterEnds x h off K p).2 = y.2) := by
  cases ho : y.1.owner with
  | none =>
    have bare : y.1.claims = [] := hy.claims_eq_nil ho
    rw [ho, bare] at hl
    subst hl
    rw [Holding.afterEnds_unowned ho]
    exact ⟨ho, bare, nofun, fun _ => ⟨rfl, rfl⟩⟩
  | some v =>
    rw [ho] at hl
    cases hk : K v with
    | false =>
      rw [Holding.afterEnds_kept ho hk]
      rw [Option.toList_some, List.singleton_append, List.filter_cons_of_pos (by rw [hk]; rfl)] at hl
      subst hl
      refine ⟨ho, rfl, fun w hw hkw => ?_, fun _ => ⟨rfl, rfl⟩⟩
      obtain rfl := Option.some.inj hw
      cases hk.symm.trans hkw
    | true =>
      rw [Option.toList_some, List.singleton_append, List.filter_cons_of_neg (by rw [hk]; decide)] at hl
      have lost : ∀ P : Prop, (∀ w, some v = some w → K w = false) → P := fun P hn => by
        cases hk.symm.trans (hn v rfl)
      cases l with
      | nil =>
        rw [Holding.afterEnds_released ho hk hl.symm, PosRec.released_eq]
        exact ⟨rfl, rfl, fun _ _ _ => ⟨rfl, rfl⟩, lost _⟩
      | cons w rest =>
        rw [Holding.afterEnds_handed ho hk hl.symm]
        exact ⟨rfl, rfl, fun _ _ _ => ⟨rfl, rfl⟩, lost _⟩

end AfterEnds

/-! ### The TRANSIT causes end (R152) -/

/-- Vector `v` is of class TRANSIT. -/
def State.isTransit (s : State) (v : VecIx) : Bool := decide ((s.pre.vectors.get v).cls = .transit)

/-- One vector's turn when the master leaves COORDINATING. -/
def State.endIfTransit (s : State) (v : VecIx) : State :=
  if s.causeActive v && s.isTransit v then s.endCause v .master else s

theorem State.endTransit_eq (s : State) : s.endTransit = allVectors.foldl State.endIfTransit s := rfl

/-- From `s` to `t` the active causes among the vectors of `K` have ended, as the master left COORDINATING. -/
structure MasterEnds (K : VecIx → Bool) (s t : State) : Prop where
  causes : ∀ v, t.pre.causes.get v = if K v then none else s.pre.causes.get v
  ends : ∀ v, t.pre.lastEnd.get v = if K v = true ∧ s.causeActive v = true then some .master else s.pre.lastEnd.get v
  vectors : t.pre.vectors = s.pre.vectors
  lines : t.pre.lines = s.pre.lines
  holding : ∀ o, t.holding o = (s.holding o).afterEnds s.pre s.plan (!s.ctl.master.runs) K o
  tells : s.Tells [] (fun c => c = .preempt ∧ ∃ v, K v = true ∧ s.causeActive v = true) t
  trunk : s.OrdersOnly t
  keeps : s.KeepsBand t
  kept : t.kept = s.kept

namespace MasterEnds

variable {K L : VecIx → Bool}

theorem none (hs : s.Ranked) (h : ∀ v, K v = true → s.causeActive v = false) : MasterEnds K s s where
  causes v := by
    split
    · next hk => exact Option.isSome_eq_false_iff.mp (h v hk) |> Option.isNone_iff_eq_none.mp
    · rfl
  ends v := (if_neg fun ⟨hk, ha⟩ => by rw [h v hk] at ha; cases ha).symm
  vectors := rfl
  lines := rfl
  holding o := (Holding.afterEnds_none fun v hv => by
    cases hk : K v with
    | false => rfl
    | true => exact absurd ((hs o).active v hv) (by rw [show (s.pre.causes.get v).isSome = false from h v hk]; decide)).symm
  tells := (State.Tells.refl s).iff fun c => by
    refine ⟨False.elim, ?_⟩
    rintro ⟨-, v, hk, ha⟩
    rw [h v hk] at ha
    cases ha
  trunk := .refl s
  keeps := .refl s
  kept := rfl

theorem endCause (v : VecIx) (hs : s.Ranked) (ha : s.causeActive v = true) :
    MasterEnds (fun w => decide (w = v)) s (s.endCause v .master) where
  causes w := by
    rw [State.endCause_pre]
    dsimp only
    rw [get_set]
    exact if_congr (by rw [decide_eq_true_eq, eq_comm]) rfl rfl
  ends w := by
    rw [State.endCause_pre]
    dsimp only
    rw [get_set]
    by_cases e : v = w
    · rw [if_pos e, if_pos ⟨by simp [e], e ▸ ha⟩]
    · rw [if_neg e, if_neg fun h => e (of_decide_eq_true h.1).symm]
  vectors := by rw [State.endCause_pre]
  lines := by rw [State.endCause_pre]
  holding o := (State.holding_endCause v .master o).trans (Holding.ended_eq_afterEnds (hs o))
  tells := (State.Tells.endCause v .master s).iff fun c => by
    refine ⟨fun h => ⟨h, v, by simp, ha⟩, fun h => h.1⟩
  trunk := .endCause v .master s
  keeps := .endCause v .master s
  kept := State.kept_endCause ..

theorem trans (h : MasterEnds K s t) (k : MasterEnds L t u) : MasterEnds (fun v => K v || L v) s u where
  causes v := by
    rw [k.causes, h.causes]
    cases K v <;> cases L v <;> rfl
  ends v := by
    have active : t.causeActive v = (!K v && s.causeActive v) := by
      rw [State.causeActive, h.causes]
      cases K v <;> rfl
    rw [k.ends, h.ends, active]
    cases K v <;> cases L v <;> simp
  vectors := k.vectors.trans h.vectors
  lines := k.lines.trans h.lines
  holding o := by
    rw [k.holding, h.holding, State.plan_of_kept h.kept, h.keeps.ctl, Holding.afterEnds_vectors h.vectors,
      Holding.afterEnds_afterEnds]
  tells := (h.tells.trans k.tells).iff fun c => by
    have active (v : VecIx) : t.causeActive v = true ↔ K v = false ∧ s.causeActive v = true := by
      rw [State.causeActive, h.causes]
      cases K v <;> simp [State.causeActive]
    simp only [active, ← and_or_left, ← exists_or]
    refine and_congr_right fun _ => exists_congr fun v => ?_
    cases K v <;> cases L v <;> simp
  trunk := h.trunk.trans k.trunk
  keeps := h.keeps.trans k.keeps
  kept := k.kept.trans h.kept

theorem congr (h : MasterEnds K s t) (hk : ∀ v, K v = L v) : MasterEnds L s t := funext hk ▸ h

end MasterEnds

theorem State.Ranked.endIfTransit (hs : s.Ranked) (v : VecIx) : (s.endIfTransit v).Ranked := by
  unfold State.endIfTransit
  split
  · exact hs.endCause v .master
  · exact hs

theorem MasterEnds.endIfTransit (hs : s.Ranked) (v : VecIx) :
    MasterEnds (fun w => decide (w = v) && s.isTransit w) s (s.endIfTransit v) := by
  unfold State.endIfTransit
  split
  · next h =>
    obtain ⟨ha, ht⟩ := Bool.and_eq_true_iff.mp h
    refine (MasterEnds.endCause v hs ha).congr fun w => ?_
    by_cases e : w = v
    · rw [e, ht, Bool.and_true]
    · simp [e]
  · next h =>
    refine MasterEnds.none hs fun w hw => ?_
    obtain ⟨e, ht⟩ := Bool.and_eq_true_iff.mp hw
    obtain rfl := of_decide_eq_true e
    rw [ht, Bool.and_true] at h
    exact Bool.eq_false_iff.mpr h

theorem MasterEnds.foldl (L : List VecIx) (hs : s.Ranked) :
    MasterEnds (fun w => decide (w ∈ L) && s.isTransit w) s (L.foldl State.endIfTransit s) := by
  induction L generalizing s with
  | nil => exact MasterEnds.none hs fun w hw => by simp at hw
  | cons v L ih =>
    have first := MasterEnds.endIfTransit hs v
    have transit : (s.endIfTransit v).isTransit = s.isTransit := funext fun w => by rw [State.isTransit, first.vectors]; rfl
    refine (first.trans (ih (hs.endIfTransit v))).congr fun w => ?_
    rw [transit]
    cases s.isTransit w <;> simp

/-- The Preemption Unit's part of a change of master state from `old` (R152). -/
theorem MasterEnds.preMaster (old : Master) (hs : s.Ranked) : MasterEnds (s.endsBy old) s (s.preMaster old) := by
  unfold State.preMaster
  split
  · next e =>
    refine (MasterEnds.foldl allVectors hs).congr fun w => ?_
    have all : w ∈ allVectors := List.mem_finRange w
    simp [State.endsBy, State.isTransit, all, e]
  · next e => exact MasterEnds.none hs fun w hw => by simp [State.endsBy, e] at hw

section TransitEnds

variable {old : Master}

theorem State.losesOwner_iff {o : Pos} : s.losesOwner old o = true ↔ ∃ v, (s.posRec o).owner = some v ∧ s.endsBy old v = true := by
  unfold State.losesOwner
  cases (s.posRec o).owner with
  | none => simp
  | some v => simp

theorem MasterEnds.transitEnds (h : MasterEnds (s.endsBy old) s t) (hs : s.Ranked) : TransitEnds old s t := by
  have record (o : Pos) := Holding.left_afterEnds (x := s.pre) (h := s.plan) (off := !s.ctl.master.runs) (K := s.endsBy old)
    (p := o) (y := s.holding o) (l := s.left old o) (hs o) rfl
  simp only [← h.holding, State.holding_fst, State.holding_snd] at record
  refine ⟨h.causes, h.ends, ⟨h.vectors, h.lines⟩, fun o => ?_, fun o => ?_⟩
  all_goals obtain ⟨owner, claims, lost, kept⟩ := record o
  · refine ⟨owner, claims, ?_⟩
    split
    · next hl =>
      obtain ⟨v, ho, hk⟩ := State.losesOwner_iff.mp hl
      exact (lost v ho hk).1
    · next hl =>
      have := (kept fun v ho => Bool.eq_false_iff.mpr fun hk => hl (State.losesOwner_iff.mpr ⟨v, ho, hk⟩)).1
      exact (congrArg PosRec.mode this :)
  · split
    · next hl =>
      obtain ⟨v, ho, hk⟩ := State.losesOwner_iff.mp hl
      rw [(lost v ho hk).2]
      cases s.left old o <;> rfl
    · next hl => exact (kept fun v ho => Bool.eq_false_iff.mpr fun hk => hl (State.losesOwner_iff.mpr ⟨v, ho, hk⟩)).2

/-- The end of the TRANSIT causes speaks of the owners, the pending causes and the modes of the positions, of the orders and of the
Preemption Unit. -/
theorem TransitEnds.congr {s' t' : State} (h : TransitEnds old s' t') (hp : s'.pre = s.pre)
    (hr : ∀ o, (s'.posRec o).owner = (s.posRec o).owner ∧ (s'.posRec o).claims = (s.posRec o).claims ∧
      (s'.posRec o).mode = (s.posRec o).mode) (ho : s'.trunk.orders = s.trunk.orders) (hp' : t'.pre = t.pre)
    (hr' : ∀ o, (t'.posRec o).owner = (t.posRec o).owner ∧ (t'.posRec o).claims = (t.posRec o).claims ∧
      (t'.posRec o).mode = (t.posRec o).mode) (ho' : t'.trunk.orders = t.trunk.orders) : TransitEnds old s t := by
  have ends : s'.endsBy old = s.endsBy old := funext fun v => by rw [State.endsBy, State.endsBy, hp]
  have left : s'.left old = s.left old := funext fun o => by rw [State.left, State.left, ends, (hr o).1, (hr o).2.1]
  have loses : s'.losesOwner old = s.losesOwner old := funext fun o => by rw [State.losesOwner, State.losesOwner, ends, (hr o).1]
  obtain ⟨causes, hends, settings, holders, orders⟩ := h
  simp only [ends, left, loses, hp, ho, hp', ho'] at causes hends settings holders orders
  refine ⟨causes, hends, settings, fun o => ?_, orders⟩
  rw [← (hr' o).1, ← (hr' o).2.1, ← (hr' o).2.2, ← (hr o).2.2]
  exact holders o

end TransitEnds

end Sys2Proof.Machine
end

section
/-! Changes of the master state as the other blocks take them: the falls to IDLE and FALLBACK, the pauses, the resumption, START, and the
requests and the HOLD line that bring them about (R74, R112, R152, R156 to R161, R165). -/

namespace Sys2Proof.Machine

variable {s t u : State} {old new m : Master} {fs : List FaultInfo} {P Q : AlertClass → Prop}

/-! ### The Band Computer's part (R74) -/

theorem State.bandMaster_rests (old : Master) (hn : new = .idle ∨ new = .fallback) (s : State) :
    s.bandMaster old new = s.setBand { s.band with
      recompute := false
      inFlight := s.band.inFlight.map fun x => { x with interrupted := x.interrupted || decide (old = .coordinating) } } := by
  have flight : (if old = .coordinating then s.setBand s.band.interrupt else s) = s.setBand { s.band with
      inFlight := s.band.inFlight.map fun x => { x with interrupted := x.interrupted || decide (old = .coordinating) } } := by
    split
    · next e => simp [e, Band.interrupt]
    · next e =>
      have same : (s.band.inFlight.map fun x => ({ x with interrupted := x.interrupted || decide (old = .coordinating) } :
          Computation)) = s.band.inFlight := by
        simp [e]
      rw [same]
      rfl
  rcases hn with rfl | rfl <;> exact congrArg (fun u : State => u.setBand { u.band with recompute := false }) flight

theorem State.bandMaster_pauses (hn : new = .hold ∨ new.isDetached = true) (s : State) :
    s.bandMaster .coordinating new = s.setBand s.band.interrupt := by
  cases new with
  | hold => rfl
  | detached r => rfl
  | _ => rcases hn with h | h <;> cases h

theorem State.bandMaster_resumes (ho : old ≠ .coordinating) (s : State) : s.bandMaster old .coordinating = s.trigger := by
  unfold State.bandMaster
  rw [if_neg ho]

theorem State.bandMaster_waits (ho : old ≠ .coordinating) (hn : new = .hold ∨ new.isDetached = true) (s : State) :
    s.bandMaster old new = s := by
  unfold State.bandMaster
  rw [if_neg ho]
  cases new with
  | hold => rfl
  | detached r => rfl
  | _ => rcases hn with h | h <;> cases h

theorem Triggered.congr {s' : State} (h : Triggered m fs P s' t) (hb : s'.band = s.band) (hf : s'.faults = s.faults)
    (hc : s'.clock = s.clock) (hPQ : ∀ c, P c ↔ Q c) : Triggered m fs Q s t := by
  unfold Triggered at h ⊢
  rw [hb] at h
  split
  · next starts =>
    rw [if_pos starts] at h
    obtain ⟨x, band, begun, raised⟩ := h
    exact ⟨x, band, begun, (raised.congr hf.symm hc.symm rfl).iff hPQ⟩
  · next busy =>
    rw [if_neg busy] at h
    exact ⟨h.1, (h.2.congr hf.symm hc.symm rfl).iff hPQ⟩

/-! ### A fall to IDLE or FALLBACK (R112, R152) -/

section Fallen

variable {x : Pre} {h : Header} {K : VecIx → Bool} {p : Pos} {y : Holding} {l : List VecIx}

/-- The end of causes while coordination is off, at a position whose seek has fallen. -/
theorem Holding.afterEnds_fallen (hy : y.1.RankedBy x) (hl : l = (y.1.owner.toList ++ y.1.claims).filter fun w => !K w)
    (ht : y.1.travel = none) (hc : y.1.correction = 0) (hk : y.1.seek = .idle ∨ y.1.seek = .suspended .idle)
    (ho : y.1.owner = none → y.1.seek = .idle) :
    (y.afterEnds x h true K p).1 = { y.1 with
      owner := (y.afterEnds x h true K p).1.owner, claims := (y.afterEnds x h true K p).1.claims
      mode := (y.afterEnds x h true K p).1.mode, seek := if l = [] then .idle else y.1.seek } := by
  have waits : y.1.seek ≠ .seeking := by rcases hk with e | e <;> rw [e] <;> nofun
  cases e : y.1.owner with
  | none =>
    rw [hy.claims_eq_nil e, e, Option.toList_none, List.append_nil, List.filter_nil] at hl
    rw [Holding.afterEnds_unowned e, if_pos hl, ← ho e]
  | some v =>
    rw [e, Option.toList_some, List.singleton_append] at hl
    cases hv : K v with
    | false =>
      rw [List.filter_cons_of_pos (by rw [hv]; rfl)] at hl
      rw [Holding.afterEnds_kept e hv, if_neg (by rw [hl]; nofun)]
    | true =>
      rw [List.filter_cons_of_neg (by rw [hv]; decide)] at hl
      cases l with
      | nil =>
        rw [Holding.afterEnds_released e hv hl.symm, if_pos rfl]
        have idle : (({ y.1 with owner := none, claims := [] } : PosRec).released h true) =
            { y.1 with owner := none, claims := [], mode := .coordinated, seek := .idle } := by
          unfold PosRec.released PosRec.endSuspension
          dsimp only
          rcases hk with e | e
          · rw [e]
          · rw [e]
            dsimp only
            rw [if_pos (.inr rfl), ht]
        rw [idle, PosRec.recorrect, PosRec.roundCorrection_eq_owed, PosRec.owed_of_seek (by nofun), ← hc]
      | cons w rest =>
        have zero : PosRec.owed h ({ y.1 with owner := some w, claims := rest } : PosRec).handedOver = 0 :=
          PosRec.owed_of_seek waits
        rw [Holding.afterEnds_handed e hv hl.symm, if_neg (by nofun), PosRec.recorrect, PosRec.roundCorrection_eq_owed, zero, ← hc]
        rfl

end Fallen

/-- What the fall of the master makes of a position, before any cause ends (R112). -/
theorem PosRec.masterFalls_recorrect (h : Header) (r : PosRec) : r.masterFalls.recorrect h = { r with
    target := none, travel := none, correction := 0, seek := r.masterFalls.seek } := by
  have waits : r.masterFalls.seek ≠ .seeking := by
    unfold PosRec.masterFalls
    dsimp only
    split <;> nofun
  rw [PosRec.recorrect, PosRec.roundCorrection_eq_owed, PosRec.owed_of_seek waits]
  rfl

theorem PosRec.seek_masterFalls (r : PosRec) : (r.masterFalls.seek = .idle ∨ r.masterFalls.seek = .suspended .idle) ∧
    (r.owner = none → r.masterFalls.seek = .idle) := by
  unfold PosRec.masterFalls
  dsimp only
  split
  · next e => exact ⟨.inr rfl, fun h => by rw [h] at e; cases e⟩
  · exact ⟨.inl rfl, fun _ => rfl⟩

/-- The positions and the causes at a fall: the seeks first, then the TRANSIT causes (R112, R152, R165). -/
def State.falls (old : Master) (s : State) : State := (s.sweep fun _ => PosRec.masterFalls).preMaster old

theorem SeeksFall.seek_ne (h : SeeksFall old s t) (o : Pos) : (t.posRec o).seek ≠ .inStep := by
  rw [h.seeks]
  dsimp only
  split
  · split <;> nofun
  · nofun

section Falls

variable (old)

theorem State.Ranked.sweep {g : Header → PosRec → PosRec} (hg : ∀ h r, PosRec.SameHolders r (g h r)) (hs : s.Ranked) :
    (s.sweep g).Ranked :=
  hs.of_records (fun p => by rw [State.posRec_sweep]; exact hg ..) (by rw [State.sweep_pre]) (by rw [State.sweep_pre])

theorem State.Ranked.falls_ends (hs : s.Ranked) : MasterEnds (s.endsBy old) (s.sweep fun _ => PosRec.masterFalls) (s.falls old) := by
  have swept : (s.sweep fun _ => PosRec.masterFalls).endsBy old = s.endsBy old := funext fun v => by
    rw [State.endsBy, State.sweep_pre]
    rfl
  rw [← swept]
  exact .preMaster old (hs.sweep fun _ _ => ⟨rfl, rfl⟩)

theorem State.Ranked.seeksFall (hs : s.Ranked) (off : s.ctl.master.runs = false) : SeeksFall old s (s.falls old) := by
  have ends := hs.falls_ends old
  have swept (o : Pos) : (s.sweep fun _ => PosRec.masterFalls).posRec o = _ :=
    (s.posRec_sweep _ o).trans (PosRec.masterFalls_recorrect s.plan (s.posRec o))
  have ranked : (s.sweep fun _ => PosRec.masterFalls).Ranked := hs.sweep fun _ _ => ⟨rfl, rfl⟩
  have endsBy : (s.sweep fun _ => PosRec.masterFalls).endsBy old = s.endsBy old := funext fun v => by
    rw [State.endsBy, State.sweep_pre]
    rfl
  refine ⟨?_, fun o => ?_⟩
  · rw [← endsBy] at ends
    exact (ends.transitEnds ranked).congr (s.sweep_pre _) (fun o => by rw [swept]; exact ⟨rfl, rfl, rfl⟩)
      (by rw [State.sweep_trunk]) rfl (fun _ => ⟨rfl, rfl, rfl⟩) rfl
  · have record := congrArg Prod.fst (ends.holding o)
    rw [(s.sweep_keepsBand _).ctl, off, Bool.not_false] at record
    have fallen := Holding.afterEnds_fallen (h := (s.sweep fun _ => PosRec.masterFalls).plan) (K := s.endsBy old) (p := o)
      (y := (s.sweep fun _ => PosRec.masterFalls).holding o) (l := s.left old o) (ranked o) (by rw [State.holding_fst, swept]; rfl)
      (by rw [State.holding_fst, swept]) (by rw [State.holding_fst, swept])
      (by rw [State.holding_fst, swept]; exact (s.posRec o).seek_masterFalls.1)
      (by rw [State.holding_fst, swept]; exact (s.posRec o).seek_masterFalls.2)
    rw [← record, State.holding_fst, State.holding_fst, swept] at fallen
    have seek : (if s.left old o = [] then SeekState.idle else (s.posRec o).masterFalls.seek) =
        match (s.posRec o).seek with
        | .suspended _ => if s.left old o = [] then SeekState.idle else .suspended .idle
        | _ => .idle := by
      split
      · cases (s.posRec o).seek <;> rfl
      · next some_left =>
        have owned : ∃ v, (s.posRec o).owner = some v := Option.ne_none_iff_exists'.mp fun e =>
          some_left (by rw [State.left, e, (hs o).claims_eq_nil e]; rfl)
        obtain ⟨v, e⟩ := owned
        unfold PosRec.masterFalls
        rw [e]
        cases (s.posRec o).seek <;> rfl
    rw [seek] at fallen
    exact fallen

/-- What a fall tells: PREEMPT when a TRANSIT cause ends by it; no position enters IN_STEP. -/
theorem State.Ranked.raises_falls (hs : s.Ranked) (off : s.ctl.master.runs = false) :
    Raises [] (fun c => c = .preempt ∧ ∃ v, s.endsBy old v = true ∧ s.causeActive v = true) s (s.falls old) := by
  have ends := hs.falls_ends old
  have fallen := (hs.seeksFall old off).seek_ne
  refine ((Raises.sweep (fun _ => PosRec.masterFalls) s).trans ends.tells.raises (s.sweep_clock _)).iff fun c => ?_
  have swept (o : Pos) : ((s.sweep fun _ => PosRec.masterFalls).posRec o).seek ≠ .inStep := by
    rw [State.posRec_sweep]
    intro e
    rcases (s.posRec o).seek_masterFalls.1 with k | k <;> exact absurd (k.symm.trans e) (by decide)
  have never : ¬EntersStep s (s.sweep fun _ => PosRec.masterFalls) := fun ⟨o, ho, _⟩ => swept o ho
  have never' : ¬EntersStep (s.sweep fun _ => PosRec.masterFalls) (s.falls old) := fun ⟨o, ho, _⟩ => fallen o ho
  simp only [never, never', and_false, false_or, or_false, State.causeActive, State.sweep_pre]

theorem State.falls_keepsBand : s.KeepsBand (s.falls old) := (s.sweep_keepsBand _).trans (.preMaster old _)

theorem State.kept_sweep {g : Header → PosRec → PosRec} (hg : ∀ h r, (g h r).enrolment = r.enrolment) (s : State) :
    (s.sweep g).kept = s.kept := by
  have one (s : State) (p : Pos) : (s.putSeek p (g s.plan (s.posRec p))).kept = s.kept := State.kept_putSeek (hg ..)
  exact foldl_keeps State.kept _ one allPos s

theorem State.falls_trunk : s.OrdersOnly (s.falls old) :=
  (State.OrdersOnly.of_eq (s.sweep_trunk _)).trans (.preMaster old _)

theorem State.kept_falls : (s.falls old).kept = s.kept := by
  rw [State.falls, State.kept_preMaster]
  exact State.kept_sweep (g := fun _ => PosRec.masterFalls) (fun _ r => PosRec.masterFalls_enrolment r) s

end Falls

theorem SeeksFall.congr {s' t' : State} (h : SeeksFall old s' t') (hp : s'.pos = s.pos) (ht : s'.trunk.orders = s.trunk.orders)
    (hpre : s'.pre = s.pre) (hp' : t'.pos = t.pos) (ht' : t'.trunk.orders = t.trunk.orders) (hpre' : t'.pre = t.pre) :
    SeeksFall old s t := by
  have before (o : Pos) : s'.posRec o = s.posRec o := State.posRec_of_pos hp o
  have after (o : Pos) : t'.posRec o = t.posRec o := State.posRec_of_pos hp' o
  refine ⟨h.transit.congr hpre (fun o => by rw [before]; exact ⟨rfl, rfl, rfl⟩) ht hpre'
    (fun o => by rw [after]; exact ⟨rfl, rfl, rfl⟩) ht', fun o => ?_⟩
  have left : s'.left old o = s.left old o := by simp only [State.left, State.endsBy, before, hpre]
  have seeks := h.seeks o
  rw [before, after, left] at seeks
  exact seeks

/-- The master falls from IDLE, COORDINATING or HOLD (R74, R112, R152, R165). -/
theorem State.Ranked.fallsTo (hs : s.Ranked) (hm : (s.ctl.master = .coordinating ∨ s.ctl.master = .hold) ∧ (m = .idle ∨ m = .fallback) ∨
    s.ctl.master = .idle ∧ m = .fallback) : FallsTo m [] s (s.changeMaster m) := by
  have rests : m = .idle ∨ m = .fallback := hm.elim (fun h => h.2) fun h => .inr h.2
  have off : (s.setMaster m).ctl.master.runs = false := by rcases rests with rfl | rfl <;> rfl
  have ranked : (s.setMaster m).Ranked := hs
  generalize hw : (s.setMaster m).falls s.ctl.master = w
  obtain ⟨b, hb, run⟩ : ∃ b, b = { s.band with
        recompute := false
        inFlight := s.band.inFlight.map fun x => { x with interrupted := x.interrupted || decide (s.ctl.master = .coordinating) } } ∧
      s.changeMaster m = (w.alert .state).setBand b := by
    refine ⟨_, rfl, ?_⟩
    rw [State.changeMaster, State.seekMaster_falls hm]
    have band : w.band = s.band := hw ▸ (State.falls_keepsBand s.ctl.master (s := s.setMaster m)).band
    rw [← band, ← hw]
    exact State.bandMaster_rests s.ctl.master rests (((s.setMaster m).falls s.ctl.master).alert .state)
  have keeps : (s.setMaster m).KeepsBand w := hw ▸ State.falls_keepsBand s.ctl.master
  have fall : SeeksFall s.ctl.master (s.setMaster m) w := hw ▸ ranked.seeksFall s.ctl.master off
  have raised := ranked.raises_falls s.ctl.master off
  have trunk : (s.setMaster m).OrdersOnly w := hw ▸ State.falls_trunk s.ctl.master
  have kept : w.kept = s.kept := by rw [← hw, State.kept_falls, State.kept_setMaster]
  have clock : w.clock = s.clock := State.clock_of_kept kept
  rw [hw] at raised
  rw [run]
  refine ⟨?_, fall.congr rfl rfl rfl rfl rfl rfl, ?_, ?_, trunk, ?_⟩
  · exact keeps.ctl
  · exact hb
  · refine ((raised.trans (.alert .state w) clock).congr (s' := s) (t' := (w.alert .state).setBand b) rfl rfl rfl).iff fun c => ?_
    have never : ¬EntersStep s ((w.alert .state).setBand b) := fun ⟨o, ho, _⟩ => fall.seek_ne o ho
    rw [MasterAlerts, or_comm]
    simp only [never, and_false, or_false]
    rfl
  · rw [State.kept_setBand, State.kept_alert, kept]

end Sys2Proof.Machine
end

section
/-! The pauses, the resumption and START, and the requests and the HOLD line that bring them about (R74, R112, R152, R156 to R161). -/

namespace Sys2Proof.Machine

variable {s t u : State} {old new m : Master} {fs : List FaultInfo} {P Q : AlertClass → Prop}

theorem State.OrdersOnly.trunk_eq (h : s.OrdersOnly t) : t.trunk = { s.trunk with orders := t.trunk.orders } := by
  have whole : { t.trunk with orders := s.trunk.orders } = s.trunk := h
  exact congrArg (fun x : Trunk => { x with orders := t.trunk.orders }) whole

theorem FallsTo.fault (h : FallsTo m fs s t) (i : FaultInfo) : FallsTo m (fs ++ [i]) s (t.fault i) where
  ctl := h.ctl
  positions := h.positions.congr rfl rfl rfl rfl rfl rfl
  band := h.band
  raised := (h.raised.trans (.fault i t) (State.clock_of_kept h.kept)).iff fun _ => iff_of_eq (or_false _)
  trunk := h.trunk
  kept := (State.kept_fault i t).trans h.kept

/-! ### COORDINATING to HOLD or DETACHED -/

/-- The TRANSIT causes end while coordination is kept in mind, and the Fault and Alert Unit learns of the change (R152, R165). -/
theorem MasterAlerts.of_tells {w : State}
    (h : s.Tells [] (fun c => c = .preempt ∧ ∃ v, s.endsBy old v = true ∧ s.causeActive v = true) w) :
    Raises [] (MasterAlerts old s w) s (w.alert .state) :=
  (h.raises.trans (.alert .state w) h.clock).iff fun c => by
    rw [MasterAlerts, or_comm]
    rfl

/-- A cut attempt gets no second one (R134). -/
def State.cutIf (b : Bool) (s : State) : State := if b then s.cutExchange else s

theorem State.cutIf_eq (b : Bool) (s : State) : s.cutIf b = s.setTrunk { s.trunk with
    exchange := if b then s.trunk.exchange.map fun x => { x with cut := true } else s.trunk.exchange } := by
  cases b <;> rfl

theorem State.Ranked.pauses (hs : s.Ranked) (hc : s.ctl.master = .coordinating) (hm : m = .hold ∨ m.isDetached = true)
    (runs : m.runs = true) : Pauses m s ((s.changeMaster m).cutIf m.isDetached) := by
  have ends : MasterEnds (s.endsBy .coordinating) (s.setMaster m) ((s.setMaster m).preMaster .coordinating) := by
    have ranked : (s.setMaster m).Ranked := hs
    exact .preMaster .coordinating ranked
  generalize hw : (s.setMaster m).preMaster .coordinating = w at ends
  have run : s.changeMaster m = (w.alert .state).setBand w.band.interrupt := by
    rw [State.changeMaster, hc, State.seekMaster_stays (.inl rfl) (.inr hm), hw, State.bandMaster_pauses hm]
    rfl
  generalize ht : (s.changeMaster m).cutIf m.isDetached = t
  rw [State.cutIf_eq, run] at ht
  have pos : t.pos = w.pos := by rw [← ht]; rfl
  have pre : t.pre = w.pre := by rw [← ht]; rfl
  have orders : t.trunk.orders = w.trunk.orders := by rw [← ht]; rfl
  have record (o : Pos) : t.posRec o = ((s.holding o).afterEnds s.pre s.plan false (s.endsBy .coordinating) o).1 := by
    have off : (!(s.setMaster m).ctl.master.runs) = false := by
      show (!m.runs) = false
      rw [runs]
      rfl
    have held := congrArg Prod.fst (ends.holding o)
    rw [off] at held
    exact (State.posRec_of_pos pos o).trans held
  refine ⟨by rw [← ht]; exact ends.keeps.ctl, ?_, ?_, fun o ho => ?_, fun o ho => ?_, ?_, ?_, ?_⟩
  · rw [← ht]
    show Band.interrupt _ = _
    rw [ends.keeps.band]
    rfl
  · have same (o : Pos) : w.posRec o = t.posRec o := (State.posRec_of_pos pos o).symm
    exact (MasterEnds.transitEnds (s := s.setMaster m) ends hs).congr rfl (fun _ => ⟨rfl, rfl, rfl⟩) rfl pre.symm
      (fun o => by rw [same]; exact ⟨rfl, rfl, rfl⟩) orders.symm
  · have kept := (Holding.left_afterEnds (x := s.pre) (h := s.plan) (off := false) (K := s.endsBy .coordinating) (p := o)
      (y := s.holding o) (hs o) rfl).2.2.2 fun v hv => Bool.eq_false_iff.mpr fun hk => by
        rw [State.losesOwner_iff.mpr ⟨v, hv, hk⟩] at ho
        cases ho
    rw [← record] at kept
    exact kept.1
  · obtain ⟨v, hv, hk⟩ := State.losesOwner_iff.mp ho
    have left : s.left .coordinating o = (s.posRec o).claims.filter fun w => !s.endsBy .coordinating w := by
      rw [State.left, hv, Option.toList_some, List.singleton_append, List.filter_cons_of_neg (by rw [hk]; decide)]
    extract_lets r r'
    cases hl : s.left .coordinating o with
    | nil =>
      have back := record o
      rw [Holding.afterEnds_released hv hk (left.symm.trans hl), State.holding_fst] at back
      refine ⟨?_, fun h => absurd rfl h, fun ret _ hret => ⟨fun hi => ?_, fun hi => ?_⟩⟩
      · rw [show r' = _ from back, PosRec.recorrect, PosRec.roundCorrection_eq_owed]
        have e := PosRec.released_eq s.plan (r := { s.posRec o with owner := none, claims := [] }) false
        generalize PosRec.released _ _ _ = z at e
        rw [e]
        rfl
      · show (t.posRec o).seek = _ ∧ (t.posRec o).travel = _
        rw [back]
        exact PosRec.endSuspension_idle s.plan (r := { s.posRec o with owner := none, claims := [], mode := .coordinated }) hret
          (.inl hi)
      · show (t.posRec o).travel = _ ∧ (t.posRec o).seek = _
        have e := PosRec.endSuspension_seeks s.plan (r := { s.posRec o with owner := none, claims := [], mode := .coordinated })
          (off := false) hret (by rw [hi]; decide)
        rw [back, PosRec.released, e, PosRec.evaluate_eq]
        exact ⟨rfl, rfl⟩
    | cons w' rest =>
      have given := record o
      rw [Holding.afterEnds_handed hv hk (left.symm.trans hl), State.holding_fst] at given
      refine ⟨?_, fun _ => ?_, fun _ h => absurd h (by nofun)⟩
      · rw [show r' = _ from given, PosRec.recorrect, PosRec.roundCorrection_eq_owed]
        rfl
      · show (t.posRec o).seek = _ ∧ (t.posRec o).travel = _
        rw [given]
        exact ⟨rfl, rfl⟩
  · have same : t.faults = (w.alert .state).faults := by rw [← ht]; rfl
    have seeks (o : Pos) : (t.posRec o).seek = (w.posRec o).seek := congrArg PosRec.seek (State.posRec_of_pos pos o)
    refine ((MasterAlerts.of_tells (s := s.setMaster m) ends.tells).congr (s' := s) rfl rfl same).iff fun c => ?_
    rw [MasterAlerts, MasterAlerts, EntersStep.congr (s := s) (t := w) (fun _ => rfl) seeks]
    rfl
  · have whole : w.trunk = { s.trunk with orders := w.trunk.orders } := State.OrdersOnly.trunk_eq (s := s) ends.trunk
    have flight : w.trunk.exchange = s.trunk.exchange := by rw [whole]
    have cut : t.trunk = { w.trunk with
        exchange := if m.isDetached then w.trunk.exchange.map fun x => { x with cut := true } else w.trunk.exchange } := by
      rw [← ht]
      rfl
    rw [orders, cut, flight]
    generalize (if m.isDetached = true then s.trunk.exchange.map fun x => { x with cut := true } else s.trunk.exchange) = flown
    exact congrArg (fun x : Trunk => { x with exchange := flown }) whole
  · rw [← ht, State.kept_setTrunk, State.kept_setBand, State.kept_alert, ends.kept, State.kept_setMaster]

/-- HOLD to COORDINATING (R160). -/
theorem State.resumes (hm : s.ctl.master = .hold) : Resumes s (s.changeMaster .coordinating) := by
  have run : s.changeMaster .coordinating = ((s.setMaster .coordinating).alert .state).trigger := by
    rw [State.changeMaster, hm, State.seekMaster_stays (.inr rfl) (.inl rfl), State.bandMaster_resumes (by nofun)]
    rfl
  have alerted : Raises [] (· = .state) s ((s.setMaster .coordinating).alert .state) := Raises.of_alert .state rfl
  refine ⟨State.changeMaster_ctl _ s, ?_, ?_, State.kept_changeMaster ..⟩
  · rw [run]
    exact State.trigger_triggered rfl rfl rfl alerted
  · rw [run]
    exact ⟨State.trigger_pos _, State.trigger_trunk _, State.trigger_pre _⟩

end Sys2Proof.Machine
end

section
/-! START, STOP, FALLBACK, HOLD and RESUME, and the HOLD and KEY lines (R156 to R161). -/

namespace Sys2Proof.Machine

variable {s t u : State} {old new m : Master} {fs : List FaultInfo} {P Q : AlertClass → Prop}

/-! ### IDLE or FALLBACK to COORDINATING or HOLD (R112) -/

/-- The rise of the master writes seek, direction and remaining. -/
theorem PosRec.masterRises_eq (h : Header) (r : PosRec) : r.masterRises h = { r with
    seek := (r.masterRises h).seek, travel := (r.masterRises h).travel } := by
  unfold PosRec.masterRises
  split
  · split
    · rw [PosRec.evaluate_eq]
    · rfl
  · rfl
  · rfl

/-- The alerts of a rise: no cause ends by it. -/
theorem MasterAlerts.of_rest (ho : old ≠ .coordinating) (c : AlertClass) :
    MasterAlerts old s t c ↔ (c = .seek ∧ EntersStep s t) ∨ c = .state := by
  have none : ¬∃ v, s.endsBy old v = true ∧ (s.pre.causes.get v).isSome = true := by
    rintro ⟨v, hv, _⟩
    simp [State.endsBy, ho] at hv
  rw [MasterAlerts]
  simp only [none, and_false, false_or, or_comm]

/-- From `s` to `t` the master rises to `m`: every seek is written, and a COORDINATING master is a trigger (R112, R74, R165). -/
structure Rises (m : Master) (s t : State) : Prop where
  ctl : t.ctl = { s.ctl with master := m }
  records : ∀ o, t.posRec o = ((s.posRec o).masterRises s.plan).recorrect s.plan
  waits : m = .hold → t.band = s.band ∧ Raises [] (MasterAlerts s.ctl.master s t) s t
  triggers : m = .coordinating → Triggered m [] (MasterAlerts s.ctl.master s t) s t
  pre : t.pre = s.pre
  trunk : t.trunk = s.trunk
  kept : t.kept = s.kept

theorem State.rises (ho : s.ctl.master = .idle ∨ s.ctl.master = .fallback) (hm : m = .coordinating ∨ m = .hold) :
    Rises m s (s.changeMaster m) := by
  have off : s.ctl.master ≠ .coordinating := by rcases ho with e | e <;> rw [e] <;> nofun
  generalize hw : (s.setMaster m).sweep PosRec.masterRises = w
  have run : s.changeMaster m = (w.alert .state).bandMaster s.ctl.master m := by
    rw [State.changeMaster, State.seekMaster_rises ho hm, hw, State.preMaster, if_neg off]
  have keeps : (s.setMaster m).KeepsBand w := hw ▸ State.sweep_keepsBand _ _
  have clock : w.clock = s.clock := hw ▸ State.sweep_clock _ (s.setMaster m)
  have record (o : Pos) : w.posRec o = ((s.posRec o).masterRises s.plan).recorrect s.plan :=
    hw ▸ State.posRec_sweep _ (s.setMaster m) o
  have pre : w.pre = s.pre := hw ▸ State.sweep_pre _ (s.setMaster m)
  have trunk : w.trunk = s.trunk := hw ▸ State.sweep_trunk _ (s.setMaster m)
  have raised : Raises [] (fun c => (c = .seek ∧ EntersStep s w) ∨ c = .state) s (w.alert .state) := by
    have swept : Raises [] (fun c => c = .seek ∧ EntersStep s w) s w :=
      hw ▸ (Raises.sweep PosRec.masterRises (s.setMaster m)).congr rfl rfl rfl
    exact swept.trans (.alert .state w) clock
  have alerts (hp : ∀ o, ((s.changeMaster m).posRec o).seek = (w.posRec o).seek) (c : AlertClass) :
      ((c = .seek ∧ EntersStep s w) ∨ c = .state) ↔ MasterAlerts s.ctl.master s (s.changeMaster m) c := by
    rw [MasterAlerts.of_rest off, EntersStep.congr (s := s) (t := w) (fun _ => rfl) hp]
  have same : (s.changeMaster m).pos = w.pos ∧ (s.changeMaster m).pre = w.pre ∧ (s.changeMaster m).trunk = w.trunk := by
    rw [run]
    rcases hm with rfl | rfl
    · rw [State.bandMaster_resumes off]
      exact ⟨State.trigger_pos _, State.trigger_pre _, State.trigger_trunk _⟩
    · rw [State.bandMaster_waits off (.inl rfl)]
      exact ⟨rfl, rfl, rfl⟩
  have seeks (o : Pos) : ((s.changeMaster m).posRec o).seek = (w.posRec o).seek := congrArg PosRec.seek (State.posRec_of_pos same.1 o)
  refine ⟨State.changeMaster_ctl m s, fun o => (State.posRec_of_pos same.1 o).trans (record o), ?_, ?_, same.2.1.trans pre,
    same.2.2.trans trunk, State.kept_changeMaster m s⟩
  · rintro rfl
    have run : s.changeMaster .hold = w.alert .state := run.trans (State.bandMaster_waits off (.inl rfl) _)
    have raised' := raised.iff (alerts seeks)
    rw [← run] at raised'
    exact ⟨by rw [run]; exact keeps.band, raised'⟩
  · rintro rfl
    have run : s.changeMaster .coordinating = (w.alert .state).trigger := run.trans (State.bandMaster_resumes off _)
    have triggered : Triggered .coordinating [] _ s (w.alert .state).trigger :=
      State.trigger_triggered (by rw [State.alert_ctl, keeps.ctl]; rfl) keeps.band clock (raised.iff (alerts seeks))
    rw [← run] at triggered
    exact triggered

/-- What of a rise START says position by position (R112). -/
theorem PosRec.masterRises_recorrect (h : Header) (r : PosRec) :
    let r' := (r.masterRises h).recorrect h
    (r.seek = .idle → r.enrolment.isEnrolled = true → r'.travel = r.seekTravel h ∧
      r'.seek = if r.target.isSome = true ∧ r.target = r.running then .inStep else .seeking) ∧
    (r.seek = .idle → r.enrolment.isEnrolled = false → r'.seek = .idle ∧ r'.travel = r.travel) ∧
    (∀ x, r.seek = .suspended x → r'.seek = .suspended .seeking ∧ r'.travel = r.travel) ∧
    (r.seek = .seeking ∨ r.seek = .inStep → r'.seek = r.seek ∧ r'.travel = r.travel) ∧
    r'.correction = r'.owed h ∧ { r' with seek := r.seek, travel := r.travel, correction := r.correction } = r := by
  refine ⟨fun hk he => ?_, fun hk he => ?_, fun x hk => ?_, fun hk => ?_, ?_, ?_⟩
  · have up : r.masterRises h = r.evaluate h := by rw [PosRec.masterRises, hk]; exact if_pos he
    rw [up, PosRec.evaluate_eq]
    exact ⟨rfl, rfl⟩
  · have up : r.masterRises h = r := by rw [PosRec.masterRises, hk]; exact if_neg (by rw [he]; decide)
    rw [up]
    exact ⟨hk, rfl⟩
  · rw [PosRec.masterRises, hk]
    exact ⟨rfl, rfl⟩
  · have up : r.masterRises h = r := by rcases hk with e | e <;> rw [PosRec.masterRises, e]
    rw [up]
    exact ⟨rfl, rfl⟩
  · exact PosRec.roundCorrection_eq_owed h _
  · rw [PosRec.masterRises_eq]
    rfl

/-! ### The requests -/

section Requests

variable {α : Type} {fieldMay : Bool} {parse : List Byte → Option α} {own : α → State → Ruling} {body : List Byte} {a : α}
variable {p : PortId} {q : Port} {kind tag : Byte}

/-- A request of a SUPERVISORY sender whose effect keeps the configuration and the ports. -/
theorem request_supervised_effect {c : ReplyCode} {result : List Byte} (ht : s.CanTake p ⟨kind, tag, body⟩ q)
    (hs : s.senderClass p = .supervisory) (hb : parse body = some a) (hk : kind.toNat < 128)
    (ho : own a (s.setPort p q) = ⟨t, ⟨c, result⟩⟩) (kept : t.kept = (s.setPort p q).kept) :
    powered (State.request p kind fieldMay parse own tag body) s =
      .next (t.replying p q ⟨kind, tag, body⟩ .supervisory c result) := by
  rw [← hs]
  exact request_effect ht (.inl hs) hb hk ho kept

end Requests

/-- Settles O17: a STOP makes the master fall. -/
theorem stopRule : Obligations.StopRule := by
  intro s p tag q ht hs answer
  have ruled {t : State} {c : ReplyCode} (h : (s.setPort p q).ruleStop = ⟨t, ⟨c, []⟩⟩) (kept : t.kept = (s.setPort p q).kept) :
      exec (.stop p tag []) s = answer t c :=
    request_supervised_effect (own := fun _ => State.ruleStop) (parse := noFields) ht hs rfl (by decide) h kept
  have here {c : ReplyCode} (h : (s.setPort p q).ruleStop = ⟨s.setPort p q, ⟨c, []⟩⟩) : exec (.stop p tag []) s = answer s c :=
    request_supervised (own := fun _ => State.ruleStop) (parse := noFields) ht hs rfl (by decide) h
  have ctl : (s.setPort p q).ctl = s.ctl := State.setPort_ctl ..
  refine ⟨fun h => here ?_, fun h => here ?_, fun h law => ⟨(s.setPort p q).changeMaster .idle, ruled ?_ (State.kept_changeMaster ..), ?_⟩⟩
  · rw [State.ruleStop, ctl, h]
    rfl
  · rcases h with h | ⟨r, h⟩ <;> rw [State.ruleStop, ctl, h] <;> rfl
  · rcases h with h | h <;> rw [State.ruleStop, ctl, h] <;> rfl
  · exact (causeLaw_iff.mp law).1.setPort.fallsTo (.inl ⟨by rwa [ctl], .inl rfl⟩)

/-- Settles O18: a FALLBACK makes the master fall, with its fault. -/
theorem fallbackRule : Obligations.FallbackRule := by
  intro s p tag q ht hs answer
  have ruled {t : State} {c : ReplyCode} (h : (s.setPort p q).ruleFallback = ⟨t, ⟨c, []⟩⟩) (kept : t.kept = (s.setPort p q).kept) :
      exec (.fallback p tag []) s = answer t c :=
    request_supervised_effect (own := fun _ => State.ruleFallback) (parse := noFields) ht hs rfl (by decide) h kept
  have here {c : ReplyCode} (h : (s.setPort p q).ruleFallback = ⟨s.setPort p q, ⟨c, []⟩⟩) :
      exec (.fallback p tag []) s = answer s c :=
    request_supervised (own := fun _ => State.ruleFallback) (parse := noFields) ht hs rfl (by decide) h
  have ctl : (s.setPort p q).ctl = s.ctl := State.setPort_ctl ..
  refine ⟨fun h => here ?_, ?_, fun h law => ⟨(s.setPort p q).enterFallback .request, ruled ?_ (State.kept_enterFallback ..), ?_⟩⟩
  · rw [State.ruleFallback, ctl, h]
    rfl
  · rintro ⟨r, h⟩
    exact here (by rw [State.ruleFallback, ctl, h]; rfl)
  · rcases h with h | h | h <;> rw [State.ruleFallback, ctl, h] <;> rfl
  · refine FallsTo.fault (fs := []) ((causeLaw_iff.mp law).1.setPort.fallsTo ?_) (.fallbackEntered .request)
    rw [ctl]
    rcases h with h | h | h
    · exact .inr ⟨h, rfl⟩
    · exact .inl ⟨.inl h, .inr rfl⟩
    · exact .inl ⟨.inr h, .inr rfl⟩

/-- Settles O16: the refusals in their order, then the rise. -/
theorem startRule : Obligations.StartRule := by
  intro s p tag q ht hs answer rest
  have ruled {t : State} {c : ReplyCode} {result : List Byte} (h : (s.setPort p q).ruleStart = ⟨t, ⟨c, result⟩⟩)
      (kept : t.kept = (s.setPort p q).kept) : exec (.start p tag []) s = answer t c result :=
    request_supervised_effect (own := fun _ => State.ruleStart) (parse := noFields) ht hs rfl (by decide) h kept
  have here {c : ReplyCode} {result : List Byte} (h : (s.setPort p q).ruleStart = ⟨s.setPort p q, ⟨c, result⟩⟩) :
      exec (.start p tag []) s = answer s c result :=
    request_supervised (own := fun _ => State.ruleStart) (parse := noFields) ht hs rfl (by decide) h
  have span : (s.setPort p q).spanComplete s.enrolledList = s.spanComplete s.enrolledList := by cases p <;> rfl
  have rule : (s.setPort p q).ruleStart =
      if s.ctl.master ≠ .idle ∧ s.ctl.master ≠ .fallback then (s.setPort p q).refuse .state
      else if s.enrolledCount < 2 then (s.setPort p q).refuse .mismatch
      else if s.spanComplete s.enrolledList then ((s.setPort p q).changeMaster s.ctl.startState).grant [s.ctl.startState.code]
      else (s.setPort p q).refuse .mismatch := by
    rw [State.ruleStart, State.setPort_ctl, State.enrolledCount_setPort, State.enrolledList_setPort, span]
  refine ⟨fun h => here ?_, fun h few => here ?_, fun h many gap => here ?_, fun h many whole => ?_⟩
  · rw [rule, if_pos (not_or.mp h)]
    rfl
  all_goals rw [if_neg fun e => h.elim e.1 e.2] at rule
  · rw [rule, if_pos few]
    rfl
  · rw [rule, if_neg (by omega), if_neg (by rw [gap]; decide)]
    rfl
  · intro source
    have ctl : (s.setPort p q).ctl = s.ctl := State.setPort_ctl ..
    have holds : source ↔ s.ctl.holdSource = true := by rw [Ctl.holdSource, Bool.or_eq_true]
    have state : s.ctl.startState = .coordinating ∨ s.ctl.startState = .hold := by
      unfold Ctl.startState
      split
      · exact .inr rfl
      · exact .inl rfl
    have rises := State.rises (s := s.setPort p q) (by rw [ctl]; exact h) state
    generalize ht : (s.setPort p q).changeMaster s.ctl.startState = t at rises rule
    have alerts (c : AlertClass) : MasterAlerts s.ctl.master (s.setPort p q) t c ↔ MasterAlerts s.ctl.master s t c := by
      cases p <;> rfl
    have band : (s.setPort p q).band = s.band := by cases p <;> rfl
    have faults : (s.setPort p q).faults = s.faults := by cases p <;> rfl
    have clock : (s.setPort p q).clock = s.clock := by cases p <;> rfl
    have plan : (s.setPort p q).plan = s.plan := by cases p <;> rfl
    have same (o : Pos) : (s.setPort p q).posRec o = s.posRec o := by cases p <;> rfl
    obtain ⟨hctl, records, waits, triggers, pre, trunk, kept⟩ := rises
    rw [ctl] at hctl waits triggers
    refine ⟨t, s.ctl.startState, fun h => if_pos (holds.mp h), fun h => if_neg fun e => h (holds.mpr e), ?_, hctl, fun o => ?_,
      fun e => ?_, fun e => ?_, pre.trans (State.setPort_pre ..), trunk.trans (by cases p <;> rfl), kept⟩
    · have code : s.ctl.startState.code = if s.ctl.startState = .hold then 2 else 1 := by
        rcases state with e | e <;> rw [e] <;> rfl
      refine ruled ?_ kept
      rw [rule, if_neg (by omega), if_pos whole, code]
      rfl
    · have record := records o
      rw [plan, same] at record
      dsimp only
      rw [record]
      exact PosRec.masterRises_recorrect s.plan (s.posRec o)
    · obtain ⟨hband, raised⟩ := waits e
      exact ⟨hband.trans band, (raised.congr faults.symm clock.symm rfl).iff alerts⟩
    · exact (triggers e).congr band faults clock alerts

/-- Settles O19: what HOLD and RESUME do to the flag, and when they change the master state. -/
theorem holdResumeRule : Obligations.HoldResumeRule := by
  intro s p tag q answer
  have held (b : Bool) : (s.setPort p q).setHeld b = (s.withHeld b).setPort p q := by cases p <;> rfl
  have held' (b : Bool) : (s.setPort p q).withHeld b = (s.withHeld b).setPort p q := by cases p <;> rfl
  have ctl (b : Bool) : ((s.withHeld b).setPort p q).ctl = { s.ctl with held := b } := State.setPort_ctl ..
  refine ⟨fun ht => ?_, fun ht => ?_⟩
  · have ruled {t : State} (h : (s.setPort p q).ruleHold = ⟨t.setPort p q, ⟨.ok, []⟩⟩) : exec (.hold p tag []) s = answer 13 t :=
      request_answered (own := fun _ => State.ruleHold) (parse := noFields) ht (.inr rfl) rfl (by decide) h
    refine ⟨fun h => ruled ?_, fun h law => ⟨((s.withHeld true).setPort p q).changeMaster .hold, ruled ?_, ?_⟩⟩
    · rw [State.ruleHold, held, State.holdRaised, if_neg (by rw [ctl]; exact h)]
      rfl
    · rw [State.ruleHold, held, State.holdRaised, if_pos (by rw [ctl]; exact h),
        State.setPort_of_kept (s := s.withHeld true) (State.kept_changeMaster ..)]
      rfl
    · rw [held']
      have ranked : (s.withHeld true).Ranked := (causeLaw_iff.mp law).1
      exact ranked.setPort.pauses (by rw [ctl]; exact h) (.inl rfl) rfl
  · have ruled {t : State} (h : (s.setPort p q).ruleResume = ⟨t.setPort p q, ⟨.ok, []⟩⟩) : exec (.resume p tag []) s = answer 14 t :=
      request_answered (own := fun _ => State.ruleResume) (parse := noFields) ht (.inr rfl) rfl (by decide) h
    have source : ((s.withHeld false).setPort p q).ctl.holdSource = s.ctl.holdLine.active := by
      rw [ctl, Ctl.holdSource, Bool.or_false]
    refine ⟨fun h => ruled ?_, fun h hl => ⟨((s.withHeld false).setPort p q).changeMaster .coordinating, ruled ?_, ?_⟩⟩
    · rw [State.ruleResume, held, State.holdWithdrawn, source, ctl, if_neg]
      · rfl
      · rintro ⟨e, off⟩
        rcases h with h | h
        · exact h e
        · cases off.symm.trans h
    · rw [State.ruleResume, held, State.holdWithdrawn, source, ctl, if_pos ⟨h, hl⟩,
        State.setPort_of_kept (s := s.withHeld false) (State.kept_changeMaster ..)]
      rfl
    · rw [held']
      exact State.resumes (by rw [ctl]; exact h)

/-! ### The HOLD and KEY lines (R156, R159, R160) -/

theorem CtlLine.settles_iff (l : CtlLine) (high : Bool) (now : Nat) : l.settles high now = true ↔ l.Due high now := by
  simp only [CtlLine.settles, CtlLine.Due, Input.due, Bool.and_eq_true, decide_eq_true_eq, Bool.not_eq_true']
  exact Iff.rfl

/-- An event of an input line at its time. -/
theorem powered_timed {f : Nat → State → State} (time : Nat) (hp : s.powered = true) :
    powered (State.timed time f) s = .next (f (max s.now time) { s with now := max s.now time }) := by
  unfold powered
  rw [if_pos hp]
  rfl

/-- Settles O41: by what is due, the line's state and the master state. -/
theorem holdAndKeyLineRule : Obligations.HoldAndKeyLineRule := by
  intro s time hp u hold key
  have on : exec (.holdLineActive time) s = .next (u.holdLineAt true u.now) := powered_timed time hp
  have off : exec (.holdLineInactive time) s = .next (u.holdLineAt false u.now) := powered_timed time hp
  have keyOn : exec (.keyLineActive time) s = .next (u.keyLineAt true u.now) := powered_timed time hp
  have keyOff : exec (.keyLineInactive time) s = .next (u.keyLineAt false u.now) := powered_timed time hp
  have waits {b : Bool} (h : ¬s.ctl.holdLine.Due b u.now) : u.holdLineAt b u.now = u :=
    if_neg fun e => h ((CtlLine.settles_iff ..).mp e)
  have settles {b : Bool} (h : s.ctl.holdLine.Due b u.now) : u.holdLineAt b u.now =
      if s.ctl.holdLine.active = b then hold b else if b then (hold b).holdRaised else (hold b).holdWithdrawn :=
    if_pos ((CtlLine.settles_iff ..).mpr h)
  have keyWaits {b : Bool} (h : ¬s.ctl.keyLine.Due b u.now) : u.keyLineAt b u.now = u :=
    if_neg fun e => h ((CtlLine.settles_iff ..).mp e)
  have keySettles {b : Bool} (h : s.ctl.keyLine.Due b u.now) : u.keyLineAt b u.now = key b :=
    if_pos ((CtlLine.settles_iff ..).mpr h)
  refine ⟨fun h => by rw [on, waits h], fun h hn => ?_, fun h hl hm law => ?_, fun h => by rw [off, waits h], fun h hn => ?_,
    fun h hl hm hh => ?_, fun h => ⟨by rw [keyOn, keySettles h], rfl⟩, fun h => by rw [keyOn, keyWaits h],
    fun h => ⟨by rw [keyOff, keySettles h], rfl⟩, fun h => by rw [keyOff, keyWaits h]⟩
  · rw [on, settles h]
    split
    · rfl
    · next hl => exact congrArg Host.Outcome.next (if_neg (hn.resolve_left hl))
  · refine ⟨(hold true).changeMaster .hold, ?_, ?_⟩
    · rw [on, settles h, hl]
      exact congrArg Host.Outcome.next (if_pos hm)
    · have ranked : (hold true).Ranked := (causeLaw_iff.mp law).1
      exact ranked.pauses hm (.inl rfl) rfl
  · rw [off, settles h]
    split
    · rfl
    · next hl =>
      refine congrArg Host.Outcome.next ((if_neg Bool.false_ne_true).trans (if_neg ?_))
      rintro ⟨hm, source⟩
      rcases hn with e | e | e
      · exact hl e
      · exact e hm
      · have none : s.ctl.held = false := source
        cases none.symm.trans e
  · refine ⟨(hold false).changeMaster .coordinating, ?_, State.resumes hm⟩
    have step : (hold false).holdWithdrawn = (hold false).changeMaster .coordinating := if_pos ⟨hm, hh⟩
    rw [off, settles h, hl, if_neg (by decide), if_neg (by decide), step]

end Sys2Proof.Machine
end

section
/-! Accepted ENROL and EXCLUDE: what an enrolment event writes and tells (R7, R9, R11, R113, R118, R119). -/

namespace Sys2Proof.Machine

variable {s t u : State} {fs gs : List FaultInfo} {P Q : AlertClass → Prop}

/-! ### The miss count of a position (R118, R128) -/

theorem Raises.quiet (h : Raises fs P s t) (hf : u.faults = t.faults) : Raises fs P s u := h.congr rfl rfl hf

/-- A seek written that does not enter IN_STEP tells nothing. -/
theorem Raises.putSeek_quiet {p : Pos} {r : PosRec} (h : Raises fs P s t) (hc : t.clock = s.clock)
    (hr : r.seek = .inStep → (t.posRec p).seek = .inStep) : Raises fs P s (t.putSeek p r) := by
  have none : ¬EntersStep t (t.putSeek p r) := by
    rw [State.entersStep_putSeek]
    exact fun ⟨e, n⟩ => n (hr e)
  have both := (h.trans (Raises.putSeek p r t) hc).iff (Q := P) fun c => by simp only [none, and_false, or_false]
  rwa [List.append_nil] at both

/-- The fault a miss count offers: JUNCTION_LOST at the change to LOST. -/
def State.lostBy (s : State) (p : Pos) (n : Nat) : List FaultInfo :=
  if healthOf n = .lost ∧ (s.posRec p).health ≠ .lost then [.junctionLost p] else []

/-- A miss count raises JUNCTION at the change to LOST and at the change from LOST to ONLINE. -/
def State.turnsHealth (s : State) (p : Pos) (n : Nat) : Prop :=
  healthOf n = .lost ∧ (s.posRec p).health ≠ .lost ∨ healthOf n = .online ∧ (s.posRec p).health = .lost

theorem Raises.setMisses (p : Pos) (n : Nat) (s : State) :
    Raises (s.lostBy p n) (fun c => c = .junction ∧ s.turnsHealth p n) s (s.setMisses p n) := by
  unfold State.setMisses State.lostBy State.turnsHealth
  dsimp only
  have put : Raises [] (fun _ => False) s (s.setPosRec p { s.posRec p with misses := n, health := healthOf n }) :=
    .of_faults_eq rfl
  split
  · next h =>
    exact ((put.trans (.fault (.junctionLost p) _) rfl).trans (.alert .junction _) rfl).iff fun c => by simp [h]
  · next h =>
    split
    · next k => exact (put.trans (.alert .junction _) rfl).iff fun c => by simp [k]
    · next k => exact put.iff fun c => by rw [or_iff_right h, false_iff]; exact fun e => k e.2

theorem State.setMisses_frame (p : Pos) (n : Nat) (s : State) :
    (s.setMisses p n).trunk = s.trunk ∧ (s.setMisses p n).pre = s.pre ∧ (s.setMisses p n).band = s.band ∧
      (s.setMisses p n).ctl = s.ctl := by
  unfold State.setMisses
  dsimp only
  split
  · exact ⟨rfl, rfl, rfl, rfl⟩
  · split <;> exact ⟨rfl, rfl, rfl, rfl⟩

theorem State.lostBy_zero (p : Pos) : s.lostBy p 0 = [] := if_neg fun h => absurd h.1 (by decide)

theorem State.turnsHealth_zero (p : Pos) : s.turnsHealth p 0 ↔ (s.posRec p).health = .lost := by
  simp [State.turnsHealth, healthOf]

/-- An answer, an enrolment and a return clear the miss count (R118, R119, R128). -/
theorem Raises.clearMiss (p : Pos) (s : State) :
    Raises [] (fun c => c = .junction ∧ (s.posRec p).health = .lost) s (s.setMisses p 0) := by
  have raised := Raises.setMisses p 0 s
  rw [State.lostBy_zero] at raised
  exact raised.iff fun c => by rw [State.turnsHealth_zero]

theorem State.setMisses_clock (p : Pos) (n : Nat) (s : State) : (s.setMisses p n).clock = s.clock :=
  State.clock_of_kept (State.kept_setMisses p n s)

/-! ### What an enrolment event leaves alone -/

section Enrolment

variable (port : PortId) (p : Pos)

/-- Up to the trigger, the trunk, the Preemption Unit, the Band Computer and the State Controller stand. -/
def State.SameBlocks (s t : State) : Prop := t.trunk = s.trunk ∧ t.pre = s.pre ∧ t.band = s.band ∧ t.ctl = s.ctl

theorem State.putSeek_frame (p : Pos) (r : PosRec) (s : State) : s.SameBlocks (s.putSeek p r) :=
  ⟨s.putSeek_trunk p r, s.putSeek_pre p r, (State.KeepsBand.putSeek p r s).band, s.putSeek_ctl p r⟩

theorem State.SameBlocks.trans (h : s.SameBlocks t) (k : t.SameBlocks u) : s.SameBlocks u :=
  ⟨k.1.trans h.1, k.2.1.trans h.2.1, k.2.2.1.trans h.2.2.1, k.2.2.2.trans h.2.2.2⟩

/-- The store write and the membership generation of an enrolment event (R11, R16). -/
theorem State.bumped_quiet (o : Option PortId) (e : Enrolment) (s : State) :
    Raises [] (fun _ => False) s (s.putEnrolment o p e).bumpMembership ∧ s.SameBlocks (s.putEnrolment o p e).bumpMembership ∧
      (s.putEnrolment o p e).bumpMembership.clock = s.clock :=
  ⟨.of_faults_eq rfl, ⟨rfl, rfl, rfl, rfl⟩, rfl⟩

theorem State.health_bumped (o : Option PortId) (e : Enrolment) (s : State) :
    ((s.putEnrolment o p e).bumpMembership.posRec p).health = (s.posRec p).health := by
  rw [State.posRec_bumpMembership, State.posRec_putEnrolment, if_pos rfl]

/-- VACANT or EXCLUDED to ENROLLED: JUNCTION when the position was LOST (R118). -/
theorem State.enrolls_tells (d : Nat) (s : State) :
    Raises [] (fun c => c = .junction ∧ (s.posRec p).health = .lost) s (s.enrolls port p d) ∧
      s.SameBlocks (s.enrolls port p d) := by
  obtain ⟨quiet, same, clock⟩ := State.bumped_quiet p (some port) (.enrolled d) s
  have health := State.health_bumped p (some port) (.enrolled d) s
  unfold State.enrolls
  generalize (s.putEnrolment (some port) p (.enrolled d)).bumpMembership = t at quiet same clock health
  have cleared : Raises [] (fun c => c = .junction ∧ (s.posRec p).health = .lost) s ((t.setMisses p 0).setAvailable p false) := by
    rw [← health]
    exact ((quiet.trans (Raises.clearMiss p t) clock).iff fun _ => iff_of_eq (false_or _)).quiet rfl
  refine ⟨Raises.putSeek_quiet cleared ((State.setMisses_clock p 0 t).trans clock) fun h => ?_,
    same.trans (State.SameBlocks.trans (State.setMisses_frame p 0 t) (State.putSeek_frame p _ ((t.setMisses p 0).setAvailable p false)))⟩
  exfalso
  revert h
  show (if _ then SeekState.seeking else .idle) = .inStep → False
  split <;> nofun

/-- ENROLLED to EXCLUDED by the operator: nothing is told (R9). -/
theorem State.excludes_tells (e : Enrolment) (s : State) :
    Raises [] (fun _ => False) s (s.leaves port p e .excludes) ∧ s.SameBlocks (s.leaves port p e .excludes) := by
  obtain ⟨quiet, same, clock⟩ := State.bumped_quiet p (some port) e s
  unfold State.leaves
  generalize (s.putEnrolment (some port) p e).bumpMembership = t at quiet same clock
  exact ⟨Raises.putSeek_quiet (quiet.quiet rfl) clock fun h => absurd h (PosRec.seek_leaves_ne _).1,
    same.trans (State.putSeek_frame p _ (t.setAvailable p false))⟩

/-- ENROLLED to VACANT: JUNCTION when the position was LOST; the order goes (R9, R118, R119). -/
theorem State.vacates_tells (s : State) :
    Raises [] (fun c => c = .junction ∧ (s.posRec p).health = .lost) s (s.leaves port p .vacant (.vacates true)) ∧
      (s.setOrder p none).SameBlocks (s.leaves port p .vacant (.vacates true)) := by
  obtain ⟨quiet, same, clock⟩ := State.bumped_quiet p (some port) .vacant s
  have health := State.health_bumped p (some port) .vacant s
  unfold State.leaves
  generalize (s.putEnrolment (some port) p .vacant).bumpMembership = t at quiet same clock health
  obtain ⟨trunk, pre, band, ctl⟩ := same
  have cleared : Raises [] (fun c => c = .junction ∧ (s.posRec p).health = .lost) s
      (((t.setMisses p 0).setAvailable p false).setOrder p none) := by
    rw [← health]
    exact ((quiet.trans (Raises.clearMiss p t) clock).iff fun _ => iff_of_eq (false_or _)).quiet rfl
  obtain ⟨mtrunk, mpre, mband, mctl⟩ := State.setMisses_frame p 0 t
  have cut : (s.setOrder p none).SameBlocks (((t.setMisses p 0).setAvailable p false).setOrder p none) := by
    refine ⟨?_, mpre.trans pre, mband.trans band, mctl.trans ctl⟩
    show { (t.setMisses p 0).trunk with orders := (t.setMisses p 0).trunk.orders.set p.val none p.isLt } = _
    rw [mtrunk, trunk]
    rfl
  exact ⟨Raises.putSeek_quiet cleared ((State.setMisses_clock p 0 t).trans clock) fun h => absurd h (PosRec.seek_leaves_ne _).1,
    cut.trans (State.putSeek_frame p _ (((t.setMisses p 0).setAvailable p false).setOrder p none))⟩

/-- EXCLUDED to VACANT (R9, R118, R119). -/
theorem State.vacateExcluded_tells (s : State) :
    Raises [] (fun c => c = .junction ∧ (s.posRec p).health = .lost) s (s.vacateExcluded port p) ∧
      (s.setOrder p none).SameBlocks (s.vacateExcluded port p) := by
  have quiet : Raises [] (fun _ => False) s (s.putEnrolment (some port) p .vacant) := .of_faults_eq rfl
  have health : ((s.putEnrolment (some port) p .vacant).posRec p).health = (s.posRec p).health := by
    rw [State.posRec_putEnrolment, if_pos rfl]
  unfold State.vacateExcluded
  have clock : (s.putEnrolment (some port) p .vacant).clock = s.clock := rfl
  have same : s.SameBlocks (s.putEnrolment (some port) p .vacant) := ⟨rfl, rfl, rfl, rfl⟩
  generalize s.putEnrolment (some port) p .vacant = t at quiet health clock same
  obtain ⟨trunk, pre, band, ctl⟩ := same
  obtain ⟨mtrunk, mpre, mband, mctl⟩ := State.setMisses_frame p 0 t
  refine ⟨?_, ?_, mpre.trans pre, mband.trans band, mctl.trans ctl⟩
  · rw [← health]
    exact ((quiet.trans (Raises.clearMiss p t) clock).iff fun _ => iff_of_eq (false_or _)).quiet rfl
  · show { (t.setMisses p 0).trunk with orders := (t.setMisses p 0).trunk.orders.set p.val none p.isLt } = _
    rw [mtrunk, trunk]
    rfl

end Enrolment

end Sys2Proof.Machine
end

section
/-! Accepted ENROL and EXCLUDE (R7, R9). -/

namespace Sys2Proof.Machine

variable {s t u : State} {fs gs : List FaultInfo} {P Q : AlertClass → Prop} {m : Master}

/-! ### A port that answers -/

theorem State.snapshot_setPort (p : PortId) (q : Port) (s : State) : (s.setPort p q).snapshot = s.snapshot := by
  cases p <;> rfl

/-- What the blocks do does not show the reply. -/
theorem Triggered.setPort (p : PortId) (q : Port) (h : Triggered m fs P s t) : Triggered m fs P s (t.setPort p q) := by
  have band : (t.setPort p q).band = t.band := by cases p <;> rfl
  have faults : (t.setPort p q).faults = t.faults := by cases p <;> rfl
  unfold Triggered at h ⊢
  rw [band]
  split
  · next starts =>
    rw [if_pos starts] at h
    obtain ⟨x, hb, ⟨snap, begun⟩, raised⟩ := h
    exact ⟨x, hb, ⟨snap.trans (State.snapshot_setPort p q t).symm, begun⟩, raised.congr rfl rfl faults⟩
  · next busy =>
    rw [if_neg busy] at h
    exact ⟨h.1, h.2.congr rfl rfl faults⟩

theorem PosRec.roundCorrection_of_travel {h : Header} {r : PosRec} (ht : r.travel = none) : r.roundCorrection h = 0 := by
  unfold PosRec.roundCorrection
  rw [ht]
  cases r.seek <;> simp

/-- The store of a change of enrolment. -/
theorem State.kept_bumped (o : Option PortId) (p : Pos) (e : Enrolment) (c : EnrolmentChange) (s : State) :
    (((s.putEnrolment o p e).bumpMembership).enrolmentEvent p c).kept = ((s.putEnrolment o p e).bumpMembership).kept :=
  State.kept_enrolmentEvent ..

/-- Settles O7: the enrolment event and the trigger. -/
theorem enrolAccepted : Obligations.EnrolAccepted := by
  intro s port tag a d q p drop ht hs hn hd hf hdrop may
  have before (o : Pos) : (s.setPort port q).posRec o = s.posRec o := by cases port <;> rfl
  have out : (s.posRec p).enrolment.isEnrolled = false ∧ ¬((s.posRec p).enrolment = .vacant ∧ d.toNat = 0) ∧
      (s.posRec p).enrolment.addressFor d.toNat = drop := by
    rcases hdrop with ⟨he, e, h0⟩ | ⟨held, c, he, e⟩
    · exact ⟨by rw [he]; rfl, fun h => h0 (e ▸ h.2), by rw [Enrolment.addressFor, if_neg (e ▸ h0), e]⟩
    · exact ⟨by rw [he]; rfl, (fun h => by rw [he] at h; cases h.1), by rw [he, e]; rfl⟩
  obtain ⟨notEnrolled, named, address⟩ := out
  have taken : (s.setPort port q).dropTaken p d.toNat = s.dropTaken p d.toNat := by cases port <;> rfl
  have mayEnrol : (s.setPort port q).mayEnrol p = s.mayEnrol p := by cases port <;> rfl
  have rule : (s.setPort port q).ruleEnrol port (a.toNat, d.toNat) = ((s.setPort port q).enrolAt port p drop).grant [] := by
    rw [ruleEnrol_not_enrolled hn hd (by rw [taken]; rintro ⟨h0, h⟩; rw [hf h0] at h; cases h)
      (by rw [before]; exact notEnrolled) (by rw [before]; exact named), mayEnrol, if_pos may, before, address]
  obtain ⟨tells, trunk, pre, band, ctl⟩ := State.enrolls_tells port p drop (s.setPort port q)
  have kept : ((s.setPort port q).enrolls port p drop).trigger.kept =
      (((s.setPort port q).putEnrolment (some port) p (.enrolled drop)).bumpMembership).kept :=
    (State.kept_trigger _).trans (State.kept_bumped ..)
  have record (o : Pos) := State.posRec_enrolls (s := s.setPort port q) port p o drop
  have triggered := State.trigger_triggered (u := (s.setPort port q).enrolls port p drop) (m := s.ctl.master)
    (by rw [ctl, State.setPort_ctl]) band
    ((State.clock_of_kept (State.kept_bumped ..)).trans rfl) tells
  have pos := State.trigger_pos ((s.setPort port q).enrolls port p drop)
  have trunk' := (State.trigger_trunk ((s.setPort port q).enrolls port p drop)).trans trunk
  have pre' := (State.trigger_pre ((s.setPort port q).enrolls port p drop)).trans pre
  have ctl' := (State.trigger_ctl ((s.setPort port q).enrolls port p drop)).trans ctl
  have run := exec_enrol_granted (u := (s.setPort port q).enrolAt port p drop) ht hs rule
  rw [show (s.setPort port q).enrolAt port p drop = ((s.setPort port q).enrolls port p drop).trigger from rfl] at run
  generalize ((s.setPort port q).enrolls port p drop).trigger = z at run kept triggered pos trunk' pre' ctl'
  have port' : z.port port = q := (State.port_of_kept kept port).trans (by cases port <;> rfl)
  rw [port'] at run
  have record' (o : Pos) : (z.replying port q ⟨2, tag, [a, d]⟩ .supervisory .ok []).posRec o =
      if p = o then (s.posRec p).enrolledAt s.plan drop s.ctl.master.runs else s.posRec o := by
    have plan : (s.setPort port q).plan = s.plan := by cases port <;> rfl
    rw [← before, ← before, ← plan, ← State.setPort_ctl port q (s := s), ← record, ← State.posRec_of_pos pos]
    cases port <;> rfl
  refine ⟨_, run, ?_, fun o ho => ?_, fun r hr => ?_, ?_, ?_, ?_, ?_, ?_, ?_, ?_, ?_, ?_, ?_, ?_, ?_, ?_, ?_, ?_⟩
  · extract_lets r
    have hr : r = (s.posRec p).enrolledAt s.plan drop s.ctl.master.runs := (record' p).trans (if_pos rfl)
    clear_value r
    subst hr
    exact ⟨rfl, rfl, rfl, rfl, rfl, rfl, rfl, rfl, rfl, PosRec.roundCorrection_of_travel rfl, rfl, rfl, rfl, rfl, rfl, rfl⟩
  · rw [record', if_neg ho.symm]
  · cases port <;> cases r
    · exact absurd rfl hr
    · exact congrArg Kept.field kept
    · exact congrArg Kept.centre kept
    · exact absurd rfl hr
  · cases port <;> exact congrArg Kept.memGen kept
  · cases port <;> exact congrArg Kept.store kept
  · cases port <;> exact congrArg Kept.unfinished kept
  · exact (triggered.setPort port _).congr (by cases port <;> rfl) (by cases port <;> rfl) (by cases port <;> rfl)
      fun c => by rw [before]
  · cases port <;> rfl
  · cases port <;> exact congrArg Kept.links kept
  · cases port <;> exact congrArg Kept.plans kept
  · cases port <;> exact congrArg Kept.clock kept
  · cases port <;> exact congrArg Kept.meas kept
  · cases port <;> exact trunk'
  · cases port <;> exact pre'
  · cases port <;> exact ctl'
  · cases port <;> exact congrArg Kept.powered kept
  · cases port <;> exact congrArg Kept.now kept
  · cases port <;> exact congrArg Kept.pending kept

/-! ### EXCLUDE -/

theorem State.pos_eq_set {p : Pos} {r : PosRec} (h : ∀ o, t.posRec o = if p = o then r else s.posRec o) :
    t.pos = s.pos.set p.val r p.isLt :=
  ext_get fun o => by rw [get_set]; exact h o

/-- An ENROLLED position without an owner, taken out (R9, R113, R119). -/
theorem PosRec.excludedAs_unowned {h : Header} {r : PosRec} (ho : r.owner = none) (e : Enrolment) : r.excludedAs h e = { r with
    enrolment := e, available := false, target := none, running := none, travel := none, seek := .idle, correction := 0 } := by
  rw [PosRec.excludedAs, PosRec.recorrect, PosRec.roundCorrection_of_travel rfl, PosRec.leaves, ho]
  rfl

theorem PosRec.vacatedFrom_unowned {h : Header} {r : PosRec} (ho : r.owner = none) : r.vacatedFrom h = { r with
    enrolment := .vacant, available := false, target := none, running := none, travel := none, seek := .idle, correction := 0
    misses := 0, health := .online } := by
  rw [PosRec.vacatedFrom, PosRec.recorrect, PosRec.roundCorrection_of_travel rfl, PosRec.leaves, ho]
  rfl

/-- The chain is that of the state itself. -/
theorem State.kept_chain (t : State) : t.kept.chain = Vector.ofFn fun p => (t.posRec p).enrolment := rfl

theorem State.kept_stored {k k' : Kept} (h : t.kept = k)
    (hb : ({ k with chain := Vector.ofFn fun p => (t.posRec p).enrolment } : Kept) = k') : t.kept = k' := by
  rw [← hb, ← State.kept_chain, h]

/-- Settles O9: row by row. -/
theorem excludeAccepted : Obligations.ExcludeAccepted := by
  intro s port tag a v q p ht hs hn hv r answer stored fresh
  have before (o : Pos) : (s.setPort port q).posRec o = s.posRec o := by cases port <;> rfl
  have plan : (s.setPort port q).plan = s.plan := by cases port <;> rfl
  have pos : (s.setPort port q).pos = s.pos := by cases port <;> rfl
  have trunk : (s.setPort port q).trunk = s.trunk := by cases port <;> rfl
  have faults : (s.setPort port q).faults = s.faults := by cases port <;> rfl
  have band : (s.setPort port q).band = s.band := by cases port <;> rfl
  have clock : (s.setPort port q).clock = s.clock := by cases port <;> rfl
  have count : (s.setPort port q).enrolledCount = s.enrolledCount := State.enrolledCount_setPort ..
  have run {z : State} (h : (s.setPort port q).ruleExclude port (a.toNat, v.toNat) = z.grant []) (hq : z.port port = q) :
      exec (.exclude port tag [a, v]) s = answer z := by
    rw [exec_exclude_granted ht hs h, hq]
  have same {z : State} (h : (s.setPort port q).ruleExclude port (a.toNat, v.toNat) = (z.setPort port q).grant []) :
      exec (.exclude port tag [a, v]) s = answer z :=
    request_supervised (own := State.ruleExclude port) ht hs rfl (by decide) h
  have taken {y : State} {e : Enrolment} {r' : PosRec} {orders : Vector (Option OrderEntry) 24} {P : AlertClass → Prop}
      (rule : (s.setPort port q).ruleExclude port (a.toNat, v.toNat) = y.trigger.grant [])
      (tells : Raises [] P (s.setPort port q) y) (hP : ∀ c, P c ↔ fresh c)
      (record : ∀ o, y.posRec o = if p = o then r' else (s.setPort port q).posRec o)
      (htrunk : y.trunk = { s.trunk with orders }) (hpre : y.pre = (s.setPort port q).pre)
      (hband : y.band = (s.setPort port q).band) (hctl : y.ctl = (s.setPort port q).ctl)
      (hkept : y.kept = (((s.setPort port q).putEnrolment (some port) p e).bumpMembership).kept) :
      ∃ t, exec (.exclude port tag [a, v]) s = answer t ∧ t.pos = s.pos.set p.val r' p.isLt ∧
        t.trunk = { s.trunk with orders } ∧ Triggered s.ctl.master [] fresh s t ∧ t.pre = s.pre ∧ t.ctl = s.ctl ∧
        t.kept = (stored e { s.setPort port q with pos := t.pos, memGen := s.memGen + 1 }).kept := by
    have kept := (State.kept_trigger y).trans hkept
    have hq : y.trigger.port port = q := (State.port_of_kept kept port).trans (by cases port <;> rfl)
    have clock' : y.clock = (s.setPort port q).clock := (State.clock_of_kept hkept).trans rfl
    refine ⟨y.trigger, run rule hq, ?_, (State.trigger_trunk y).trans htrunk, ?_,
      (State.trigger_pre y).trans (hpre.trans (State.setPort_pre ..)),
      (State.trigger_ctl y).trans (hctl.trans (State.setPort_ctl ..)), ?_⟩
    · rw [State.trigger_pos]
      exact State.pos_eq_set fun o => by rw [record, before]
    · exact (State.trigger_triggered (by rw [hctl, State.setPort_ctl]) hband clock' tells).congr band faults clock hP
    · refine State.kept_stored kept ?_
      cases port <;> rfl
  refine ⟨fun drop he ho hfew => ?_, fun drop he h0 => ?_, fun drop he h0 => ?_, fun drop cause he h1 => ?_, fun he h1 => ?_⟩
  · have unowned : ((s.setPort port q).posRec p).owner = none := by rw [before]; exact ho
    have rule := ruleExclude_enrolled (port := port) hn hv (by rw [before]; exact he)
    have free : ¬(((s.setPort port q).posRec p).owner.isSome = true ∨
        (s.setPort port q).ctl.master.runs = true ∧ (s.setPort port q).enrolledCount < 3) := by
      rw [unowned, State.setPort_ctl, count]
      rintro (h | ⟨h, few⟩)
      · cases h
      · exact absurd (hfew h) (by omega)
    rw [if_neg free] at rule
    by_cases h1 : v.toNat = 1
    · obtain ⟨tells, htrunk, hpre, hband, hctl⟩ := State.vacates_tells port p (s.setPort port q)
      have record (o : Pos) := State.posRec_leaves_vacates (s := s.setPort port q) port p o
      rw [PosRec.vacatedFrom_unowned unowned, before] at record
      rw [show (v.toNat == 1) = true by rw [h1]; rfl] at rule
      have all := taken (e := .vacant) (orders := s.trunk.orders.set p.val none p.isLt) rule tells
        (fun c => by rw [before]; exact and_congr_right fun _ => (and_iff_right h1).symm) record
        (htrunk.trans (by cases port <;> rfl)) hpre hband hctl (State.kept_bumped ..)
      simp only [h1, if_true]
      exact all
    · obtain ⟨tells, htrunk, hpre, hband, hctl⟩ := State.excludes_tells port p (.excluded drop .operator) (s.setPort port q)
      have record (o : Pos) := State.posRec_leaves_excludes (s := s.setPort port q) port p o (.excluded drop .operator)
      rw [PosRec.excludedAs_unowned unowned, before] at record
      rw [show (v.toNat == 1) = false from beq_false_of_ne h1] at rule
      have all := taken (e := .excluded drop .operator) (orders := s.trunk.orders) rule tells
        (fun c => by simp [fresh, h1]) record
        (htrunk.trans (by cases port <;> rfl)) hpre hband hctl (State.kept_bumped ..)
      simp only [h1, if_false]
      exact all
  · refine same ?_
    rw [ruleExclude_excluded hn hv (by rw [before]; exact he), if_pos h0]
    rfl
  · refine same ?_
    rw [ruleExclude_excluded hn hv (by rw [before]; exact he), if_pos h0]
    cases port <;> rfl
  · have rule := ruleExclude_excluded (port := port) hn hv (by rw [before]; exact he)
    rw [if_neg (by omega)] at rule
    obtain ⟨tells, htrunk, hpre, hband, hctl⟩ := State.vacateExcluded_tells port p (s.setPort port q)
    have record (o : Pos) := State.posRec_vacateExcluded (s := s.setPort port q) port p o
    have kept : ((s.setPort port q).vacateExcluded port p).kept = ((s.setPort port q).putEnrolment (some port) p .vacant).kept :=
      State.kept_enrolmentEvent ..
    generalize (s.setPort port q).vacateExcluded port p = y at rule tells htrunk hpre hband hctl record kept
    have hq : y.port port = q := (State.port_of_kept kept port).trans (by cases port <;> rfl)
    refine ⟨y, run rule hq, State.pos_eq_set fun o => by rw [record, before, before]; rfl, htrunk.trans (by cases port <;> rfl),
      (tells.congr faults.symm clock.symm rfl).iff fun c => ?_, hband.trans band, hpre.trans (State.setPort_pre ..),
      hctl.trans (State.setPort_ctl ..), State.kept_stored kept (by cases port <;> rfl)⟩
    rw [before]
    exact and_congr_right fun _ => (and_iff_right h1).symm
  · refine same ?_
    rw [ruleExclude_vacant hn hv (by rw [before]; exact he), if_neg (by omega)]
    rfl

end Sys2Proof.Machine
end

section
/-! The DETACH line: to DETACHED and back (R134, R163, R164). -/

namespace Sys2Proof.Machine

variable {s t u : State} {fs gs : List FaultInfo} {P Q : AlertClass → Prop} {m : Master}

/-! ### The miss counts cleared (R134) -/

/-- A position without a miss. -/
def PosRec.well (r : PosRec) : PosRec := { r with misses := 0, health := .online }

theorem State.posRec_clearMisses (s : State) (o : Pos) : s.clearMisses.posRec o = (s.posRec o).well := by
  have folded := look_foldl (f := fun s p => s.setMisses p 0) (env := fun _ => ()) (look := State.posRec)
    (g := fun _ _ r => r.well) (fun _ _ => rfl) (fun s p q => State.posRec_setMisses s p q 0) allPos_nodup s o
  rwa [if_pos (mem_allPos o)] at folded

theorem Raises.clearMisses {l : List Pos} (hl : l.Nodup) (s : State) :
    Raises [] (fun c => c = .junction ∧ ∃ o, o ∈ l ∧ (s.posRec o).health = .lost) s (l.foldl (fun s p => s.setMisses p 0) s) := by
  induction l generalizing s with
  | nil => exact (Raises.refl s).iff fun c => by simp
  | cons p l ih =>
    rw [List.nodup_cons] at hl
    refine ((Raises.clearMiss p s).trans (ih hl.2 (s.setMisses p 0)) (State.setMisses_clock p 0 s)).iff fun c => ?_
    have same : ∀ o, o ∈ l → ((s.setMisses p 0).posRec o).health = (s.posRec o).health := fun o ho => by
      rw [State.posRec_setMisses, if_neg fun e : p = o => hl.1 (e ▸ ho)]
    rw [← and_or_left]
    refine and_congr_right fun _ => ?_
    constructor
    · rintro (h | ⟨o, ho, h⟩)
      · exact ⟨p, List.mem_cons_self, h⟩
      · exact ⟨o, List.mem_cons_of_mem _ ho, (same o ho).symm.trans h⟩
    · rintro ⟨o, ho, h⟩
      rcases List.mem_cons.mp ho with rfl | ho
      · exact .inl h
      · exact .inr ⟨o, ho, (same o ho).trans h⟩

theorem State.clearMisses_frame (s : State) : s.SameBlocks s.clearMisses :=
  ⟨foldl_keeps State.trunk _ (fun s p => (State.setMisses_frame p 0 s).1) _ _,
    foldl_keeps State.pre _ (fun s p => (State.setMisses_frame p 0 s).2.1) _ _,
    foldl_keeps State.band _ (fun s p => (State.setMisses_frame p 0 s).2.2.1) _ _,
    foldl_keeps State.ctl _ (fun s p => (State.setMisses_frame p 0 s).2.2.2) _ _⟩

/-- What a return from DETACHED tells of the junctions. -/
theorem State.clearMisses_raises (s : State) :
    Raises [] (fun c => c = .junction ∧ ∃ o, (s.posRec o).health = .lost) s s.clearMisses :=
  (Raises.clearMisses allPos_nodup s).iff fun c => by simp [mem_allPos]

theorem State.Ranked.clearMisses (hs : s.Ranked) : s.clearMisses.Ranked :=
  hs.of_records (fun p => by rw [State.posRec_clearMisses]; exact ⟨rfl, rfl⟩) (by rw [s.clearMisses_frame.2.1])
    (by rw [s.clearMisses_frame.2.1])

/-! ### The change of state -/

/-- IDLE, HOLD and FALLBACK to DETACHED (R163). -/
theorem State.enterDetached_rests (h : s.ctl.master = .idle ∨ s.ctl.master = .hold ∨ s.ctl.master = .fallback) :
    s.enterDetached = ((s.setMaster (.detached s.ctl.master.asResume)).alert .state).cutExchange := by
  rcases h with h | h | h <;> rw [State.enterDetached, h] <;> dsimp only <;> rw [State.changeMaster, h] <;> rfl

/-- COORDINATING to DETACHED (R163). -/
theorem State.enterDetached_coordinating (h : s.ctl.master = .coordinating) :
    s.enterDetached = (s.changeMaster (.detached .coordinating)).cutIf (Master.detached .coordinating).isDetached := by
  rw [State.enterDetached, h]
  rfl

/-- The landing of a stay begun in COORDINATING or HOLD in FALLBACK is a fall (R164). -/
theorem State.depart_falls {r : Resume} (hr : r.runs = true) (hl : s.landing r = .fallback) :
    s.depart r = (((((s.setMaster .fallback).clearMisses).falls r.master).alert .state).bandMaster (.detached r) .fallback).fault
      (.fallbackEntered .membership) := by
  have falls (u : State) : u.seekMaster r.master .fallback = u.sweep fun _ => PosRec.masterFalls := by
    refine State.seekMaster_falls (.inl ⟨?_, .inr rfl⟩) u
    cases r with
    | coordinating => exact .inl rfl
    | hold => exact .inr rfl
    | idle => cases hr
    | fallback => cases hr
  unfold State.depart
  dsimp only
  rw [hl, if_pos ⟨hr, rfl⟩, if_pos ⟨hr, rfl⟩, falls]
  rfl

theorem State.depart_lands {r : Resume} (h : ¬(r.runs = true ∧ s.landing r = .fallback)) :
    s.depart r = (((s.setMaster (s.landing r)).clearMisses).alert .state).bandMaster (.detached r) (s.landing r) := by
  unfold State.depart
  dsimp only
  rw [if_neg h, if_neg h]

/-- What a departure from DETACHED to another state than by a fall leaves (R164). -/
structure Lands (m : Master) (s t : State) : Prop where
  pos : ∀ o, t.posRec o = (s.posRec o).well
  blocks : t.pre = s.pre ∧ t.trunk = s.trunk
  waits : m = .hold → t.band = s.band
  rests : m = .idle ∨ m = .fallback → t.band = { s.band with recompute := false }
  triggers : m = .coordinating →
    Triggered .coordinating [] (fun c => c = .state ∨ c = .junction ∧ ∃ o, (s.posRec o).health = .lost) s t
  raised : m ≠ .coordinating →
    Raises [] (fun c => c = .state ∨ c = .junction ∧ ∃ o, (s.posRec o).health = .lost) s t

theorem State.landing_kinds (s : State) (r : Resume) :
    s.landing r = .idle ∨ s.landing r = .fallback ∨ s.landing r = .hold ∨ s.landing r = .coordinating := by
  unfold State.landing
  split
  · exact .inl rfl
  · exact .inr (.inl rfl)
  all_goals
    split
    · exact .inr (.inl rfl)
    · split
      · exact .inr (.inr (.inl rfl))
      · exact .inr (.inr (.inr rfl))

theorem State.lands {r : Resume} (h : ¬(r.runs = true ∧ s.landing r = .fallback)) :
    Lands (s.landing r) s (s.depart r) := by
  rw [State.depart_lands h]
  have kinds := s.landing_kinds r
  generalize s.landing r = m at kinds
  obtain ⟨trunk, pre, band, ctl⟩ := (s.setMaster m).clearMisses_frame
  have pos (o : Pos) := (s.setMaster m).posRec_clearMisses o
  have clock : (s.setMaster m).clearMisses.clock = s.clock := State.clock_of_kept ((State.kept_clearMisses _).trans (State.kept_setMaster ..))
  have cleared : Raises [] (fun c => c = .junction ∧ ∃ o, (s.posRec o).health = .lost) s (s.setMaster m).clearMisses :=
    (s.setMaster m).clearMisses_raises.congr rfl rfl rfl
  generalize (s.setMaster m).clearMisses = w at trunk pre band ctl pos clock cleared
  have raised := (cleared.trans (.alert .state w) clock).iff fun c => or_comm
  have quiet {b : Band} (hb : b = { s.band with recompute := false }) (hm : m = .idle ∨ m = .fallback) :
      Lands m s ((w.alert .state).setBand b) := by
    refine ⟨pos, ⟨pre, trunk⟩, fun e => ?_, fun _ => hb, fun e => ?_, fun _ => raised.quiet rfl⟩
    all_goals subst e; rcases hm with h | h <;> cases h
  rcases kinds with rfl | rfl | rfl | rfl
  · exact quiet (b := { w.band with recompute := false }) (by rw [band]; rfl) (.inl rfl)
  · exact quiet (b := { w.band with recompute := false }) (by rw [band]; rfl) (.inr rfl)
  · rw [State.bandMaster_waits (by nofun) (.inl rfl)]
    exact ⟨pos, ⟨pre, trunk⟩, fun _ => band, (fun e => by rcases e with e | e <;> cases e), nofun, fun _ => raised⟩
  · rw [State.bandMaster_resumes (by nofun)]
    refine ⟨fun o => (State.posRec_of_pos (State.trigger_pos _) o).trans (pos o),
      ⟨(State.trigger_pre _).trans pre, (State.trigger_trunk _).trans trunk⟩, nofun,
      (fun e => by rcases e with e | e <;> cases e), fun _ => ?_, fun e => absurd rfl e⟩
    exact State.trigger_triggered (by rw [State.alert_ctl, ctl]; rfl) band clock raised

theorem State.depart_ctl (s : State) (r : Resume) : (s.depart r).ctl = { s.ctl with master := s.landing r } := by
  by_cases h : r.runs = true ∧ s.landing r = .fallback
  · rw [State.depart_falls h.1 h.2, h.2, State.fault_ctl, State.bandMaster_ctl, State.alert_ctl,
      (State.falls_keepsBand r.master).ctl, (State.clearMisses_frame _).2.2.2]
    rfl
  · rw [State.depart_lands h, State.bandMaster_ctl, State.alert_ctl, (State.clearMisses_frame _).2.2.2]
    rfl

theorem State.departs_band {r : Resume} (hr : r.runs = true) (hl : s.landing r = .fallback) :
    (s.depart r).band = { s.band with recompute := false } := by
  have keeps := State.falls_keepsBand (s := (s.setMaster .fallback).clearMisses) r.master
  obtain ⟨trunk, pre, band, ctl⟩ := (s.setMaster .fallback).clearMisses_frame
  rw [State.depart_falls hr hl]
  generalize (s.setMaster .fallback).clearMisses.falls r.master = v at *
  show { v.band with recompute := false } = _
  rw [keeps.band, band]
  rfl

/-- A landing in FALLBACK that is a fall (R134, R164, R112). -/
theorem State.Ranked.departs {r : Resume} (hs : s.Ranked) (hr : r.runs = true) (hl : s.landing r = .fallback)
    {well : State} (hw : ∀ o, well.posRec o = (s.posRec o).well) (hpre : well.pre = s.pre) (htrunk : well.trunk = s.trunk) :
    SeeksFall r.master well (s.depart r) ∧
      { (s.depart r).trunk with orders := s.trunk.orders } = s.trunk ∧
      Raises [.fallbackEntered .membership]
        (fun c => MasterAlerts r.master well (s.depart r) c ∨ c = .junction ∧ ∃ o, (s.posRec o).health = .lost) s (s.depart r) := by
  rw [State.depart_falls hr hl]
  have ranked : (s.setMaster .fallback).Ranked := hs
  have off : (s.setMaster .fallback).clearMisses.ctl.master.runs = false := by rw [(State.clearMisses_frame _).2.2.2]; rfl
  have fall := ranked.clearMisses.seeksFall r.master off
  have raised := ranked.clearMisses.raises_falls r.master off
  obtain ⟨trunk, pre, band, ctl⟩ := (s.setMaster .fallback).clearMisses_frame
  have pos (o : Pos) := (s.setMaster .fallback).posRec_clearMisses o
  have clock : (s.setMaster .fallback).clearMisses.clock = s.clock :=
    State.clock_of_kept ((State.kept_clearMisses _).trans (State.kept_setMaster ..))
  have cleared : Raises [] (fun c => c = .junction ∧ ∃ o, (s.posRec o).health = .lost) s (s.setMaster .fallback).clearMisses :=
    (s.setMaster .fallback).clearMisses_raises.congr rfl rfl rfl
  have orders := State.falls_trunk (s := (s.setMaster .fallback).clearMisses) r.master
  have clock' : ((s.setMaster .fallback).clearMisses.falls r.master).clock = s.clock :=
    (State.clock_of_kept (State.kept_falls (s := (s.setMaster .fallback).clearMisses) r.master)).trans clock
  generalize (s.setMaster .fallback).clearMisses.falls r.master = v at *
  generalize (s.setMaster .fallback).clearMisses = w at *
  have run : (v.alert .state).bandMaster (.detached r) .fallback = (v.alert .state).setBand { v.band with recompute := false } := rfl
  rw [run]
  have wpos (o : Pos) : w.posRec o = well.posRec o := (pos o).trans (hw o).symm
  refine ⟨fall.congr (ext_get wpos) (by rw [trunk, htrunk]; rfl) (pre.trans hpre.symm) rfl rfl rfl, ?_, ?_⟩
  · have whole := orders.trunk_eq
    rw [trunk] at whole
    show { v.trunk with orders := s.trunk.orders } = _
    rw [whole]
    rfl
  · have all := ((cleared.trans raised clock).trans (.alert .state v) clock').trans (.fault (.fallbackEntered .membership) _) clock'
    refine (all.congr (s' := s) (t' := ((v.alert .state).setBand { v.band with recompute := false }).fault _) rfl rfl rfl).iff
      fun c => ?_
    have never : ¬EntersStep well (((v.alert .state).setBand { v.band with recompute := false }).fault
      (.fallbackEntered .membership)) := fun ⟨o, ho, _⟩ => fall.seek_ne o ho
    have same : (∃ x, w.endsBy r.master x = true ∧ w.causeActive x = true) ↔
        ∃ x, well.endsBy r.master x = true ∧ (well.pre.causes.get x).isSome = true := by
      have before : w.pre = well.pre := pre.trans hpre.symm
      simp only [State.endsBy, State.causeActive, before]
    rw [MasterAlerts, same]
    simp only [never, and_false, or_false]
    constructor
    · rintro ((h | h) | h)
      exacts [.inr h, .inl (.inr h), .inl (.inl h)]
    · rintro ((h | h) | h)
      exacts [.inr h, .inl (.inr h), .inl (.inl h)]

/-- Settles O42: by what is due, the line's state and the master state. -/
theorem detachLineRule : Obligations.DetachLineRule := by
  intro s time hp u line resume
  have on : exec (.detachLineActive time) s = .next (u.detachLineAt true u.now) := powered_timed time hp
  have off : exec (.detachLineInactive time) s = .next (u.detachLineAt false u.now) := powered_timed time hp
  have waits {b : Bool} (h : ¬s.ctl.detachLine.Due b u.now) : u.detachLineAt b u.now = u :=
    if_neg fun e => h ((CtlLine.settles_iff ..).mp e)
  have settles {b : Bool} (h : s.ctl.detachLine.Due b u.now) : u.detachLineAt b u.now =
      if s.ctl.detachLine.active = b then line b else if b then (line b).enterDetached else (line b).leaveDetached :=
    if_pos ((CtlLine.settles_iff ..).mpr h)
  refine ⟨fun h => by rw [on, waits h], fun h hn => ?_, fun h hl hm law => ?_, fun h hl hm => ?_, fun h => by rw [off, waits h],
    fun h hn => ?_, fun r h hl hm => ?_⟩
  · rw [on, settles h]
    split
    · rfl
    · next hl =>
      obtain ⟨r, hr⟩ : ∃ r, s.ctl.master = .detached r := by
        have detached := hn.resolve_left hl
        cases e : s.ctl.master with
        | detached r => exact ⟨r, rfl⟩
        | _ => rw [e] at detached; cases detached
      have stays : (line true).enterDetached = line true := by
        rw [State.enterDetached, show (line true).ctl.master = .detached r from hr]
      exact congrArg Host.Outcome.next ((if_pos rfl).trans stays)
  · have ranked : (line true).Ranked := (causeLaw_iff.mp law).1
    refine ⟨(line true).enterDetached, ?_, ?_⟩
    · rw [on, settles h, hl]
      rfl
    · rw [State.enterDetached_coordinating (s := line true) hm]
      exact ranked.pauses hm (.inr rfl) rfl
  · rw [on, settles h, hl]
    have enters := State.enterDetached_rests (s := line true) hm
    refine congrArg Host.Outcome.next (enters.trans ?_)
    have asResume : (line true).ctl.master.asResume = resume s.ctl.master := by
      rcases hm with e | e | e <;> rw [show (line true).ctl.master = _ from e] <;> rfl
    rw [asResume]
    rfl
  · rw [off, settles h]
    split
    · rfl
    · next hl =>
      refine congrArg Host.Outcome.next ((if_neg Bool.false_ne_true).trans ?_)
      have attached : s.ctl.master.isDetached = false := hn.resolve_left hl
      rw [State.leaveDetached, show (line false).ctl.master = s.ctl.master from rfl]
      split
      · next e => rw [e] at attached; cases attached
      · rfl
  · intro m well returned
    have leave : exec (.detachLineInactive time) s = .next ((line false).depart r) := by
      rw [off, settles h, hl, if_neg (by decide), if_neg (by decide), State.leaveDetached,
        show (line false).ctl.master = .detached r from hm]
    have landing : (line false).landing r = m := by
      cases r with
      | idle => rfl
      | fallback => rfl
      | _ => exact if_congr Iff.rfl rfl (if_congr (by rw [Ctl.holdSource, Bool.or_eq_true]) rfl rfl)
    have wellPos (o : Pos) : well.posRec o = ((line false).posRec o).well := by
      show (Vector.ofFn _).get o = _
      rw [get_ofFn]
      rfl
    refine ⟨(line false).depart r, leave, ?_, State.kept_depart r _, ?_⟩
    · rw [State.depart_ctl, landing]
    · by_cases hf : r.runs = true ∧ m = .fallback
      · have hl : (line false).landing r = .fallback := landing.trans hf.2
        refine ⟨fun e => ?_, fun e => ?_, fun _ => State.departs_band hf.1 hl, fun h => absurd hf h, fun _ _ law => ?_⟩
        · cases e.symm.trans hf.2
        · cases e.symm.trans hf.2
        · have ranked : (line false).Ranked := (causeLaw_iff.mp law).1
          have old : r.master = if r = .coordinating then .coordinating else .hold := by
            cases r with
            | coordinating => rfl
            | hold => rfl
            | idle => cases hf.1
            | fallback => cases hf.1
          extract_lets old'
          have departs := ranked.departs hf.1 hl wellPos rfl rfl
          rw [old] at departs
          exact ⟨departs.1, departs.2.1, departs.2.2.congr rfl rfl rfl⟩
      · have lands := State.lands (s := line false) (r := r) (by rw [landing]; exact hf)
        rw [landing] at lands
        exact ⟨fun e => (lands.triggers e).congr rfl rfl rfl fun _ => Iff.rfl, lands.waits, lands.rests, fun _ =>
          ⟨ext_get fun o => (lands.pos o).trans (wellPos o).symm, lands.blocks.1, lands.blocks.2, fun e => (lands.raised e).congr rfl rfl rfl⟩,
          fun hr hm => absurd ⟨hr, hm⟩ hf⟩

end Sys2Proof.Machine
end

section
/-! The trunk arbiter (R124, R126, R131, R132): what each of its searches finds, and the grants of a beacon, a STEP, an order and a
PROBE. -/

namespace Sys2Proof.Machine

/-! ### The first of an ordered list -/

/-- In a list ordered by a key, the first element with a property is the one of least key. -/
theorem find?_eq_of_least {l : List Pos} {key : Pos → Nat} {P : Pos → Bool} (hl : l.Pairwise fun a b => key a < key b) {p : Pos}
    (hp : p ∈ l) (hP : P p = true) (least : ∀ q, q ∈ l → P q = true → key p ≤ key q) : l.find? P = some p := by
  induction l with
  | nil => simp at hp
  | cons a rest ih =>
    obtain ⟨first, hrest⟩ := List.pairwise_cons.1 hl
    rcases List.mem_cons.1 hp with rfl | hin
    · simp [List.find?, hP]
    · have ha : P a = false := by
        refine Bool.eq_false_iff.2 fun h => ?_
        have := least a (by simp) h
        have := first p hin
        omega
      rw [List.find?_cons, ha]
      exact ih hrest hin fun q hq => least q (by simp [hq])

theorem find?_allPos_eq {P : Pos → Bool} {p : Pos} (hP : P p = true) (least : ∀ q, P q = true → p ≤ q) :
    allPos.find? P = some p :=
  find?_eq_of_least (key := Fin.val) allPos_pairwise (mem_allPos p) hP fun q _ => least q

/-! ### The orders that wait -/

section
variable {s : State}

theorem State.waits_iff {o : Pos} {r : Bool} :
    (∃ e d, s.Waits o r e d) ↔ ((s.posRec o).enrolment.drop.isSome &&
      match s.trunk.orders.get o with
      | some e => e.resting == r
      | none => false) = true := by
  unfold State.Waits
  cases s.trunk.orders.get o with
  | none => simp
  | some e => simp [Option.isSome_iff_exists, and_comm]

theorem State.orderWaiting_eq_none {r : Bool} : s.orderWaiting r = none ↔ ∀ o e d, ¬s.Waits o r e d := by
  unfold State.orderWaiting
  rw [List.find?_eq_none]
  constructor
  · exact fun h o e d w => h o (mem_allPos o) (State.waits_iff.1 ⟨e, d, w⟩)
  · intro h o _ hw
    obtain ⟨e, d, w⟩ := State.waits_iff.2 hw
    exact h o e d w

theorem State.orderWaiting_waits {r : Bool} {p : Pos} (h : s.orderWaiting r = some p) : ∃ e d, s.Waits p r e d := by
  unfold State.orderWaiting at h
  exact State.waits_iff.2 (List.find?_some h :)

theorem State.orderWaiting_eq_some {r : Bool} {p : Pos} {e : OrderEntry} {d : Nat} (h : s.Waits p r e d)
    (least : ∀ o e' d', s.Waits o r e' d' → p ≤ o) : s.orderWaiting r = some p := by
  refine find?_allPos_eq (State.waits_iff.1 ⟨e, d, h⟩) fun q hq => ?_
  obtain ⟨e', d', w⟩ := State.waits_iff.2 hq
  exact least q e' d' w

/-! ### The STEP of the round -/

/-- Above the cursor of the round, if it has one. -/
def Trunk.beyond (t : Trunk) (p : Pos) : Bool :=
  match t.cursor with
  | none => true
  | some c => decide (c.val < p.val)

theorem Trunk.not_beyond_iff {t : Trunk} {p : Pos} : t.beyond p = false ↔ ∃ c, t.cursor = some c ∧ p ≤ c := by
  unfold Trunk.beyond
  cases t.cursor with
  | none => simp
  | some c => simp

theorem State.nextStep_eq (s : State) : s.nextStep = if s.trunk.roundOpen then s.enrolledList.find? s.trunk.beyond else none := by
  unfold State.nextStep Trunk.beyond
  cases s.trunk.cursor with
  | some c => rfl
  | none => cases s.enrolledList <;> rfl

theorem State.nextStep_eq_none : s.nextStep = none ↔ s.RoundDone := by
  rw [s.nextStep_eq]
  unfold State.RoundDone
  cases s.trunk.roundOpen with
  | false => simp
  | true =>
    simp only [if_true, List.find?_eq_none, forall_const]
    refine forall_congr' fun o => ?_
    rw [← Trunk.not_beyond_iff]
    simp [State.enrolledList, mem_allPos]

theorem State.nextStep_eq_some {p : Pos} (ho : s.trunk.roundOpen = true) (he : s.isEnrolled p = true)
    (above : ∀ c, s.trunk.cursor = some c → c < p)
    (done : ∀ o, s.isEnrolled o = true → o < p → ∃ c, s.trunk.cursor = some c ∧ o ≤ c) : s.nextStep = some p := by
  rw [s.nextStep_eq, if_pos ho]
  refine find?_eq_of_least (key := Fin.val) s.enrolledList_pairwise (by simp [State.enrolledList, mem_allPos, he]) ?_ ?_
  · refine Bool.of_not_eq_false fun h => ?_
    obtain ⟨c, hc, hle⟩ := Trunk.not_beyond_iff.1 h
    exact absurd (above c hc) (Fin.not_lt.2 hle)
  · intro q hq hb
    by_contra hlt
    have hn := Trunk.not_beyond_iff.2 (done q (List.mem_filter.1 hq).2 (Nat.lt_of_not_le hlt))
    rw [hb] at hn
    exact absurd hn (by decide)

/-! ### The next grant -/

theorem State.nextGrant_of_busy (h : ¬s.LineFree) : s.nextGrant = none := by
  refine if_pos ?_
  unfold State.LineFree at h
  cases hx : s.trunk.exchange with
  | some x => rfl
  | none =>
    cases hd : s.ctl.master.isDetached with
    | true => simp
    | false => exact absurd ⟨hx, hd⟩ h

theorem State.nextGrant_of_free (h : s.LineFree) : s.nextGrant =
    match s.orderWaiting false with
    | some p => some (.order p)
    | none =>
      if s.trunk.waitingBeacon.isSome then some .beacon
      else
        match s.nextStep with
        | some p => some (.step p)
        | none =>
          if s.trunk.roundOpen && !s.trunk.probeDone then some .probe
          else (s.orderWaiting true).map .order := by
  obtain ⟨hx, hd⟩ := h
  unfold State.nextGrant
  exact if_neg (by simp [hx, hd])

/-- Before a beacon: no order waits that does not rest. -/
theorem State.nextGrant_beacon (h : s.nextGrant = some .beacon) :
    (∀ o e d, ¬s.Waits o false e d) ∧ s.trunk.waitingBeacon ≠ none := by
  have hf : s.LineFree := by
    by_contra hn
    rw [State.nextGrant_of_busy hn] at h
    cases h
  rw [State.nextGrant_of_free hf] at h
  split at h
  · cases h
  next ho =>
    refine ⟨State.orderWaiting_eq_none.1 ho, ?_⟩
    split at h
    next hb => exact fun hn => by simp [hn] at hb
    · split at h
      · cases h
      · split at h
        · cases h
        · cases hw : s.orderWaiting true <;> simp [hw] at h

/-- Before a STEP: no order waits that does not rest, and no beacon. -/
theorem State.nextGrant_step {p : Pos} (h : s.nextGrant = some (.step p)) :
    (∀ o e d, ¬s.Waits o false e d) ∧ s.trunk.waitingBeacon = none ∧ ¬s.RoundDone := by
  have hf : s.LineFree := by
    by_contra hn
    rw [State.nextGrant_of_busy hn] at h
    cases h
  rw [State.nextGrant_of_free hf] at h
  split at h
  · cases h
  next ho =>
    split at h
    · cases h
    next hb =>
      refine ⟨State.orderWaiting_eq_none.1 ho, by simpa using hb, ?_⟩
      split at h
      next hs => exact fun hd => by simp [State.nextStep_eq_none.2 hd] at hs
      · split at h
        · cases h
        · cases hw : s.orderWaiting true <;> simp [hw] at h

/-- Before the PROBE: no order waits that does not rest, no beacon and no STEP. -/
theorem State.nextGrant_probe (h : s.nextGrant = some .probe) :
    (∀ o e d, ¬s.Waits o false e d) ∧ s.trunk.waitingBeacon = none ∧ s.RoundDone ∧ s.trunk.roundOpen = true ∧
      s.trunk.probeDone = false := by
  have hf : s.LineFree := by
    by_contra hn
    rw [State.nextGrant_of_busy hn] at h
    cases h
  rw [State.nextGrant_of_free hf] at h
  split at h
  · cases h
  next ho =>
    split at h
    · cases h
    next hb =>
      split at h
      · cases h
      next hs =>
        split at h
        next hp =>
          simp only [Bool.and_eq_true, Bool.not_eq_true'] at hp
          exact ⟨State.orderWaiting_eq_none.1 ho, by simpa using hb, State.nextStep_eq_none.1 hs, hp.1, hp.2⟩
        · cases hw : s.orderWaiting true <;> simp [hw] at h

/-- Before an order: it waits and does not rest, or it rests and nothing else waits. -/
theorem State.nextGrant_order {p : Pos} (h : s.nextGrant = some (.order p)) :
    (∃ e d, s.Waits p false e d) ∨
      (∃ e d, s.Waits p true e d) ∧ s.trunk.waitingBeacon = none ∧ s.RoundDone ∧
        ¬(s.trunk.roundOpen = true ∧ s.trunk.probeDone = false) := by
  have hf : s.LineFree := by
    by_contra hn
    rw [State.nextGrant_of_busy hn] at h
    cases h
  rw [State.nextGrant_of_free hf] at h
  split at h
  next q hq =>
    cases h
    exact .inl (State.orderWaiting_waits hq)
  next ho =>
    split at h
    · cases h
    next hb =>
      split at h
      · cases h
      next hs =>
        split at h
        · cases h
        next hp =>
          obtain ⟨q, hq, hg⟩ := Option.map_eq_some_iff.1 h
          cases hg
          exact .inr ⟨State.orderWaiting_waits hq, by simpa using hb, State.nextStep_eq_none.1 hs, by simpa using hp⟩

/-! ### A grant that is not the next changes nothing -/

theorem powered_idle {f : State → State} (h : f s = s) : powered f s = .next s := by
  unfold powered
  split
  · rw [h]
  · rfl

theorem exec_beacon_idle (h : s.nextGrant ≠ some .beacon ∨ s.trunk.waitingBeacon = none) : exec .beacon s = .next s := by
  show execBeacon s = _
  refine powered_idle ?_
  split
  next hg hw => rcases h with h | h <;> simp_all
  · rfl

theorem exec_stepFrame_idle (h : ∀ p, s.nextGrant ≠ some (.step p)) : exec .stepFrame s = .next s := by
  show execStepFrame s = _
  refine powered_idle ?_
  split
  next hg => exact absurd hg (h _)
  · rfl

theorem exec_probeFrame_idle (h : s.nextGrant ≠ some .probe) : exec .probeFrame s = .next s := by
  show execProbeFrame s = _
  refine powered_idle ?_
  split
  next hg => exact absurd hg h
  · rfl

theorem State.grantOrder_idle {k : ExchangeKind} (h : ∀ p, s.nextGrant ≠ some (.order p)) : s.grantOrder k = s := by
  unfold State.grantOrder
  split
  next hg => exact absurd hg (h _)
  · rfl

theorem exec_orderFrames_eq (s : State) :
    exec .preemptFrame s = powered (State.grantOrder .preempt) s ∧ exec .releaseFrame s = powered (State.grantOrder .release) s :=
  ⟨rfl, rfl⟩

theorem exec_orderFrames_idle (h : ∀ p, s.nextGrant ≠ some (.order p)) :
    exec .preemptFrame s = .next s ∧ exec .releaseFrame s = .next s :=
  ⟨powered_idle (State.grantOrder_idle h), powered_idle (State.grantOrder_idle h)⟩

end

/-! ### The STEP frame as the statements write it -/

theorem Mode.not_isHeld_iff (m : Mode) : m.isHeld = false ↔ m ≠ .preempted ∧ m ≠ .localHeld := by
  cases m <;> decide

theorem State.carriedCorrection_eq (s : State) (p : Pos) : s.carriedCorrection p = s.stepCorrection p := by
  unfold State.carriedCorrection State.stepCorrection
  simp only [Mode.not_isHeld_iff]

theorem State.orderMode_eq (s : State) :
    s.orderMode = if s.ctl.master = .coordinating ∨ s.ctl.master = .hold then 0 else 1 := by
  unfold State.orderMode
  cases s.ctl.master <;> simp

theorem State.stepBody_eq (s : State) (p : Pos) (d : Nat) : s.stepBody p = (s.stepOut p d).body := by
  unfold State.stepBody State.stepOut
  simp only [s.orderMode_eq, s.carriedCorrection_eq p]
  congr 1
  cases (s.posRec p).reload with
  | false => rfl
  | true =>
    cases s.plans.entryOf s.plans.active p with
    | none => rfl
    | some e => simp [optional, splitSet, windowBytes]

/-- A STEP attempt is the frame and the record the statements name. -/
theorem State.sendStep_eq (s : State) (p : Pos) (d : Nat) (second : Bool) :
    s.sendStep p d second =
      { s with
        pos := s.stepRecorded p
        trunk := { s.trunk with
          exchange := some { kind := .step, pos := p, drop := d, second, cut := false }
          out := some (s.stepOut p d) } } := by
  have hb := s.stepBody_eq p d
  have hc := s.carriedCorrection_eq p
  unfold State.sendStep
  simp only [hb, hc]
  rfl

end Sys2Proof.Machine

end

section
/-! Settlement of O44 and O45: the grants of the trunk arbiter. -/

namespace Sys2Proof.Machine

section
variable {s : State}

theorem State.wakeOrders_eq (s : State) : s.wakeOrders = s.setTrunk s.awake := rfl

theorem State.awake_order (s : State) (p : Pos) :
    s.awake.orders.get p = (s.trunk.orders.get p).map fun e => { e with resting := false } :=
  get_ofFn _ p

theorem State.not_waits_of_orderWaiting {r : Bool} (h : ∀ o e d, ¬s.Waits o r e d) : s.orderWaiting r = none :=
  State.orderWaiting_eq_none.2 h

/-! ### The grant that is next -/

theorem State.nextGrant_eq_beacon (hf : s.LineFree) (ho : ∀ o e d, ¬s.Waits o false e d) {mark : Bool}
    (hb : s.trunk.waitingBeacon = some mark) : s.nextGrant = some .beacon := by
  rw [State.nextGrant_of_free hf, State.not_waits_of_orderWaiting ho]
  simp [hb]

theorem State.nextGrant_eq_step (hf : s.LineFree) (ho : ∀ o e d, ¬s.Waits o false e d) (hb : s.trunk.waitingBeacon = none)
    {p : Pos} (hs : s.nextStep = some p) : s.nextGrant = some (.step p) := by
  rw [State.nextGrant_of_free hf, State.not_waits_of_orderWaiting ho]
  simp [hb, hs]

theorem State.nextGrant_eq_probe (hf : s.LineFree) (ho : ∀ o e d, ¬s.Waits o false e d) (hb : s.trunk.waitingBeacon = none)
    (hs : s.RoundDone) (hr : s.trunk.roundOpen = true) (hp : s.trunk.probeDone = false) : s.nextGrant = some .probe := by
  rw [State.nextGrant_of_free hf, State.not_waits_of_orderWaiting ho]
  simp [hb, State.nextStep_eq_none.2 hs, hr, hp]

theorem State.nextGrant_eq_order (hf : s.LineFree) {p : Pos} {e : OrderEntry} {d : Nat} {resting : Bool}
    (hw : s.Waits p resting e d) (least : ∀ o e' d', s.Waits o resting e' d' → p ≤ o)
    (last : resting = true → (∀ o e' d', ¬s.Waits o false e' d') ∧ s.trunk.waitingBeacon = none ∧ s.RoundDone ∧
      (s.trunk.roundOpen = true → s.trunk.probeDone = true)) : s.nextGrant = some (.order p) := by
  have found := State.orderWaiting_eq_some hw least
  rw [State.nextGrant_of_free hf]
  cases resting with
  | false => simp [found]
  | true =>
    obtain ⟨ho, hb, hs, hp⟩ := last rfl
    have walked : ¬(s.trunk.roundOpen = true ∧ s.trunk.probeDone = false) := by
      rintro ⟨hr, hd⟩
      simp [hp hr] at hd
    rw [State.not_waits_of_orderWaiting ho]
    simp only [hb, State.nextStep_eq_none.2 hs, found]
    simpa using walked

/-! ### What a grant does -/

theorem State.sendBeacon_awake (s : State) (mark : Bool) :
    s.wakeOrders.sendBeacon mark = { s with trunk := { s.awake with
      waitingBeacon := none
      roundOpen := s.trunk.roundOpen || mark
      cursor := if mark then none else s.trunk.cursor
      probeDone := s.trunk.probeDone && !mark
      out := some { addr := 0, kind := 1, body := half s.clock.cyclePos ++ half s.clock.cycleNo.toNat ++ half s.clock.c } } } := by
  cases mark <;> simp [State.sendBeacon, State.wakeOrders_eq, State.setTrunk, State.awake, kindBeacon]

theorem State.grantStep_setTrunk (t : Trunk) {p : Pos} {d : Nat} (he : (s.posRec p).enrolment = .enrolled d) :
    (s.setTrunk t).grantStep p = { s with
      pos := s.stepRecorded p
      trunk := { t with
        cursor := some p
        exchange := some { kind := .step, pos := p, drop := d, second := false, cut := false }
        out := some (s.stepOut p d) } } := by
  have hd : ((s.setTrunk t).posRec p).enrolment.drop = some d := by
    show (s.posRec p).enrolment.drop = _
    rw [he]
    rfl
  unfold State.grantStep
  rw [hd]
  exact State.sendStep_eq _ p d false

theorem State.grantOrder_eq {p : Pos} {e : OrderEntry} {d : Nat} {resting : Bool} (hg : s.nextGrant = some (.order p))
    (hw : s.Waits p resting e d) (k : ExchangeKind) :
    s.grantOrder k = if e.order.exchange = k then
      { s with trunk := { s.awake with
        orders := s.awake.orders.set p.val (some { e with resting := false, sent := true }) p.isLt
        exchange := some { kind := e.order.exchange, pos := p, drop := d, second := false, cut := false }
        out := some { addr := byte d, kind := e.order.exchange.request, body := e.order.body } } }
    else s := by
  obtain ⟨he, -, hd⟩ := hw
  have woken : s.awake.orders.get p = some { e with resting := false } := by
    rw [s.awake_order, he]
    rfl
  unfold State.grantOrder
  rw [hg]
  dsimp only
  rw [s.wakeOrders_eq]
  generalize s.awake = t at woken ⊢
  simp only [show (s.setTrunk t).trunk = t from rfl, woken, show ((s.setTrunk t).posRec p).enrolment.drop = some d from hd]
  rfl

/-- How far `p` lies behind the pointer `q` in the probe walk, the position after the pointer first. -/
def probeKey (q p : Pos) : Nat := (p.val + 23 - q.val) % 24

theorem probeOrder_ascends (q : Pos) : (probeOrder q).Pairwise fun a b => probeKey q a < probeKey q b := by
  unfold probeOrder
  refine List.pairwise_append.2 ⟨?_, ?_, ?_⟩
  · refine (allPos_pairwise.filter _).imp_of_mem fun {a b} ha hb (hlt : a.val < b.val) => ?_
    have ha := of_decide_eq_true (List.mem_filter.1 ha).2
    have hb := of_decide_eq_true (List.mem_filter.1 hb).2
    unfold probeKey
    omega
  · refine (allPos_pairwise.filter _).imp_of_mem fun {a b} ha hb (hlt : a.val < b.val) => ?_
    have ha := of_decide_eq_true (List.mem_filter.1 ha).2
    have hb := of_decide_eq_true (List.mem_filter.1 hb).2
    unfold probeKey
    omega
  · intro a ha b hb
    have ha := of_decide_eq_true (List.mem_filter.1 ha).2
    have hb := of_decide_eq_true (List.mem_filter.1 hb).2
    unfold probeKey
    omega

theorem mem_probeOrder (q p : Pos) : p ∈ probeOrder q := by
  simpa [probeOrder, mem_allPos] using lt_or_ge q p

theorem State.grantProbe_none (t : Trunk) (h : ∀ o, (s.posRec o).probeCandidate = false) :
    (s.setTrunk t).grantProbe = { s with trunk := { t with probeDone := true } } := by
  have hn : (s.setTrunk t).probeTarget = none := List.find?_eq_none.2 fun o _ => by
    show ¬(s.posRec o).probeCandidate = true
    simp [h o]
  unfold State.grantProbe
  rw [hn]
  rfl

theorem State.grantProbe_some (t : Trunk) {p : Pos} {d : Nat} (hc : (s.posRec p).probeCandidate = true)
    (hd : (s.posRec p).enrolment.drop = some d)
    (least : ∀ o, (s.posRec o).probeCandidate = true →
      (p.val + 23 - t.probePtr.val) % 24 ≤ (o.val + 23 - t.probePtr.val) % 24) :
    (s.setTrunk t).grantProbe = { s with trunk := { t with
      exchange := some { kind := .probe, pos := p, drop := d, second := false, cut := false }
      out := some { addr := byte d, kind := 7, body := [] } } } := by
  have ht : (s.setTrunk t).probeTarget = some p :=
    find?_eq_of_least (probeOrder_ascends _) (mem_probeOrder _ p) hc fun q _ hq => least q hq
  unfold State.grantProbe
  rw [ht]
  simp only [show ((s.setTrunk t).posRec p).enrolment.drop = some d from hd]
  rfl

end

/-! ### O44 -/

/-- Settles O44: the grants of a beacon and of a STEP. -/
theorem beaconAndStepGrants : Obligations.BeaconAndStepGrants := by
  unfold Obligations.BeaconAndStepGrants
  refine ⟨fun s busy => ?_, fun s => ⟨fun h => ?_, fun h => ?_⟩, fun s hp free ho => ⟨fun mark hb => ?_, ?_⟩⟩
  · have hn : ∀ g, s.nextGrant ≠ some g := by simp [State.nextGrant_of_busy busy]
    obtain ⟨preempt, release⟩ := exec_orderFrames_idle fun p => hn (.order p)
    exact ⟨exec_beacon_idle (.inl (hn _)), exec_stepFrame_idle fun p => hn _, preempt, release, exec_probeFrame_idle (hn _)⟩
  · refine exec_beacon_idle (.inl fun hg => ?_)
    obtain ⟨ho, hb⟩ := State.nextGrant_beacon hg
    rcases h with ⟨o, e, d, hw⟩ | hn
    · exact ho o e d hw
    · exact hb hn
  · refine exec_stepFrame_idle fun p hg => ?_
    obtain ⟨ho, hb, hs⟩ := State.nextGrant_step hg
    rcases h with ⟨o, e, d, hw⟩ | hn | hd
    · exact ho o e d hw
    · exact hn hb
    · exact hs hd
  · show execBeacon s = _
    unfold execBeacon powered
    rw [if_pos hp]
    simp only [State.nextGrant_eq_beacon free ho hb, hb]
    rw [s.sendBeacon_awake mark]
  · intro p d hb hr he above done
    have next := State.nextStep_eq_some hr (show (s.posRec p).enrolment.isEnrolled = true by simp [he, Enrolment.isEnrolled])
      above done
    show execStepFrame s = _
    unfold execStepFrame powered
    rw [if_pos hp]
    simp only [State.nextGrant_eq_step free ho hb next]
    rw [s.wakeOrders_eq, State.grantStep_setTrunk _ he]

/-! ### O45 -/

/-- Settles O45: the grants of a PREEMPT, a RELEASE and a PROBE. -/
theorem orderAndProbeGrants : Obligations.OrderAndProbeGrants := by
  unfold Obligations.OrderAndProbeGrants
  refine ⟨fun s => ⟨fun h => exec_orderFrames_idle fun p hg => ?_, fun h => exec_probeFrame_idle fun hg => ?_⟩,
    fun s hp free => ⟨fun p e d resting hw least last => ?_, fun ho hb hs hr hd => ⟨fun none => ?_, fun p d hc hdrop least => ?_⟩⟩⟩
  · rcases State.nextGrant_order hg with ⟨e, d, hw⟩ | ⟨⟨e, d, hw⟩, hb, hs, hd⟩
    · rcases h with h | ⟨h, -⟩
      · exact h p false e d hw
      · exact h p e d hw
    · rcases h with h | ⟨-, h | h | h⟩
      · exact h p true e d hw
      · exact h hb
      · exact h hs
      · exact hd h
  · obtain ⟨ho, hb, hs, hr, hd⟩ := State.nextGrant_probe hg
    rcases h with ⟨o, e, d, hw⟩ | h | h | h | h
    · exact ho o e d hw
    · exact h hb
    · exact h hs
    · rw [hr] at h
      cases h
    · rw [hd] at h
      cases h
  · have hg := State.nextGrant_eq_order free hw least last
    have out : ∀ k, powered (State.grantOrder k) s = .next (s.grantOrder k) := fun k => by rw [powered, if_pos hp]
    obtain ⟨preempt, release⟩ := exec_orderFrames_eq s
    have asPreempt := State.grantOrder_eq hg hw .preempt
    have asRelease := State.grantOrder_eq hg hw .release
    generalize s.awake = w at asPreempt asRelease ⊢
    intro sent
    rw [preempt, release, out, out]
    refine ⟨fun v cls phase ho => ?_, fun ho => ?_⟩
    · have kind : e.order.exchange = .preempt := by rw [ho, Order.exchange]
      have body : e.order.body = [byte v.val, cls.code, phase.code] := by rw [ho, Order.body]
      simp only [kind, body, ExchangeKind.request, reduceCtorEq, if_true, if_false] at asPreempt asRelease
      exact ⟨congrArg _ asPreempt, congrArg _ asRelease⟩
    · have kind : e.order.exchange = .release := by rw [ho, Order.exchange]
      have body : e.order.body = [] := by rw [ho, Order.body]
      simp only [kind, body, ExchangeKind.request, reduceCtorEq, if_true, if_false] at asPreempt asRelease
      exact ⟨congrArg _ asRelease, congrArg _ asPreempt⟩
  · show execProbeFrame s = _
    unfold execProbeFrame powered
    rw [if_pos hp]
    simp only [State.nextGrant_eq_probe free ho hb hs hr hd]
    rw [s.wakeOrders_eq, State.grantProbe_none _ none]
  · show execProbeFrame s = _
    unfold execProbeFrame powered
    rw [if_pos hp]
    simp only [State.nextGrant_eq_probe free ho hb hs hr hd]
    rw [s.wakeOrders_eq, State.grantProbe_some s.awake hc hdrop least]

end Sys2Proof.Machine

end

section
/-! Settlement of O47: an accepted ACK and an accepted ANSWER, and what judging a received frame comes to. -/

namespace Sys2Proof.Machine

/-! ### Frames received -/

theorem exec_received {a : Byte} {b : List Byte} {i : Instr} {k : Byte} (h : Receives a b i k) (s : State) :
    exec i s = powered (State.receiveFrame a k b) s := by
  cases h <;> rfl

theorem State.receiveFrame_accepted {s : State} {x : Exchange} {a k : Byte} {b : List Byte} {w : AwaitedAnswer}
    (hx : s.trunk.exchange = some x) (hj : x.judge a k b = some w) : s.receiveFrame a k b = s.accept x w := by
  unfold State.receiveFrame
  rw [hx]
  simp only [hj]

theorem State.receiveFrame_refused {s : State} {x : Exchange} {a k : Byte} {b : List Byte}
    (hx : s.trunk.exchange = some x) (hj : x.judge a k b = none) : s.receiveFrame a k b = s.countBadFrame.attemptFailed x := by
  unfold State.receiveFrame
  rw [hx]
  simp only [hj]

theorem Exchange.judge_addressed {x : Exchange} {a k : Byte} {b : List Byte} (ha : a.toNat = x.drop) (hk : k = x.kind.awaited) :
    x.judge a k b = parseAnswer x.kind b := if_pos ⟨ha, hk⟩

theorem Mode.ofByte_code (m : Mode) : Mode.ofByte m.code = some m := by
  cases m <;> rfl

/-! ### A miss count cleared -/

section
variable (s : State) (p : Pos)

/-- The position record of a junction that answered: no miss, ONLINE. -/
theorem State.posRec_clearMiss (o : Pos) :
    (s.setMisses p 0).posRec o = if p = o then { s.posRec p with misses := 0, health := .online } else s.posRec o :=
  State.posRec_setMisses s p o 0

theorem Raises.clearMiss_setTrunk (t : Trunk) :
    Raises [] (fun c => c = .junction ∧ (s.posRec p).health = .lost) s ((s.setTrunk t).setMisses p 0) :=
  (Raises.clearMiss p (s.setTrunk t)).congr (s' := s) rfl rfl rfl

end

/-! ### The ACK -/

/-- The order table once the order of `p` is delivered, unless it was replaced since it was sent (R131). -/
def Trunk.delivered (t : Trunk) (p : Pos) : Vector (Option OrderEntry) 24 :=
  match t.orders.get p with
  | some e => if e.sent then t.orders.set p.val none p.isLt else t.orders
  | none => t.orders

theorem State.acceptAck_eq (x : Exchange) (s : State) :
    s.acceptAck x = (s.setTrunk { s.trunk with exchange := none, orders := s.trunk.delivered x.pos }).setMisses x.pos 0 := by
  unfold State.acceptAck Trunk.delivered
  show State.setMisses x.pos 0 (match s.trunk.orders.get x.pos with | some e => _ | none => _) = _
  cases s.trunk.orders.get x.pos with
  | none => rfl
  | some e =>
    obtain ⟨order, fails, resting, sent⟩ := e
    cases sent <;> rfl

/-! ### The ANSWER -/

theorem PosRec.answerMode_eq (m : Mode) (r : PosRec) :
    r.answerMode m = { r with mode := if r.owner.isSome then r.mode else m } := by
  unfold PosRec.answerMode
  split <;> rfl

/-- The position record of `p` once its ANSWER is accepted. -/
def PosRec.answered (m : Mode) (r : PosRec) : PosRec :=
  { r with misses := 0, health := .online, available := true, mode := if r.owner.isSome then r.mode else m }

/-- The part before the JUNCTION of a junction that was not available. -/
def State.answered (x : Exchange) (m : Mode) (s : State) : State :=
  ((s.setTrunk { s.trunk with exchange := none, probePtr := x.pos, probeDone := true }).setMisses x.pos 0).setPosRec x.pos
    ((s.posRec x.pos).answered m)

theorem State.acceptAnswer_eq (x : Exchange) (m : Mode) (s : State) :
    s.acceptAnswer x m = if (s.posRec x.pos).available then s.answered x m else (s.answered x m).alert .junction := by
  have hr : ((s.setTrunk { s.trunk with exchange := none, probePtr := x.pos, probeDone := true }).setMisses x.pos 0).posRec x.pos =
      { s.posRec x.pos with misses := 0, health := .online } :=
    (State.posRec_clearMiss _ x.pos x.pos).trans (if_pos rfl)
  have same : (({ ((s.setTrunk { s.trunk with exchange := none, probePtr := x.pos, probeDone := true }).setMisses x.pos 0).posRec
      x.pos with available := true } : PosRec).answerMode m) = (s.posRec x.pos).answered m := by
    rw [hr, PosRec.answerMode_eq]
    rfl
  show (if (s.posRec x.pos).available then State.setPosRec _ _ _ else State.alert _ _) = _
  unfold State.answered
  rw [← same]
  rfl

theorem State.answered_effect (x : Exchange) (m : Mode) (s : State) :
    (s.answered x m).trunk = { s.trunk with exchange := none, probePtr := x.pos, probeDone := true } ∧
      (s.answered x m).pos = s.pos.set x.pos.val ((s.posRec x.pos).answered m) x.pos.isLt ∧
      Raises [] (fun c => c = .junction ∧ (s.posRec x.pos).health = .lost) s (s.answered x m) ∧
      (s.answered x m).band = s.band ∧ (s.answered x m).pre = s.pre ∧ (s.answered x m).ctl = s.ctl ∧
      (s.answered x m).kept = s.kept := by
  unfold State.answered
  generalize { s.trunk with exchange := none, probePtr := x.pos, probeDone := true } = t
  obtain ⟨trunk, pre, band, ctl⟩ := State.setMisses_frame x.pos 0 (s.setTrunk t)
  refine ⟨trunk, State.pos_eq_set fun o => ?_, (Raises.clearMiss_setTrunk s x.pos t).quiet rfl, band, pre, ctl, ?_⟩
  · rw [State.posRec_setPosRec, State.posRec_clearMiss]
    split <;> rfl
  · refine (State.kept_setPosRec ?_).trans ((State.kept_setMisses _ _ _).trans (State.kept_setTrunk _ _))
    rw [State.posRec_clearMiss, if_pos rfl]
    rfl

/-! ### O47 -/

/-- Settles O47: an accepted ACK and an accepted ANSWER. -/
theorem ackAndAnswerRule : Obligations.AckAndAnswerRule := by
  unfold Obligations.AckAndAnswerRule
  intro s x addr hp hx ha r
  refine ⟨fun hk => ?_, fun mode m hk hm => ?_⟩
  · have hj : x.judge addr 6 [if x.kind = .preempt then 4 else 5] = some .ack := by
      rcases hk with hk | hk
      · rw [Exchange.judge_addressed ha (by rw [hk]; rfl), hk]
        rfl
      · rw [Exchange.judge_addressed ha (by rw [hk]; rfl), hk]
        rfl
    refine ⟨s.acceptAck x, ?_, ?_⟩
    · rw [exec_received .ack, powered, if_pos hp, State.receiveFrame_accepted hx hj]
      rfl
    · rw [State.acceptAck_eq]
      show (_ = { s.trunk with exchange := none, orders := s.trunk.delivered x.pos }) ∧ _
      generalize { s.trunk with exchange := none, orders := s.trunk.delivered x.pos } = t
      obtain ⟨trunk, pre, band, ctl⟩ := State.setMisses_frame x.pos 0 (s.setTrunk t)
      exact ⟨trunk, State.pos_eq_set fun o => State.posRec_clearMiss _ x.pos o, Raises.clearMiss_setTrunk s x.pos t, band, pre, ctl,
        (State.kept_setMisses _ _ _).trans (State.kept_setTrunk _ _)⟩
  · have hj : x.judge addr 8 [mode] = some (.answer m) := by
      rw [Exchange.judge_addressed ha (by rw [hk]; rfl), hk, ← hm]
      show (Mode.ofByte m.code).map AwaitedAnswer.answer = _
      rw [Mode.ofByte_code]
      rfl
    refine ⟨s.acceptAnswer x m, ?_, ?_⟩
    · rw [exec_received .answer, powered, if_pos hp, State.receiveFrame_accepted hx hj]
      rfl
    · obtain ⟨trunk, pos, raises, band, pre, ctl, kept⟩ := s.answered_effect x m
      rw [State.acceptAnswer_eq]
      cases hav : (s.posRec x.pos).available with
      | true =>
        exact ⟨trunk, pos, raises.iff fun c => by simp [r], band, pre, ctl, kept⟩
      | false =>
        refine ⟨trunk, pos, (raises.trans (.alert .junction _) ?_).iff fun c => by simp [r]; tauto, band, pre, ctl,
          (State.kept_alert _ _).trans kept⟩
        exact State.setMisses_clock _ _ _

end Sys2Proof.Machine

end

section
/-! An accepted REPORT, part by part: its bytes, the measures it reaches, and the position record it leaves. -/

namespace Sys2Proof.Machine

/-! ### The body of a REPORT -/

section
variable {op o1 o0 acc tp sl gen mode ci co qi qo ti1 ti0 to1 to0 fi fo : Byte} {slot : SlotIx} {m : Mode}

/-- A REPORT body whose mode and present slot are in range is read field by field (R186). -/
theorem parseReport_fields (hm : m.code = mode) (hs : tp ≠ 0 → sl.toNat = slot.val) : ∃ rep : Report,
    parseReport [op, o1, o0, acc, tp, sl, gen, mode, ci, co, qi, qo, ti1, ti0, to1, to0, fi, fo] = some rep ∧
      rep.running = (if op ≠ 0 then some (o1.toNat * 256 + o0.toNat) else none) ∧ rep.accepted = (acc != 0) ∧
      rep.tag = (if tp ≠ 0 then some { slot, gen } else none) ∧ rep.mode = m ∧ rep.countIn = ci.toNat ∧
      rep.countOut = co.toNat ∧ rep.queueIn = qi.toNat ∧ rep.queueOut = qo.toNat ∧
      rep.transitIn = ti1.toNat * 256 + ti0.toNat ∧ rep.transitOut = to1.toNat * 256 + to0.toNat ∧
      rep.faultIn = (fi != 0) ∧ rep.faultOut = (fo != 0) := by
  have offset : (if op = 0 then none else some (ofHalf o1 o0)) =
      if op ≠ 0 then some (o1.toNat * 256 + o0.toNat) else none := (ite_not (op = 0) _ _).symm
  unfold parseReport
  simp only [← hm, Mode.ofByte_code]
  by_cases ht : tp = 0
  · rw [if_neg fun h => h.1 ht]
    exact ⟨_, rfl, offset, rfl, by simp [ht], rfl, rfl, rfl, rfl, rfl, rfl, rfl, rfl, rfl⟩
  · have hv : sl.toNat = slot.val := hs ht
    have slots : slotOf sl.toNat = some slot := by simp [slotOf, hv]
    rw [if_neg fun h => absurd h.2 (by omega)]
    exact ⟨_, rfl, offset, rfl, by simp [slots], rfl, rfl, rfl, rfl, rfl, rfl, rfl, rfl, rfl⟩

end

/-! ### The measures -/

theorem Measure.intake_takes (h : Header) (length sample : Nat) (fault : Bool) (m : Measure) :
    m.Takes h length sample fault (m.intake h length sample fault) := by
  unfold Measure.Takes Measure.intake
  intro present low high clamped value
  cases fault with
  | true => exact ⟨nofun, nofun, fun _ => by simp [samplePresent, present]⟩
  | false =>
    refine ⟨fun _ hn => ?_, fun _ hp => ?_, nofun⟩
    · simp [samplePresent, show ¬(1 ≤ sample ∧ sample ≤ 9999) from hn]
    · have screened : screen h length sample m.clamps = (value, if clamped then satInc 65535 m.clamps else m.clamps) := by
        unfold screen
        by_cases hl : length = 0
        · simp [value, clamped, hl]
        · by_cases h1 : sample < low
          · rw [if_neg hl, if_pos h1]
            simp [value, clamped, low, hl, show sample < travelTime length h.speedMax from h1]
          · rw [if_neg hl, if_neg h1]
            by_cases h2 : high < sample
            · rw [if_pos h2]
              simp [value, clamped, low, high, hl, show ¬sample < travelTime length h.speedMax from h1,
                show travelTime length h.speedMin < sample from h2]
            · rw [if_neg h2]
              simp [value, clamped, hl, h1, h2]
      have hs : samplePresent sample = true := decide_eq_true hp
      simp only [hs, screened, Bool.false_eq_true, if_false, if_true]
      cases m.quality <;> rfl

/-- What a report from `p` leaves of the measures of link `l` (R54). -/
def LinkRec.reported (h : Header) (p : Pos) (rep : Report) (l : LinkIx) (r : LinkRec) : LinkRec :=
  { r with
    inb := if l.val = p.val then r.inb.intake h r.length rep.transitIn rep.faultIn else r.inb
    outb := if l.val + 1 = p.val then r.outb.intake h r.length rep.transitOut rep.faultOut else r.outb }

section
variable {s : State} {p : Pos} (rep : Report)

theorem State.linkRec_measureReport (s : State) (p : Pos) (l : LinkIx) :
    (s.measureReport p rep).linkRec l = (s.linkRec l).reported s.plan p rep l := by
  have inbound : ∀ k, inboundLink p = some k ↔ k.val = p.val := fun k => by
    unfold inboundLink
    split
    · simp [Fin.ext_iff, eq_comm]
    · simp; omega
  have outbound : ∀ k, outboundLink p = some k ↔ k.val + 1 = p.val := fun k => by
    unfold outboundLink
    split
    · simp [Fin.ext_iff]; omega
    · simp; omega
  unfold State.measureReport LinkRec.reported
  simp only [← inbound, ← outbound]
  cases hi : inboundLink p with
  | none =>
    cases ho : outboundLink p with
    | none => simp
    | some k =>
      simp only [State.linkRec_setLinkRec, reduceCtorEq, if_false, Option.some.injEq]
      by_cases e : k = l
      · rw [if_pos e, if_pos e, e]
      · rw [if_neg e, if_neg e]
  | some j =>
    cases ho : outboundLink p with
    | none =>
      simp only [State.linkRec_setLinkRec, reduceCtorEq, if_false, Option.some.injEq]
      by_cases e : j = l
      · rw [if_pos e, if_pos e, e]
      · rw [if_neg e, if_neg e]
    | some k =>
      have apart : j ≠ k := by
        have hj := (inbound j).1 hi
        have hk := (outbound k).1 ho
        rintro rfl
        omega
      simp only [State.linkRec_setLinkRec, Option.some.injEq]
      by_cases e : k = l
      · subst e
        rw [if_pos rfl, if_pos rfl, if_neg apart, if_neg apart]
        rfl
      · rw [if_neg e, if_neg e]
        by_cases e' : j = l
        · rw [if_pos e', if_pos e', e']
        · rw [if_neg e', if_neg e']

theorem State.measureReport_eq (s : State) (p : Pos) : s.measureReport p rep = { s with links := (s.measureReport p rep).links } := by
  unfold State.measureReport
  cases inboundLink p <;> cases outboundLink p <;> rfl

/-- The queue and count records of the position a report comes from (R58, R59). -/
def State.measReported (s : State) (p : Pos) : Meas :=
  { s.meas with
    pos := s.meas.pos.set p.val
      ⟨some ⟨min rep.queueIn 60, s.clock.cycleNo⟩, some ⟨min rep.queueOut 60, s.clock.cycleNo⟩, true, rep.countIn, rep.countOut⟩
      p.isLt }

theorem State.measureIntake_eq (s : State) (p : Pos) :
    s.measureIntake p rep = { s with links := (s.measureReport p rep).links, meas := s.measReported rep p } := by
  unfold State.measureIntake
  rw [s.measureReport_eq rep p]
  rfl

end

/-! ### The position record -/

theorem Mode.isHeld_iff (m : Mode) : m.isHeld = true ↔ m = .preempted ∨ m = .localHeld := by
  cases m <;> decide

theorem Mode.not_held {m : Mode} (hm : m.isHeld = false) : ¬(m = .preempted ∨ m = .localHeld) := fun h => by
  simp [m.isHeld_iff.2 h] at hm

/-- The mode and suspension step of a report and the evaluation after it (R103). -/
def PosRec.settled (h : Header) (off : Bool) (m : Mode) (r : PosRec) : PosRec := (r.takeMode h off m).reevaluate h

/-- The mode a report or an ANSWER leaves: the one it names, but that of an owned position stays (R108). -/
def PosRec.modeHeard (m : Mode) (r : PosRec) : Mode := if r.owner.isSome then r.mode else m

section
variable {h : Header} {off : Bool} {m : Mode} {r : PosRec}

theorem PosRec.reevaluate_of_active (hk : r.seek.isActive = true) : r.reevaluate h = r.evaluate h := if_pos hk

theorem PosRec.reevaluate_of_not_active (hk : r.seek.isActive = false) : r.reevaluate h = r := if_neg (by simp [hk])

theorem PosRec.modeHeard_owned (ho : r.owner.isSome = true) : r.modeHeard m = r.mode := if_pos ho

theorem PosRec.modeHeard_unowned (ho : r.owner = none) : r.modeHeard m = m := if_neg (by simp [ho])

theorem PosRec.takeMode_owned (ho : r.owner.isSome = true) : r.takeMode h off m = r := if_pos ho

theorem PosRec.takeMode_held (ho : r.owner = none) (hm : m.isHeld = true) : r.takeMode h off m =
    if r.seek.isActive then { r with mode := m, seek := .suspended .seeking, travel := none } else { r with mode := m } :=
  (if_neg (by simp [ho])).trans (if_pos hm)

theorem PosRec.takeMode_unheld (ho : r.owner = none) (hm : m.isHeld = false) :
    r.takeMode h off m = ({ r with mode := m } : PosRec).endSuspension h off :=
  (if_neg (by simp [ho])).trans (if_neg (by simp [hm]))

theorem PosRec.endSuspension_of_not_suspended (hn : ∀ ret, r.seek ≠ .suspended ret) : r.endSuspension h off = r := by
  unfold PosRec.endSuspension
  split
  next hs => exact absurd hs (hn _)
  · rfl

theorem PosRec.settled_active (hk : r.seek.isActive = true) : r.settled h off m =
    if r.owner = none ∧ (m = .preempted ∨ m = .localHeld) then { r with mode := m, seek := .suspended .seeking, travel := none }
    else ({ r with mode := r.modeHeard m } : PosRec).evaluate h := by
  have moved : ∀ n, ({ r with mode := n } : PosRec).reevaluate h = ({ r with mode := n } : PosRec).evaluate h :=
    fun n => PosRec.reevaluate_of_active hk
  unfold PosRec.settled
  rcases Option.eq_none_or_eq_some r.owner with ho | ⟨v, hv⟩
  · cases hm : m.isHeld with
    | true =>
      rw [if_pos ⟨ho, m.isHeld_iff.1 hm⟩, PosRec.takeMode_held ho hm, if_pos hk]
      rfl
    | false =>
      have stays : ∀ ret, r.seek ≠ .suspended ret := fun ret e => by simp [e, SeekState.isActive] at hk
      rw [if_neg fun hh => Mode.not_held hm hh.2, PosRec.takeMode_unheld ho hm,
        PosRec.endSuspension_of_not_suspended (r := { r with mode := m }) stays,
        PosRec.modeHeard_unowned ho, moved]
  · have ho : r.owner.isSome = true := by rw [hv]; rfl
    rw [if_neg (by simp [hv]), PosRec.takeMode_owned ho, PosRec.modeHeard_owned ho]
    exact moved r.mode

theorem PosRec.settled_idle (hk : r.seek = .idle) : r.settled h off m = { r with mode := r.modeHeard m } := by
  have rests : r.seek.isActive = false := by rw [hk]; rfl
  have still : ∀ n, ({ r with mode := n } : PosRec).reevaluate h = { r with mode := n } := fun n =>
    PosRec.reevaluate_of_not_active rests
  unfold PosRec.settled
  rcases Option.eq_none_or_eq_some r.owner with ho | ⟨v, hv⟩
  · rw [PosRec.modeHeard_unowned ho]
    cases hm : m.isHeld with
    | true => rw [PosRec.takeMode_held ho hm, if_neg (by simp [rests]), still]
    | false =>
      rw [PosRec.takeMode_unheld ho hm, PosRec.endSuspension_of_not_suspended (r := { r with mode := m }) fun ret e => by simp [hk] at e, still]
  · have ho : r.owner.isSome = true := by rw [hv]; rfl
    rw [PosRec.takeMode_owned ho, PosRec.modeHeard_owned ho]
    exact still r.mode

theorem PosRec.settled_suspended {ret : ReturnState} (hk : r.seek = .suspended ret) : r.settled h off m =
    if r.owner.isSome = true ∨ (m = .preempted ∨ m = .localHeld) then { r with mode := r.modeHeard m }
    else if ret = .idle ∨ off = true then { r with mode := m, seek := .idle, travel := none }
    else ({ r with mode := m } : PosRec).evaluate h := by
  have rests : r.seek.isActive = false := by rw [hk]; rfl
  have still : ∀ n, ({ r with mode := n } : PosRec).reevaluate h = { r with mode := n } := fun n =>
    PosRec.reevaluate_of_not_active rests
  unfold PosRec.settled
  rcases Option.eq_none_or_eq_some r.owner with ho | ⟨v, hv⟩
  · cases hm : m.isHeld with
    | true =>
      rw [if_pos (.inr (m.isHeld_iff.1 hm)), PosRec.modeHeard_unowned ho, PosRec.takeMode_held ho hm, if_neg (by simp [rests]), still]
    | false =>
      rw [if_neg (by simp [ho, Mode.not_held hm]), PosRec.takeMode_unheld ho hm]
      by_cases hi : ret = .idle ∨ off = true
      · rw [if_pos hi, PosRec.endSuspension, show ({ r with mode := m } : PosRec).seek = .suspended ret from hk]
        dsimp only
        rw [if_pos hi]
        rfl
      · rw [if_neg hi, PosRec.endSuspension_seeks h (r := { r with mode := m }) hk hi]
        have active : (({ r with mode := m } : PosRec).evaluate h).seek.isActive = true := by
          rw [PosRec.evaluate_eq]
          dsimp only
          split <;> rfl
        rw [PosRec.reevaluate_of_active active, PosRec.evaluate_eq, PosRec.evaluate_eq]
        rfl
  · have ho : r.owner.isSome = true := by rw [hv]; rfl
    rw [if_pos (.inl ho), PosRec.takeMode_owned ho, PosRec.modeHeard_owned ho]
    exact still r.mode

/-- The seek a report leaves, in the words of the statement. -/
def PosRec.seekHeard (runs : Bool) (m : Mode) (r : PosRec) : SeekState :=
  let evaluated : SeekState := if r.target.isSome = true ∧ r.target = r.running then .inStep else .seeking
  match r.seek with
  | .idle => .idle
  | .seeking | .inStep => if r.owner = none ∧ (m = .preempted ∨ m = .localHeld) then .suspended .seeking else evaluated
  | .suspended ret =>
    if r.owner.isSome ∨ (m = .preempted ∨ m = .localHeld) then .suspended ret
    else if ret = .idle ∨ runs = false then .idle
    else evaluated

/-- A report's mode and suspension step and evaluation: the mode, the seek, and the direction and remaining that go with it. -/
def SettledAs (h : Header) (runs : Bool) (m : Mode) (r : PosRec) : Prop :=
  let r' := r.settled h (!runs) m
  r' = { r with mode := r.modeHeard m, seek := r'.seek, travel := r'.travel } ∧ r'.seek = r.seekHeard runs m ∧
    (r'.seek = .seeking ∨ r'.seek = .inStep → r'.travel = r.seekTravel h) ∧
    (r'.seek = .idle ∨ (∃ ret, r'.seek = .suspended ret) → r'.travel = if r'.seek = r.seek then r.travel else none)

theorem PosRec.settledAs (h : Header) (runs : Bool) (m : Mode) (r : PosRec) : SettledAs h runs m r := by
  have evaluated : ∀ n, ({ r with mode := n } : PosRec).evaluate h = { r with
      mode := n, seek := if r.target.isSome = true ∧ r.target = r.running then .inStep else .seeking, travel := r.seekTravel h } :=
    fun n => PosRec.evaluate_eq _ _
  have fromActive : r.seek.isActive = true → SettledAs h runs m r := fun ha => by
    have heard : r.seekHeard runs m =
        if r.owner = none ∧ (m = .preempted ∨ m = .localHeld) then .suspended .seeking
        else if r.target.isSome = true ∧ r.target = r.running then .inStep else .seeking := by
      revert ha
      unfold PosRec.seekHeard
      cases r.seek <;> simp [SeekState.isActive]
    rw [SettledAs, heard, PosRec.settled_active ha]
    split
    next hh =>
      refine ⟨by rw [PosRec.modeHeard_unowned hh.1], rfl, by simp, fun _ => ?_⟩
      rw [if_neg]
      intro e
      rw [← e] at ha
      exact absurd ha (by simp [SeekState.isActive])
    · rw [evaluated]
      refine ⟨rfl, rfl, fun _ => rfl, ?_⟩
      dsimp only
      split <;> simp
  cases hk : r.seek with
  | idle =>
    rw [SettledAs, PosRec.settled_idle hk]
    refine ⟨rfl, ?_, ?_, ?_⟩ <;> simp [PosRec.seekHeard, hk]
  | seeking => exact fromActive (by rw [hk]; rfl)
  | inStep => exact fromActive (by rw [hk]; rfl)
  | suspended ret =>
    have heard : r.seekHeard runs m =
        if r.owner.isSome ∨ (m = .preempted ∨ m = .localHeld) then .suspended ret
        else if ret = .idle ∨ runs = false then .idle
        else if r.target.isSome = true ∧ r.target = r.running then .inStep else .seeking := by
      rw [PosRec.seekHeard, hk]
    rw [SettledAs, heard, PosRec.settled_suspended hk]
    split
    next hh => exact ⟨rfl, hk, by simp [hk], by simp [hk]⟩
    next hh =>
      have unowned : r.modeHeard m = m := if_neg fun ho => hh (.inl ho)
      rw [unowned]
      simp only [Bool.not_eq_true']
      split
      · exact ⟨rfl, rfl, by simp, by simp [hk]⟩
      · rw [evaluated]
        refine ⟨rfl, rfl, fun _ => rfl, ?_⟩
        dsimp only
        split <;> simp

/-- The running offset a report leaves (R105). -/
def PosRec.runningHeard (h : Header) (active : PlanTag) (rep : Report) (r : PosRec) : Option Nat :=
  match rep.running with
  | some o => if o < h.c ∧ rep.tag = some active then some (modC ((o : Int) + r.reconciled rep.accepted) h.c) else none
  | none => none

/-- The round of a position is spent by the report when its correction went out in this cycle (R103). -/
def PosRec.spentBy (n : Half) (r : PosRec) : Bool :=
  r.spent || match r.sent with
    | some c => decide (c.cycle = n)
    | none => false

/-- The tag and offset steps of a report (R103 to R105). -/
def PosRec.heard (h : Header) (active : PlanTag) (rep : Report) (r : PosRec) : PosRec :=
  { r with tagSeen := rep.tag, reload := decide (rep.tag ≠ some active), running := r.runningHeard h active rep }

theorem PosRec.takeOffset_takeTag (active : PlanTag) (rep : Report) :
    (r.takeTag active rep.tag).takeOffset h active rep = r.heard h active rep := by
  unfold PosRec.takeOffset PosRec.heard PosRec.runningHeard
  cases rep.running with
  | none => rfl
  | some o =>
    dsimp only
    split <;> rfl

theorem PosRec.closeRound_eq (n : Half) : r.closeRound n = { r with spent := r.spentBy n, sent := none } := by
  unfold PosRec.closeRound PosRec.spentBy
  cases hs : r.sent with
  | none =>
    simp only [Bool.or_false]
    rw [← hs]
  | some c => rfl

theorem State.reportSeek_eq (p : Pos) (rep : Report) (s : State) : s.reportSeek p rep = s.putSeek p
    ((((s.posRec p).heard s.plan s.planTag rep).settled s.plan (!s.ctl.master.runs) rep.mode).closeRound s.clock.cycleNo) := by
  unfold State.reportSeek
  dsimp only
  rw [PosRec.takeOffset_takeTag]
  rfl

end

end Sys2Proof.Machine

end

section
/-! Settlement of O46: an accepted REPORT. -/

namespace Sys2Proof.Machine

section
variable (s : State) (x : Exchange) (rep : Report)

/-- The part of an accepted REPORT before the Transition Unit takes it. -/
def State.reportHeard : State := (s.endExchange.setMisses x.pos 0).measureIntake x.pos rep

theorem State.posRec_reportHeard (o : Pos) : (s.reportHeard x rep).posRec o =
    if x.pos = o then { s.posRec x.pos with misses := 0, health := .online } else s.posRec o := by
  unfold State.reportHeard
  rw [State.measureIntake_eq]
  exact State.posRec_clearMiss s.endExchange x.pos o

/-- The blocks a REPORT does not reach, before the Transition Unit takes it. -/
theorem State.reportHeard_frame : (s.reportHeard x rep).trunk = { s.trunk with exchange := none } ∧
    (s.reportHeard x rep).pre = s.pre ∧ (s.reportHeard x rep).band = s.band ∧ (s.reportHeard x rep).ctl = s.ctl := by
  unfold State.reportHeard
  rw [State.measureIntake_eq]
  exact State.setMisses_frame x.pos 0 s.endExchange

theorem State.kept_missCleared : (s.endExchange.setMisses x.pos 0).kept = s.kept :=
  (State.kept_setMisses _ _ _).trans (State.kept_setTrunk _ _)

theorem State.reportHeard_kept :
    (s.reportHeard x rep).kept = { s.kept with links := (s.reportHeard x rep).links, meas := s.measReported rep x.pos } := by
  have before := s.kept_missCleared x
  have clock := State.clock_of_kept before
  have meas : (s.endExchange.setMisses x.pos 0).meas = s.meas := congrArg Kept.meas before
  have records : (s.endExchange.setMisses x.pos 0).measReported rep x.pos = s.measReported rep x.pos := by
    unfold State.measReported
    rw [clock, meas]
  unfold State.reportHeard
  rw [State.measureIntake_eq, records]
  exact congrArg (fun k : Kept => ({ k with links := _, meas := s.measReported rep x.pos } : Kept)) before

theorem State.linkRec_reportHeard (l : LinkIx) :
    (s.reportHeard x rep).linkRec l = (s.linkRec l).reported s.plan x.pos rep l := by
  have before := s.kept_missCleared x
  have plan : (s.endExchange.setMisses x.pos 0).plan = s.plan := congrArg (fun k => k.plans.header k.plans.active) before
  have links : (s.endExchange.setMisses x.pos 0).linkRec l = s.linkRec l := congrArg (fun k => k.links.get l) before
  rw [← plan, ← links, ← State.linkRec_measureReport]
  unfold State.reportHeard
  rw [State.measureIntake_eq]
  rfl

theorem Raises.reportHeard :
    Raises [] (fun c => c = .junction ∧ (s.posRec x.pos).health = .lost) s (s.reportHeard x rep) := by
  refine (Raises.clearMiss x.pos s.endExchange).congr (s' := s) rfl rfl ?_
  unfold State.reportHeard
  rw [State.measureIntake_eq]

/-! ### The position record an accepted REPORT leaves -/

/-- Before the correction is taken afresh. -/
def State.recordHeard : PosRec :=
  ((({ s.posRec x.pos with misses := 0, health := .online } : PosRec).heard s.plan s.planTag rep).settled s.plan
    (!s.ctl.master.runs) rep.mode).closeRound s.clock.cycleNo

theorem State.acceptReport_eq : s.acceptReport x rep = (s.reportHeard x rep).putSeek x.pos (s.recordHeard x rep) := by
  have kept := s.reportHeard_kept x rep
  have plan : (s.reportHeard x rep).plan = s.plan := congrArg (fun k : Kept => k.plans.header k.plans.active) kept
  have tag : (s.reportHeard x rep).planTag = s.planTag :=
    congrArg (fun k : Kept => (⟨k.plans.active, (k.plans.slot k.plans.active).gen⟩ : PlanTag)) kept
  have clock : (s.reportHeard x rep).clock = s.clock := congrArg Kept.clock kept
  obtain ⟨-, -, -, ctl⟩ := s.reportHeard_frame x rep
  show (s.reportHeard x rep).reportSeek x.pos rep = _
  rw [State.reportSeek_eq, State.posRec_reportHeard, if_pos rfl, plan, tag, clock, ctl]
  rfl

/-- The record a REPORT leaves, field by field; its seek and travel are those of the evaluation. -/
theorem State.recordHeard_eq : ∃ k w, s.recordHeard x rep =
      { s.posRec x.pos with
        misses := 0, health := .online, tagSeen := rep.tag, reload := decide (rep.tag ≠ some s.planTag)
        running := (s.posRec x.pos).runningHeard s.plan s.planTag rep, mode := (s.posRec x.pos).modeHeard rep.mode
        seek := k, travel := w, spent := (s.posRec x.pos).spentBy s.clock.cycleNo, sent := none } ∧
    k = ((s.posRec x.pos).heard s.plan s.planTag rep).seekHeard s.ctl.master.runs rep.mode ∧
    (k = .seeking ∨ k = .inStep → w = (s.recordHeard x rep).seekTravel s.plan) ∧
    (k = .idle ∨ (∃ ret, k = .suspended ret) → w = if k = (s.posRec x.pos).seek then (s.posRec x.pos).travel else none) := by
  obtain ⟨whole, seek, active, rests⟩ := PosRec.settledAs s.plan s.ctl.master.runs rep.mode
    (({ s.posRec x.pos with misses := 0, health := .online } : PosRec).heard s.plan s.planTag rep)
  have recorded : s.recordHeard x rep = _ := PosRec.closeRound_eq _
  rw [whole] at recorded
  exact ⟨_, _, recorded, seek, fun hk => by rw [recorded]; exact active hk, rests⟩

theorem State.posRec_acceptReport (o : Pos) : (s.acceptReport x rep).posRec o =
    if x.pos = o then (s.recordHeard x rep).recorrect s.plan else s.posRec o := by
  have plan : (s.reportHeard x rep).plan = s.plan :=
    congrArg (fun k : Kept => k.plans.header k.plans.active) (s.reportHeard_kept x rep)
  rw [State.acceptReport_eq, State.posRec_putSeek, State.posRec_reportHeard, plan]
  split <;> rfl

theorem Raises.acceptReport : Raises []
    (fun c => c = .junction ∧ (s.posRec x.pos).health = .lost ∨ c = .seek ∧ EntersStep s (s.acceptReport x rep)) s
    (s.acceptReport x rep) := by
  have sought : EntersStep (s.reportHeard x rep) (s.acceptReport x rep) ↔ EntersStep s (s.acceptReport x rep) :=
    EntersStep.congr (fun o => by
      rw [State.posRec_reportHeard]
      split
      next e => rw [e]
      · rfl) fun _ => rfl
  have taken := Raises.putSeek x.pos (s.recordHeard x rep) (s.reportHeard x rep)
  rw [← State.acceptReport_eq, sought] at taken
  exact (Raises.reportHeard s x rep).trans taken (congrArg Kept.clock (s.reportHeard_kept x rep))

theorem State.kept_acceptReport : (s.acceptReport x rep).kept = (s.reportHeard x rep).kept := by
  rw [State.acceptReport_eq]
  refine State.kept_putSeek ?_
  obtain ⟨k, w, record, -⟩ := s.recordHeard_eq x rep
  rw [record, State.posRec_reportHeard, if_pos rfl]

end

/-! ### O46 -/

/-- Settles O46: an accepted REPORT. -/
theorem reportRule : Obligations.ReportRule := by
  unfold Obligations.ReportRule
  intro s x addr op o1 o0 acc tp sl gen mode ci co qi qo ti1 ti0 to1 to0 fi fo slot m hp hx hk ha hm hs p r h tag offset moved
    running evaluated held
  obtain ⟨rep, parsed, hrun, hacc, htag, hmode, hci, hco, hqi, hqo, hti, hto, hfi, hfo⟩ :=
    parseReport_fields (op := op) (o1 := o1) (o0 := o0) (acc := acc) (gen := gen) (ci := ci) (co := co) (qi := qi)
      (qo := qo) (ti1 := ti1) (ti0 := ti0) (to1 := to1) (to0 := to0) (fi := fi) (fo := fo) hm hs
  have hj : x.judge addr 3 [op, o1, o0, acc, tp, sl, gen, mode, ci, co, qi, qo, ti1, ti0, to1, to0, fi, fo] =
      some (.report rep) := by
    rw [Exchange.judge_addressed ha (by rw [hk]; rfl), hk]
    exact congrArg (Option.map AwaitedAnswer.report) parsed
  have heard : (s.posRec p).runningHeard s.plan s.planTag rep = running := by
    have reconciled : (s.posRec p).reconciled rep.accepted = moved := by
      unfold PosRec.reconciled
      rw [hacc]
      simp only [moved, r]
      cases (s.posRec p).sent <;> simp
    unfold PosRec.runningHeard
    rw [hrun, htag, reconciled]
    by_cases ho : op = 0
    · simp [running, ho]
    · simp only [running, ho, ne_eq, not_false_eq_true, if_true, true_and]
      rfl
  obtain ⟨k, w, record, seek, active, rests⟩ := s.recordHeard_eq x rep
  have at_p : (s.acceptReport x rep).posRec p = (s.recordHeard x rep).recorrect s.plan :=
    (State.posRec_acceptReport s x rep p).trans (if_pos rfl)
  obtain ⟨trunk, pre, band, ctl⟩ := s.reportHeard_frame x rep
  obtain ⟨trunk', pre', band', ctl'⟩ := State.putSeek_frame x.pos (s.recordHeard x rep) (s.reportHeard x rep)
  rw [← State.acceptReport_eq] at trunk' pre' band' ctl'
  have kept := s.kept_acceptReport x rep
  have links : ∀ l, (s.acceptReport x rep).linkRec l = (s.linkRec l).reported s.plan x.pos rep l := fun l =>
    (congrArg (fun k : Kept => k.links.get l) kept).trans (State.linkRec_reportHeard s x rep l)
  refine ⟨s.acceptReport x rep, ?_, trunk'.trans trunk, ?_, fun o ho => ?_, Raises.acceptReport s x rep, fun l => ?_, ?_,
    band'.trans band, pre'.trans pre, ctl'.trans ctl, ?_⟩
  · rw [exec_received .report, powered, if_pos hp, State.receiveFrame_accepted hx hj]
    rfl
  · have final : (s.acceptReport x rep).posRec p = _ := at_p.trans (by rw [PosRec.recorrect, PosRec.roundCorrection_eq_owed])
    have seekTravel : (s.recordHeard x rep).seekTravel s.plan = ((s.acceptReport x rep).posRec p).seekTravel h := by rw [final]; rfl
    have owed : (s.recordHeard x rep).owed s.plan = ((s.acceptReport x rep).posRec p).owed h := by rw [final]; rfl
    rw [owed, record] at final
    rw [seekTravel] at active
    intro r'
    have tagged : rep.tag = tag := htag
    have seek' : r'.seek = k := congrArg PosRec.seek final
    have travel' : r'.travel = w := congrArg PosRec.travel final
    refine ⟨congrArg PosRec.misses final, congrArg PosRec.health final, (congrArg PosRec.tagSeen final).trans tagged,
      (congrArg PosRec.reload final).trans (by rw [tagged]), (congrArg PosRec.running final).trans heard,
      congrArg PosRec.sent final, congrArg PosRec.spent final, (congrArg PosRec.mode final).trans (by rw [hmode]; rfl),
      seek'.trans (seek.trans ?_), fun hk => ?_, fun hk => ?_, (congrArg PosRec.correction final).trans rfl, (congrArg PosRec.target final).trans rfl,
      (congrArg PosRec.enrolment final).trans rfl, (congrArg PosRec.available final).trans rfl, (congrArg PosRec.owner final).trans rfl, (congrArg PosRec.claims final).trans rfl⟩
    · unfold PosRec.seekHeard PosRec.heard
      dsimp only
      rw [heard, hmode] <;> rfl
    · rw [seek'] at hk
      exact travel'.trans (active hk)
    · rw [seek'] at hk ⊢
      exact travel'.trans (rests hk)
  · exact (State.posRec_acceptReport s x rep o).trans (if_neg fun e => ho e.symm)
  · rw [links l]
    refine ⟨rfl, ?_, ?_⟩
    · split
      next e =>
        show Measure.Takes _ _ _ _ _ (if _ then _ else _)
        rw [if_pos e, hti, hfi]
        exact Measure.intake_takes _ _ _ _ _
      next e => exact if_neg e
    · split
      next e =>
        show Measure.Takes _ _ _ _ _ (if _ then _ else _)
        rw [if_pos e, hto, hfo]
        exact Measure.intake_takes _ _ _ _ _
      next e => exact if_neg e
  · refine (congrArg Kept.meas (kept.trans (s.reportHeard_kept x rep))).trans ?_
    show s.measReported rep x.pos = _
    unfold State.measReported
    rw [hqi, hqo, hci, hco]
  · rw [kept, s.reportHeard_kept x rep]
    rfl

end Sys2Proof.Machine

end

section
/-! An attempt that fails: what counts as a failure, the STEP failure, the order that rests, and the miss (R106, R122, R128, R131). -/

namespace Sys2Proof.Machine

/-! ### The answer awaited, as the statements write it -/

theorem Mode.ofByte_isSome {b : Byte} {m : Mode} (h : Mode.ofByte b = some m) : b.toNat ≤ 3 := by
  unfold Mode.ofByte at h
  split at h <;> first | omega | cases h

theorem parseReport_some {b : List Byte} {rep : Report} (h : parseReport b = some rep) :
    b.length = 18 ∧ (b.getD 7 0).toNat ≤ 3 ∧ (b.getD 4 0 = 0 ∨ (b.getD 5 0).toNat ≤ 15) := by
  unfold parseReport at h
  split at h
  next op o1 o0 acc tp slot gen mode ci co qi qo ti1 ti0 to1 to0 fi fo =>
    split at h
    · cases h
    next m hm =>
      split at h
      · cases h
      next hs =>
        refine ⟨rfl, Mode.ofByte_isSome hm, ?_⟩
        show tp = 0 ∨ slot.toNat ≤ 15
        by_cases ht : tp = 0
        · exact .inl ht
        · exact .inr (Nat.le_of_lt_succ (Nat.lt_of_not_le fun hl => hs ⟨ht, hl⟩))
  · cases h

/-- A frame that is judged the answer of an exchange is the one it awaits (R122, R186). -/
theorem Exchange.awaits_of_judge {x : Exchange} {a k : Byte} {b : List Byte} {w : AwaitedAnswer} (h : x.judge a k b = some w) :
    x.Awaits a k b := by
  unfold Exchange.judge at h
  split at h
  next addressed =>
    obtain ⟨ha, hk⟩ := addressed
    refine ⟨ha, ?_⟩
    unfold parseAnswer at h
    cases e : x.kind with
    | step =>
      rw [e] at h hk
      obtain ⟨rep, hrep, -⟩ := Option.map_eq_some_iff.1 h
      exact ⟨hk, parseReport_some hrep⟩
    | preempt =>
      rw [e] at h hk
      dsimp only at h
      split at h
      next hb => exact ⟨hk, hb⟩
      · cases h
    | release =>
      rw [e] at h hk
      dsimp only at h
      split at h
      next hb => exact ⟨hk, hb⟩
      · cases h
    | probe =>
      rw [e] at h hk
      dsimp only at h
      split at h
      next m =>
        obtain ⟨n, hn, -⟩ := Option.map_eq_some_iff.1 h
        exact ⟨hk, rfl, Mode.ofByte_isSome hn⟩
      · cases h
  · cases h

/-- What ends an attempt without its answer runs the failure of the attempt on the state with the count raised (R122). -/
theorem Fails.exec {s u : State} {x : Exchange} {c : Instr} (h : Fails s x c u) (hp : s.powered = true)
    (hx : s.trunk.exchange = some x) : Machine.exec c s = .next (u.attemptFailed x) := by
  cases h with
  | expires =>
    show powered State.windowExpires s = _
    rw [powered, if_pos hp, State.windowExpires, hx]
    rfl
  | badCheck =>
    show powered State.badCheck s = _
    rw [powered, if_pos hp, State.badCheck, hx]
    rfl
  | wrong a k b c hr hn =>
    have refused : x.judge a k b = none := Option.eq_none_iff_forall_ne_some.2 fun w hw => hn (Exchange.awaits_of_judge hw)
    rw [exec_received hr, powered, if_pos hp, State.receiveFrame_refused hx refused]
    rfl

/-- A failure raises one of the trunk's two counts and leaves everything else. -/
theorem Fails.eq_setTrunk {s u : State} {x : Exchange} {c : Instr} (h : Fails s x c u) :
    ∃ t : Trunk, u = s.setTrunk t ∧ t.orders = s.trunk.orders := by
  cases h with
  | expires => exact ⟨_, rfl, rfl⟩
  | badCheck => exact ⟨_, rfl, rfl⟩
  | wrong a k b c hr hn => exact ⟨_, rfl, rfl⟩

/-! ### The STEP failure (R106) -/

section
variable (h : Header) (n : Half) (r : PosRec)

theorem PosRec.loseOffset_eq {y : SentCorrection} (hy : r.sent = some y) : r.loseOffset h = { r with
    running := if y.value = 0 then r.running else none
    seek := if y.value ≠ 0 ∧ (r.seek = .seeking ∨ r.seek = .inStep) then .seeking else r.seek
    travel := if y.value ≠ 0 ∧ (r.seek = .seeking ∨ r.seek = .inStep) then none else r.travel } := by
  have step : r.loseOffset h = if y.value ≠ 0 then ({ r with running := none } : PosRec).reevaluate h else r := by
    unfold PosRec.loseOffset
    split
    next c hc =>
      obtain rfl := Option.some.inj (hc.symm.trans hy)
      rfl
    next hc =>
      rw [hc] at hy
      cases hy
  rw [step]
  by_cases hv : y.value = 0
  · rw [if_neg (by simp [hv]), if_pos hv, if_neg fun e => e.1 hv, if_neg fun e => e.1 hv]
  · rw [if_pos hv, if_neg hv]
    by_cases hk : r.seek = .seeking ∨ r.seek = .inStep
    · have active : r.seek.isActive = true := by rcases hk with e | e <;> rw [e] <;> rfl
      rw [if_pos ⟨hv, hk⟩, if_pos ⟨hv, hk⟩, PosRec.reevaluate_of_active (r := { r with running := none }) active,
        PosRec.evaluate_eq]
      unfold PosRec.seekTravel
      cases r.target <;> simp
    · have rests : r.seek.isActive = false := by
        cases e : r.seek with
        | idle => rfl
        | suspended ret => rfl
        | seeking => exact absurd (.inl e) hk
        | inStep => exact absurd (.inr e) hk
      rw [if_neg fun e => hk e.2, if_neg fun e => hk e.2,
        PosRec.reevaluate_of_not_active (r := { r with running := none }) rests]

theorem PosRec.loseOffset_of_none (hy : r.sent = none) : r.loseOffset h = r := by
  unfold PosRec.loseOffset
  rw [hy]

/-- A STEP failure leaves the record the statement names. -/
theorem PosRec.stepFailure_recorrect : ((r.loseOffset h).closeRound n).recorrect h = r.afterStepFailure h n := by
  rw [PosRec.recorrect, PosRec.roundCorrection_eq_owed, PosRec.closeRound_eq]
  unfold PosRec.afterStepFailure PosRec.spentBy
  cases hy : r.sent with
  | none =>
    rw [PosRec.loseOffset_of_none h r hy]
    simp only [hy, Bool.or_false]
    rw [← hy]
  | some y =>
    rw [PosRec.loseOffset_eq h r hy]
    simp only [hy]

theorem PosRec.afterStepFailure_inStep (hk : (r.afterStepFailure h n).seek = .inStep) : r.seek = .inStep := by
  unfold PosRec.afterStepFailure at hk
  cases hy : r.sent with
  | none => simpa [hy] using hk
  | some y =>
    simp only [hy] at hk
    split at hk
    · cases hk
    · exact hk

/-- A STEP failure leaves the enrolment, the health, the misses and the holders. -/
theorem PosRec.afterStepFailure_frame :
    (r.afterStepFailure h n).enrolment = r.enrolment ∧ (r.afterStepFailure h n).health = r.health ∧
      (r.afterStepFailure h n).misses = r.misses ∧ (r.afterStepFailure h n).owner = r.owner ∧
      (r.afterStepFailure h n).claims = r.claims := by
  unfold PosRec.afterStepFailure
  cases r.sent <;> exact ⟨rfl, rfl, rfl, rfl, rfl⟩

end

/-- A STEP failure makes no position enter IN_STEP, so it raises no alert. -/
theorem State.stepFailure_eq (p : Pos) (s : State) :
    s.stepFailure p = s.setPosRec p ((s.posRec p).afterStepFailure s.plan s.clock.cycleNo) := by
  have record := PosRec.stepFailure_recorrect s.plan s.clock.cycleNo (s.posRec p)
  unfold State.stepFailure State.putSeek
  dsimp only
  rw [record]
  refine if_neg fun hh => hh.2 (PosRec.afterStepFailure_inStep s.plan s.clock.cycleNo (s.posRec p) ?_)
  rw [← record]
  exact hh.1

/-! ### The order that rests (R131) -/

/-- The failed attempt of an order, before its miss. -/
def State.orderRests (p : Pos) (s : State) : State :=
  match s.trunk.orders.get p with
  | none => s
  | some e =>
    if e.sent then
      let s1 := s.setOrder p (some { e with fails := satInc 255 e.fails, resting := true, sent := false })
      if satInc 255 e.fails = 3 ∧ e.fails ≠ 3 then s1.fault (.preemptUndelivered p e.order.vector) else s1
    else s

theorem State.orderFailed_eq {p : Pos} {s : State} (h : (s.trunk.orders.get p).isSome = true) :
    s.orderFailed p = (s.orderRests p).missOrder p := by
  obtain ⟨e, he⟩ := Option.isSome_iff_exists.1 h
  unfold State.orderFailed State.orderRests
  rw [he]
  dsimp only
  split <;> rfl

theorem State.orderFailed_none {p : Pos} {s : State} (h : s.trunk.orders.get p = none) : s.orderFailed p = s := by
  unfold State.orderFailed
  rw [h]

theorem thirdFailure_iff (n : Nat) : satInc 255 n = 3 ∧ n ≠ 3 ↔ n = 2 := by
  unfold satInc
  split <;> omega

/-- The order rests, with PREEMPT_UNDELIVERED at its third failure; nothing else changes. -/
theorem State.orderRests_effect (p : Pos) (s : State) :
    (s.orderRests p).trunk = { s.trunk with orders := s.trunk.ordersAfterFailure p } ∧ (s.orderRests p).pos = s.pos ∧
      Raises (s.trunk.undelivered p) (fun _ => False) s (s.orderRests p) ∧ s.KeepsBand (s.orderRests p) ∧
      (s.orderRests p).pre = s.pre ∧ (s.orderRests p).kept = s.kept := by
  unfold State.orderRests Trunk.ordersAfterFailure Trunk.undelivered
  cases ho : s.trunk.orders.get p with
  | none => exact ⟨rfl, rfl, .refl s, .refl s, rfl, rfl⟩
  | some e =>
    dsimp only
    by_cases hs : e.sent = true
    · rw [if_pos hs, if_pos hs]
      generalize hs1 : s.setOrder p (some { e with fails := satInc 255 e.fails, resting := true, sent := false }) = s1
      have rests : s1.trunk = { s.trunk with
          orders := s.trunk.orders.set p.val
            (some { e with fails := if e.fails < 255 then e.fails + 1 else e.fails, resting := true, sent := false }) p.isLt } := by
        rw [← hs1]
        rfl
      have quiet : Raises [] (fun _ => False) s s1 := .of_faults_eq (by rw [← hs1]; rfl)
      have pos : s1.pos = s.pos := by rw [← hs1]; rfl
      have pre : s1.pre = s.pre := by rw [← hs1]; rfl
      have kept : s1.kept = s.kept := by rw [← hs1, State.kept_setOrder]
      have keeps : s.KeepsBand s1 := hs1 ▸ State.KeepsBand.setTrunk _ s
      by_cases h2 : e.fails = 2
      · rw [if_pos ((thirdFailure_iff e.fails).2 h2), if_pos (show e.sent = true ∧ e.fails = 2 from ⟨hs, h2⟩)]
        exact ⟨rests, pos, (quiet.trans (.fault _ s1) (State.clock_of_kept kept)).iff fun c => by simp,
          keeps.trans (.fault _ s1), pre, (State.kept_fault _ _).trans kept⟩
      · rw [if_neg fun hh => h2 ((thirdFailure_iff e.fails).1 hh),
          if_neg fun hh : e.sent = true ∧ e.fails = 2 => h2 hh.2]
        exact ⟨rests, pos, quiet, keeps, pre, kept⟩
    · rw [if_neg hs, if_neg hs, if_neg fun hh : e.sent = true ∧ e.fails = 2 => hs hh.1]
      exact ⟨rfl, rfl, .refl s, .refl s, rfl, rfl⟩

/-! ### The miss (R128) -/

/-- From `s` the attempt at `p` failed, and its miss is not yet counted in `w`: the record of `p` is `r`, the trunk `t`, the faults
offered `fs`. -/
structure Struck (p : Pos) (r : PosRec) (t : Trunk) (fs : List FaultInfo) (s w : State) : Prop where
  pos : w.pos = s.pos.set p.val r p.isLt
  misses : r.misses = (s.posRec p).misses
  health : r.health = (s.posRec p).health
  enrolment : r.enrolment = (s.posRec p).enrolment
  holders : r.owner = (s.posRec p).owner ∧ r.claims = (s.posRec p).claims
  trunk : w.trunk = t
  raises : Raises fs (fun _ => False) s w
  band : w.band = s.band
  pre : w.pre = s.pre
  ctl : w.ctl = s.ctl
  kept : w.kept = s.kept

/-- The count of a position after one more miss. -/
def PosRec.missCount (r : PosRec) : Nat := if r.misses < 5 then r.misses + 1 else r.misses

/-- Its health then. -/
def PosRec.missHealth (r : PosRec) : Health :=
  if r.missCount ≤ 1 then .online else if r.missCount ≤ 4 then .suspect else .lost

/-- The faults of the miss: JUNCTION_LOST at the change to LOST. -/
def PosRec.missFaults (p : Pos) (r : PosRec) : List FaultInfo :=
  if r.missHealth = .lost ∧ r.health ≠ .lost then [.junctionLost p] else []

/-- The miss changes the health from or to LOST. -/
def PosRec.missTurns (r : PosRec) : Prop :=
  r.missHealth = .lost ∧ r.health ≠ .lost ∨ r.missHealth = .online ∧ r.health = .lost

namespace Struck

variable {p : Pos} {r : PosRec} {t : Trunk} {fs : List FaultInfo} {s w : State}

theorem posRec (h : Struck p r t fs s w) (o : Pos) : w.posRec o = if p = o then r else s.posRec o :=
  (congrArg (fun v : Vector PosRec 24 => v.get o) h.pos).trans (get_set _ _ _ _)

theorem posRec_self (h : Struck p r t fs s w) : w.posRec p = r := (h.posRec p).trans (if_pos rfl)

theorem countMiss_eq (h : Struck p r t fs s w) : w.countMiss p = w.setMisses p (s.posRec p).missCount := by
  unfold State.countMiss
  rw [h.posRec_self, h.misses]
  rfl

theorem posRec_countMiss (h : Struck p r t fs s w) (o : Pos) : (w.countMiss p).posRec o =
    if p = o then { r with misses := (s.posRec p).missCount, health := (s.posRec p).missHealth } else s.posRec o := by
  rw [h.countMiss_eq, State.posRec_setMisses, h.posRec, h.posRec, if_pos rfl]
  split <;> rfl

/-- The miss is counted, and the health follows it. -/
theorem countMiss (h : Struck p r t fs s w) :
    Raises (fs ++ (s.posRec p).missFaults p) (fun c => c = .junction ∧ (s.posRec p).missTurns) s (w.countMiss p) ∧
      (w.countMiss p).pos = s.pos.set p.val
        { r with misses := (s.posRec p).missCount, health := (s.posRec p).missHealth } p.isLt ∧
      (w.countMiss p).trunk = t ∧ (w.countMiss p).band = s.band ∧ (w.countMiss p).pre = s.pre ∧
      (w.countMiss p).ctl = s.ctl ∧ (w.countMiss p).kept = s.kept := by
  have sameHealth : (w.posRec p).health = (s.posRec p).health := by rw [h.posRec_self, h.health]
  have faults : w.lostBy p (s.posRec p).missCount = (s.posRec p).missFaults p := by
    unfold State.lostBy
    rw [sameHealth]
    rfl
  have turns : w.turnsHealth p (s.posRec p).missCount ↔ (s.posRec p).missTurns := by
    unfold State.turnsHealth
    rw [sameHealth]
    rfl
  have missed := Raises.setMisses p (s.posRec p).missCount w
  rw [faults] at missed
  obtain ⟨trunk, pre, band, ctl⟩ := State.setMisses_frame p (s.posRec p).missCount w
  refine ⟨?_, State.pos_eq_set h.posRec_countMiss, ?_⟩
  · rw [h.countMiss_eq]
    exact (h.raises.trans missed (State.clock_of_kept h.kept)).iff fun c => by rw [turns, false_or]
  · rw [h.countMiss_eq]
    exact ⟨trunk.trans h.trunk, band.trans h.band, pre.trans h.pre, ctl.trans h.ctl, (State.kept_setMisses _ _ _).trans h.kept⟩

theorem isEnrolled (h : Struck p r t fs s w) : (w.countMiss p).isEnrolled p = (s.posRec p).enrolment.isEnrolled := by
  rw [State.isEnrolled, h.posRec_countMiss, if_pos rfl, ← h.enrolment]

theorem health_countMiss (h : Struck p r t fs s w) : ((w.countMiss p).posRec p).health = (s.posRec p).missHealth := by
  rw [h.posRec_countMiss, if_pos rfl]

/-- The miss of a STEP: a loss of an ENROLLED position is handed on as long as it is LOST (R129). -/
theorem missStep (h : Struck p r t fs s w) : w.missStep p =
    if (s.posRec p).enrolment.isEnrolled = true ∧ (s.posRec p).missHealth = .lost then (w.countMiss p).handLoss p
    else w.countMiss p := by
  unfold State.missStep
  dsimp only
  rw [h.isEnrolled, h.health_countMiss]

/-- The miss of an order: the loss of an ENROLLED position is handed on at its change to LOST (R129). -/
theorem missOrder (h : Struck p r t fs s w) : w.missOrder p =
    if (s.posRec p).enrolment.isEnrolled = true ∧ (s.posRec p).missHealth = .lost ∧ (s.posRec p).health ≠ .lost then
      (w.countMiss p).handLoss p
    else w.countMiss p := by
  unfold State.missOrder
  dsimp only
  rw [h.isEnrolled, h.health_countMiss, h.posRec_self, h.health]

end Struck

/-! ### The failed attempt before its miss -/

section
variable {s u : State} {x : Exchange} {c : Instr}

/-- A second STEP attempt. -/
theorem Fails.struckStep (h : Fails s x c u) :
    Struck x.pos ((s.posRec x.pos).afterStepFailure s.plan s.clock.cycleNo) { u.trunk with exchange := none } [] s
      (u.endExchange.stepFailure x.pos) := by
  obtain ⟨t, rfl, -⟩ := h.eq_setTrunk
  obtain ⟨enrolment, health, misses, holders⟩ := PosRec.afterStepFailure_frame s.plan s.clock.cycleNo (s.posRec x.pos)
  rw [State.stepFailure_eq]
  exact ⟨rfl, misses, health, enrolment, holders, rfl, .of_faults_eq rfl, rfl, rfl, rfl,
    (State.kept_setPosRec enrolment).trans ((State.kept_setTrunk _ _).trans (State.kept_setTrunk _ _))⟩

/-- An attempt of an order. -/
theorem Fails.struckOrder (h : Fails s x c u) :
    Struck x.pos (s.posRec x.pos) { u.trunk with exchange := none, orders := s.trunk.ordersAfterFailure x.pos }
      (s.trunk.undelivered x.pos) s (u.endExchange.orderRests x.pos) := by
  obtain ⟨t, rfl, ho⟩ := h.eq_setTrunk
  obtain ⟨trunk, pos, raises, keeps, pre, kept⟩ := (s.setTrunk t).endExchange.orderRests_effect x.pos
  have orders : (s.setTrunk t).endExchange.trunk.ordersAfterFailure x.pos = s.trunk.ordersAfterFailure x.pos := by
    unfold Trunk.ordersAfterFailure
    rw [show (s.setTrunk t).endExchange.trunk.orders = s.trunk.orders from ho]
  have undelivered : (s.setTrunk t).endExchange.trunk.undelivered x.pos = s.trunk.undelivered x.pos := by
    unfold Trunk.undelivered
    rw [show (s.setTrunk t).endExchange.trunk.orders = s.trunk.orders from ho]
  rw [orders] at trunk
  rw [undelivered] at raises
  refine ⟨?_, rfl, rfl, rfl, ⟨rfl, rfl⟩, trunk, raises.congr rfl rfl rfl, keeps.band, pre, keeps.ctl,
    kept.trans ((State.kept_setTrunk _ _).trans (State.kept_setTrunk _ _))⟩
  exact State.pos_eq_set fun o => by
    rw [State.posRec_of_pos pos o]
    split
    next e => rw [← e]; rfl
    · rfl

end

end Sys2Proof.Machine

end

section
/-! Settlement of O48: an attempt that fails, by its kind and by whether a second one follows. -/

namespace Sys2Proof.Machine

section
variable {s : State} {x : Exchange} {d : Nat}

/-- No second attempt follows: the exchange was cut, the master is DETACHED, or the position has no drop address (R123, R134). -/
def State.lastAttempt (s : State) (x : Exchange) : Prop :=
  x.cut = true ∨ s.ctl.master.isDetached = true ∨ (s.posRec x.pos).enrolment.drop = none

theorem State.noSecond_eq_false (h : ¬s.lastAttempt x) : s.noSecond x = false :=
  Bool.or_eq_false_iff.2 ⟨Bool.eq_false_iff.2 fun hc => h (.inl hc), Bool.eq_false_iff.2 fun hd => h (.inr (.inl hd))⟩

/-- With no second attempt to follow, the match that would send one takes its other branch. -/
theorem State.no_second_of_last (h : s.lastAttempt x) :
    ¬((s.posRec x.pos).enrolment.drop = some d ∧ s.noSecond x = false) := by
  rintro ⟨hd, hn⟩
  obtain ⟨cut, stays⟩ := Bool.or_eq_false_iff.1 hn
  rcases h with h | h | h
  · simp [h] at cut
  · simp [h] at stays
  · simp [h] at hd

theorem State.attemptFailed_probe_again (hk : x.kind = .probe) (hs : x.second = false) (hl : ¬s.lastAttempt x)
    (hd : (s.posRec x.pos).enrolment.drop = some d) : s.attemptFailed x = s.sendAttempt .probe x.pos d true [] := by
  unfold State.attemptFailed
  simp only [hk, hs, hd, State.noSecond_eq_false hl, Bool.false_eq_true, if_false]

theorem State.attemptFailed_probe_over (hk : x.kind = .probe) (h : x.second = true ∨ s.lastAttempt x) :
    s.attemptFailed x = s.endExchange.probeOver x.pos := by
  unfold State.attemptFailed
  simp only [hk]
  split
  · rfl
  next hs =>
    split
    next d hd hn => exact absurd ⟨hd, hn⟩ (State.no_second_of_last (h.resolve_left hs))
    · rfl

theorem State.attemptFailed_step_again (hk : x.kind = .step) (hs : x.second = false) (hl : ¬s.lastAttempt x)
    (hd : (s.posRec x.pos).enrolment.drop = some d) : s.attemptFailed x = s.sendStep x.pos d true := by
  unfold State.attemptFailed
  simp only [hk, hs, hd, State.noSecond_eq_false hl, Bool.false_eq_true, if_false]

theorem State.attemptFailed_step_over (hk : x.kind = .step) (hs : x.second = false) (hl : s.lastAttempt x) :
    s.attemptFailed x = s.endExchange.stepFailure x.pos := by
  unfold State.attemptFailed
  simp only [hk, hs, Bool.false_eq_true, if_false]
  split
  next d hd hn => exact absurd ⟨hd, hn⟩ (State.no_second_of_last hl)
  · rfl

theorem State.attemptFailed_step_second (hk : x.kind = .step) (hs : x.second = true) :
    s.attemptFailed x = (s.endExchange.stepFailure x.pos).missStep x.pos := by
  unfold State.attemptFailed
  simp only [hk, hs, if_true]

theorem State.attemptFailed_order (hk : x.kind = .preempt ∨ x.kind = .release) :
    s.attemptFailed x = s.endExchange.orderFailed x.pos := by
  unfold State.attemptFailed
  rcases hk with hk | hk <;> simp only [hk]

end

/-- The failed attempt of an order that is still in the table. -/
theorem Fails.attemptFailed_order {s u : State} {x : Exchange} {c : Instr} (h : Fails s x c u)
    (hk : x.kind = .preempt ∨ x.kind = .release) (ho : (s.trunk.orders.get x.pos).isSome = true) :
    u.attemptFailed x = (u.endExchange.orderRests x.pos).missOrder x.pos := by
  obtain ⟨t, rfl, orders⟩ := h.eq_setTrunk
  rw [State.attemptFailed_order hk]
  refine State.orderFailed_eq ?_
  show (t.orders.get x.pos).isSome = true
  rw [orders]
  exact ho

/-! ### O48 -/

/-- Settles O48: an attempt that fails, without a loss that is handed on. -/
theorem failedAttemptRule : Obligations.FailedAttemptRule := by
  unfold Obligations.FailedAttemptRule
  refine ⟨fun s hp hx => ⟨?_, fun a k b c hr => ?_, ?_⟩, ?_⟩
  · show powered State.windowExpires s = _
    rw [powered, if_pos hp, State.windowExpires, hx]
  · rw [exec_received hr, powered, if_pos hp, State.receiveFrame, hx]
  · show powered State.badCheck s = _
    rw [powered, if_pos hp, State.badCheck, hx]
    rfl
  · intro s x c u hp hx hf r last count health missed lost alerts handed
    have run := hf.exec hp hx
    refine ⟨fun d hk hs hl hd => ?_, fun hk h => ?_, fun d hk hs hl hd => ?_, fun hk hs hl => ?_, fun hk ho => ?_,
      fun hk ho hn => ?_, fun hk hs hn => ?_⟩
    · obtain ⟨t, rfl, -⟩ := hf.eq_setTrunk
      rw [run, State.attemptFailed_probe_again (s := s.setTrunk t) hk hs hl hd]
      rfl
    · obtain ⟨t, rfl, -⟩ := hf.eq_setTrunk
      rw [run, State.attemptFailed_probe_over (s := s.setTrunk t) hk h]
      rfl
    · obtain ⟨t, rfl, -⟩ := hf.eq_setTrunk
      rw [run, State.attemptFailed_step_again (s := s.setTrunk t) hk hs hl hd, State.sendStep_eq]
      rfl
    · obtain ⟨t, rfl, -⟩ := hf.eq_setTrunk
      rw [run, State.attemptFailed_step_over (s := s.setTrunk t) hk hs hl, State.stepFailure_eq]
      rfl
    · obtain ⟨t, rfl, orders⟩ := hf.eq_setTrunk
      have none : (s.setTrunk t).endExchange.trunk.orders.get x.pos = .none := by
        show t.orders.get x.pos = _
        rw [orders]
        exact ho
      rw [run, State.attemptFailed_order hk, State.orderFailed_none none]
      rfl
    · have struck := hf.struckOrder
      obtain ⟨raises, pos, trunk, band, pre, ctl, kept⟩ := struck.countMiss
      refine ⟨_, run.trans (congrArg _ ?_), trunk, pos, raises, band, pre, ctl, kept⟩
      rw [hf.attemptFailed_order hk ho, struck.missOrder]
      exact if_neg fun ⟨he, hl, hh⟩ => hn ⟨⟨he, hl⟩, hh⟩
    · have struck := hf.struckStep
      obtain ⟨raises, pos, trunk, band, pre, ctl, kept⟩ := struck.countMiss
      refine ⟨_, run.trans (congrArg _ ?_), trunk, pos, raises, band, pre, ctl, kept⟩
      rw [State.attemptFailed_step_second hk hs, struck.missStep]
      exact if_neg hn

end Sys2Proof.Machine

end

section
/-! Settlement of O49: a loss that is handed on, under each fault policy. -/

namespace Sys2Proof.Machine

/-! ### The loss exclusion (R10, R113, R151) -/

/-- The record of a position excluded by a loss. -/
def PosRec.lostAt (d : Nat) (r : PosRec) : PosRec :=
  { r with
    enrolment := .excluded d .lost, available := false, target := none, running := none, travel := none, seek := .idle
    correction := 0, owner := none, claims := [] }

theorem PosRec.excludedAs_disowned (h : Header) (d : Nat) (r : PosRec) :
    (r.excludedAs h (.excluded d .lost)).disowned h = r.lostAt d := by
  have left : r.excludedAs h (.excluded d .lost) = { r with
      enrolment := .excluded d .lost, available := false, target := none, running := none, travel := none
      seek := if r.owner.isSome then .suspended .idle else .idle, correction := 0 } := by
    rw [PosRec.excludedAs, PosRec.recorrect, PosRec.roundCorrection_of_travel rfl]
    rfl
  rw [left]
  unfold PosRec.disowned
  cases ho : r.owner with
  | none => simp only [Option.isSome_none, Bool.false_eq_true, if_false, PosRec.lostAt]
  | some v =>
    simp only [Option.isSome_some, if_true]
    rw [PosRec.recorrect, PosRec.roundCorrection_of_travel rfl]
    rfl

section
variable {s t : State} {p : Pos} {d : Nat}

theorem State.posRec_loses_eq (s : State) (p o : Pos) (d : Nat) :
    (s.loses p d).posRec o = if p = o then (s.posRec p).lostAt d else s.posRec o := by
  rw [State.posRec_loses, PosRec.excludedAs_disowned]

theorem State.dropOwner_tells (p : Pos) (s : State) (he : (s.posRec p).enrolment.isEnrolled = false) :
    Raises [] (fun _ => False) s (s.dropOwner p) ∧ s.SameBlocks (s.dropOwner p) := by
  unfold State.dropOwner
  dsimp only
  split
  · refine ⟨Raises.putSeek_quiet (.refl s) rfl fun hk => ?_, State.putSeek_frame p _ s⟩
    rw [PosRec.dropped, if_neg (by simp [he])] at hk
    cases hk
  · exact ⟨.of_faults_eq rfl, rfl, rfl, rfl, rfl⟩

/-- A loss exclusion raises nothing itself, and of the trunk changes the order of the position alone. -/
theorem State.loses_tells (p : Pos) (d : Nat) (s : State) :
    Raises [] (fun _ => False) s (s.loses p d) ∧ (s.setOrder p none).SameBlocks (s.loses p d) := by
  obtain ⟨quiet, same, clock⟩ := State.bumped_quiet p none (.excluded d .lost) s
  have enrolment : ((s.putEnrolment none p (.excluded d .lost)).bumpMembership.posRec p).enrolment = .excluded d .lost := by
    rw [State.posRec_bumpMembership, State.posRec_putEnrolment, if_pos rfl]
  unfold State.loses
  generalize (s.putEnrolment none p (.excluded d .lost)).bumpMembership = t at quiet same clock enrolment
  obtain ⟨w, hw⟩ : ∃ w, (t.setAvailable p false).setOrder p none = w := ⟨_, rfl⟩
  rw [show t.enrolmentEvent p .loses = (w.putSeek p (w.posRec p).leaves).dropOwner p by rw [← hw]; rfl]
  have quiet' : Raises [] (fun _ => False) s w := quiet.quiet (by rw [← hw]; rfl)
  have clock' : w.clock = s.clock := by rw [← hw]; exact clock
  have cut : (s.setOrder p none).SameBlocks w := by
    obtain ⟨trunk, pre, band, ctl⟩ := same
    rw [← hw]
    refine ⟨?_, pre, band, ctl⟩
    show { t.trunk with orders := t.trunk.orders.set p.val none p.isLt } = _
    rw [trunk]
    rfl
  have gone : (w.posRec p).enrolment = .excluded d .lost := by
    rw [← hw, State.posRec_setOrder, State.posRec_setAvailable, if_pos rfl]
    exact enrolment
  have left := Raises.putSeek_quiet (p := p) (r := (w.posRec p).leaves) quiet' clock' fun h => absurd h (PosRec.seek_leaves_ne _).1
  have out : (((w.putSeek p (w.posRec p).leaves).posRec p).enrolment).isEnrolled = false := by
    rw [State.posRec_putSeek, if_pos rfl]
    show ((w.posRec p).enrolment).isEnrolled = false
    rw [gone]
    rfl
  obtain ⟨dropped, dropFrame⟩ := State.dropOwner_tells p (w.putSeek p (w.posRec p).leaves) out
  exact ⟨(left.trans dropped ((State.putSeek_clock p _ w).trans clock')).iff fun _ => iff_of_eq (false_or _),
    (cut.trans (State.putSeek_frame p _ w)).trans dropFrame⟩

/-- A filter that loses one element it had is one shorter. -/
theorem length_filter_of_loses {α : Type} {f g : α → Bool} {l : List α} (hl : l.Nodup) {a : α} (ha : a ∈ l) (hf : f a = true)
    (hg : g a = false) (h : ∀ b, b ≠ a → g b = f b) : (l.filter f).length = (l.filter g).length + 1 := by
  induction l with
  | nil => cases ha
  | cons b l ih =>
    obtain ⟨hb, hl⟩ := List.nodup_cons.mp hl
    rcases List.mem_cons.1 ha with rfl | hin
    · have rest : l.filter g = l.filter f := List.filter_congr fun c hc => h c fun e => hb (e ▸ hc)
      simp [hf, hg, rest]
    · have hne : b ≠ a := fun e => hb (e ▸ hin)
      simp only [List.filter_cons, h b hne]
      split
      · simpa using ih hl hin
      · exact ih hl hin

theorem State.enrolledCount_loses (he : s.isEnrolled p = true) : s.enrolledCount = (s.loses p d).enrolledCount + 1 := by
  refine length_filter_of_loses allPos_nodup (mem_allPos p) he ?_ fun o ho => ?_
  · rw [State.isEnrolled, State.posRec_loses_eq, if_pos rfl]
    rfl
  · rw [State.isEnrolled, State.isEnrolled, State.posRec_loses_eq, if_neg (Ne.symm ho)]

theorem State.Ranked.loses (hs : s.Ranked) : (s.loses p d).Ranked := by
  obtain ⟨-, -, pre, -, -⟩ := State.loses_tells p d s
  intro o
  rw [State.posRec_loses_eq, pre]
  split
  · exact .of_none rfl rfl
  · exact hs o

/-! ### The master after a loss (R162) -/

/-- FALLBACK and DETACHED: a loss changes nothing of the master. -/
def Master.isOut (m : Master) : Prop := m = .fallback ∨ m.isDetached = true

theorem State.fallbackUnlessOut_out (h : s.ctl.master.isOut) (c : FallbackCause) : s.fallbackUnlessOut c = s := by
  unfold State.fallbackUnlessOut
  rcases h with h | h
  · rw [h]
  · cases hm : s.ctl.master <;> simp [hm, Master.isDetached] at h ⊢

theorem State.fallbackUnlessOut_in (h : ¬s.ctl.master.isOut) (c : FallbackCause) : s.fallbackUnlessOut c = s.enterFallback c := by
  unfold State.fallbackUnlessOut
  cases hm : s.ctl.master with
  | fallback => exact absurd (.inl hm) h
  | detached r => exact absurd (.inr (by rw [hm]; rfl)) h
  | idle => rfl
  | coordinating => rfl
  | hold => rfl

theorem State.Ranked.enterFallback (hs : s.Ranked) (h : ¬s.ctl.master.isOut) (c : FallbackCause) :
    FallsTo .fallback [.fallbackEntered c] s (s.enterFallback c) := by
  refine FallsTo.fault (hs.fallsTo ?_) _
  cases hm : s.ctl.master with
  | fallback => exact absurd (.inl hm) h
  | detached r => exact absurd (.inr (by rw [hm]; rfl)) h
  | idle => exact .inr ⟨rfl, rfl⟩
  | coordinating => exact .inl ⟨.inl rfl, .inr rfl⟩
  | hold => exact .inl ⟨.inr rfl, .inr rfl⟩

theorem State.lossExclude_eq (he : (s.posRec p).enrolment = .enrolled d) : s.lossExclude p = (s.loses p d).reportCount.trigger := by
  unfold State.lossExclude
  rw [he]
  rfl

theorem MasterAlerts.congr {s' t' : State} {old : Master} (hp : s'.pos = s.pos) (hpre : s'.pre = s.pre) (ht : t'.pos = t.pos)
    (c : AlertClass) : MasterAlerts old s' t' c ↔ MasterAlerts old s t c := by
  have enters : EntersStep s' t' ↔ EntersStep s t :=
    EntersStep.congr (fun o => congrArg PosRec.seek (State.posRec_of_pos hp o)) fun o =>
      congrArg PosRec.seek (State.posRec_of_pos ht o)
  simp only [MasterAlerts, State.endsBy, hpre, enters]

end

/-! ### What a loss exclusion keeps, and the two ways of the master -/

section
variable {s : State} {p : Pos} {d : Nat}

/-- What the store and the chain hold after a loss exclusion (R10, R11, R16). -/
theorem State.kept_loses (s : State) (p : Pos) (d : Nat) : (s.loses p d).kept =
    { s.kept with
      memGen := s.kept.memGen + 1
      store := { s.kept.store with chain := s.kept.store.chain.set p.val (.excluded d .lost) p.isLt }
      unfinished := some { before := s.kept.store, port := none }
      chain := (s.loses p d).kept.chain } :=
  State.kept_stored (State.kept_bumped none p (.excluded d .lost) .loses s) rfl

theorem State.reportCount_rests (h : s.ctl.master.isOut ∨ 2 ≤ s.enrolledCount) : s.reportCount = s := by
  unfold State.reportCount
  split
  next few => exact State.fallbackUnlessOut_out (h.resolve_right (by omega)) .membership
  · rfl

theorem State.reportCount_falls (h : ¬s.ctl.master.isOut) (few : s.enrolledCount < 2) :
    s.reportCount = s.enterFallback .membership := (if_pos few).trans (State.fallbackUnlessOut_in h .membership)

end

/-! ### O49 -/

/-- The miss changes no owner and no pending cause. -/
theorem Struck.sameHolders {p : Pos} {r : PosRec} {t : Trunk} {fs : List FaultInfo} {s w : State} (h : Struck p r t fs s w) (o : Pos) :
    (s.posRec o).SameHolders ((w.countMiss p).posRec o) := by
  rw [h.posRec_countMiss]
  split
  next e => exact e ▸ h.holders
  · exact ⟨rfl, rfl⟩

/-- A state with the positions of `t`, beside it in nothing that is kept, keeps what `t` keeps. -/
theorem State.kept_beside {s t u : State} {P : Vector PosRec 24} {T : Trunk} (ht : t.kept = s.kept) (hu : u.kept = s.kept)
    (pos : t.pos = P) : t.kept = State.kept { u with pos := P, trunk := T } := by
  subst pos
  have chain : (State.kept { u with pos := t.pos, trunk := T }) = { u.kept with chain := t.kept.chain } := rfl
  rw [chain, hu, ht]

theorem State.handLoss_strict {s : State} {p : Pos} (h : s.ctl.policy = .strict) :
    s.handLoss p = s.fallbackUnlessOut (.lost p) := by
  unfold State.handLoss
  rw [h]

theorem State.handLoss_tolerant {s : State} {p : Pos} (h : s.ctl.policy = .tolerant) : s.handLoss p = s.lossExclude p := by
  unfold State.handLoss
  rw [h]

section
variable {s : State} {p : Pos} {r : PosRec}

theorem PosRec.missCount_last (h : r.misses = 4 ∨ r.misses = 5) : r.missCount = 5 := by
  unfold PosRec.missCount
  split <;> omega

theorem PosRec.missHealth_last (h : r.misses = 4 ∨ r.misses = 5) : r.missHealth = .lost := by
  unfold PosRec.missHealth
  rw [PosRec.missCount_last h]
  rfl

/-- The miss that hands a loss on: the fifth in a row, or another one of a LOST position. -/
theorem PosRec.missFaults_last (h : r.misses = 4 ∧ r.health ≠ .lost ∨ r.misses = 5 ∧ r.health = .lost) :
    r.missFaults p = (if r.misses = 4 then [FaultInfo.junctionLost p] else []) ∧ (r.missTurns ↔ r.misses = 4) := by
  have last : r.misses = 4 ∨ r.misses = 5 := h.imp (·.1) (·.1)
  unfold PosRec.missFaults PosRec.missTurns
  rw [PosRec.missHealth_last last]
  rcases h with ⟨hm, hh⟩ | ⟨hm, hh⟩ <;> simp [hm, hh]

end

/-- Settles O49: the miss of the failed attempt, the loss handed on by it, and under STRICT policy the fall of the master, under TOLERANT
policy the exclusion with the fall that follows when fewer than two positions stay ENROLLED. -/
theorem lossIsHandedOn : Obligations.LossIsHandedOn := by
  unfold Obligations.LossIsHandedOn
  intro s x c u d hp hx hf he hc r step hcase hcount failed orders faults alerts out kept excluded
  have ranked : s.Ranked := (causeLaw_iff.1 hc).1
  have enrolled : r.enrolment.isEnrolled = true := by
    show (s.posRec x.pos).enrolment.isEnrolled = true
    rw [he]
    rfl
  have last : r.misses = 4 ∧ r.health ≠ .lost ∨ r.misses = 5 ∧ r.health = .lost := hcount.imp_right (·.2)
  have count := PosRec.missCount_last (last.imp (·.1) (·.1))
  have lost := PosRec.missHealth_last (last.imp (·.1) (·.1))
  obtain ⟨told, turns⟩ := PosRec.missFaults_last (p := x.pos) last
  obtain ⟨M, run, raises, pos, trunk, band, pre, ctl, keptM, holders⟩ : ∃ M : State, exec c s = .next (M.handLoss x.pos) ∧
      Raises faults alerts s M ∧ M.pos = kept.pos ∧ M.trunk = kept.trunk ∧ M.band = s.band ∧ M.pre = s.pre ∧ M.ctl = s.ctl ∧
      M.kept = s.kept ∧ ∀ o, (s.posRec o).SameHolders (M.posRec o) := by
    by_cases hk : step
    · have struck := hf.struckStep
      obtain ⟨raises, pos, trunk, band, pre, ctl, kept'⟩ := struck.countMiss
      rw [told] at raises
      rw [count, lost] at pos
      refine ⟨_, (hf.exec hp hx).trans (congrArg _ ?_), ?_, ?_, ?_, band, pre, ctl, kept', struck.sameHolders⟩
      · rw [State.attemptFailed_step_second hk (by simpa only [if_pos hk] using hcase), struck.missStep]
        exact if_pos ⟨enrolled, lost⟩
      · simp only [faults, if_pos hk]
        exact raises.iff fun c => by rw [turns]
      · simp only [kept, failed, if_pos hk]
        exact pos
      · obtain ⟨t, rfl, ho⟩ := hf.eq_setTrunk
        simp only [kept, orders, if_pos hk, ← ho]
        exact trunk
    · have struck := hf.struckOrder
      obtain ⟨ho, hn⟩ : (s.trunk.orders.get x.pos).isSome = true ∧ x.kind ≠ .probe := by simpa only [if_neg hk] using hcase
      have kind : x.kind = .preempt ∨ x.kind = .release := by
        cases e : x.kind with
        | step => exact absurd e hk
        | preempt => exact .inl rfl
        | release => exact .inr rfl
        | probe => exact absurd e hn
      obtain ⟨raises, pos, trunk, band, pre, ctl, kept'⟩ := struck.countMiss
      rw [told] at raises
      rw [count, lost] at pos
      refine ⟨_, (hf.exec hp hx).trans (congrArg _ ?_), ?_, ?_, ?_, band, pre, ctl, kept', struck.sameHolders⟩
      · rw [hf.attemptFailed_order kind ho, struck.missOrder]
        exact if_pos ⟨enrolled, lost, (hcount.resolve_right fun h => hk h.1).2⟩
      · simp only [faults, if_neg hk]
        exact raises.iff fun c => by rw [turns]
      · simp only [kept, failed, if_neg hk]
        exact pos
      · simp only [kept, orders, if_neg hk]
        exact trunk
  have rankedM : M.Ranked := ranked.of_records holders (by rw [pre]) (by rw [pre])
  have enrolment : (M.posRec x.pos).enrolment = .enrolled d := (State.enrolment_of_kept keptM x.pos).trans he
  obtain ⟨t, hu, -⟩ := hf.eq_setTrunk
  have keptKept : M.kept = kept.kept := State.kept_beside (u := u) keptM (by rw [hu, State.kept_setTrunk]) pos
  obtain ⟨E, excludes, eraises, epos, etrunk, eband, epre, ectl, ekept, eranked, ecount⟩ : ∃ E : State,
      (s.ctl.policy = .tolerant → M.handLoss x.pos = E.reportCount.trigger) ∧ Raises faults alerts s E ∧ E.pos = excluded.pos ∧
      E.trunk = excluded.trunk ∧ E.band = s.band ∧ E.pre = s.pre ∧ E.ctl = s.ctl ∧ E.kept = excluded.kept ∧ E.Ranked ∧
      s.enrolledCount = E.enrolledCount + 1 := by
    obtain ⟨quiet, ltrunk, lpre, lband, lctl⟩ := State.loses_tells x.pos d M
    have epos : (M.loses x.pos d).pos = excluded.pos := State.pos_eq_set fun o => by
      rw [State.posRec_loses_eq, State.posRec_of_pos (t := M) (s := kept) pos, State.posRec_of_pos (t := M) (s := kept) pos]
      have record (o : Pos) : kept.posRec o = if x.pos = o then { failed with misses := 5, health := .lost } else s.posRec o :=
        get_set _ _ _ _
      rw [record, record, if_pos rfl]
      split <;> rfl
    refine ⟨M.loses x.pos d, fun ht => ?_, ?_, epos, ltrunk.trans ?_, lband.trans band, lpre.trans pre, lctl.trans ctl, ?_,
      rankedM.loses, ?_⟩
    · rw [State.handLoss_tolerant (by rw [ctl]; exact ht), State.lossExclude_eq enrolment]
    · have both := raises.trans quiet (State.clock_of_kept keptM)
      rw [List.append_nil] at both
      exact both.iff fun c => by rw [or_false]
    · show { M.trunk with orders := M.trunk.orders.set x.pos.val none x.pos.isLt } = _
      rw [trunk]
    · have chain : excluded.kept = { u.kept with
          memGen := s.memGen + 1
          store := { s.store with chain := s.store.chain.set x.pos.val (.excluded d .lost) x.pos.isLt }
          unfinished := some { before := s.store, port := none }
          chain := excluded.kept.chain } := rfl
      have same : excluded.kept.chain = (M.loses x.pos d).kept.chain := by
        rw [State.kept_chain, State.kept_chain]
        simp only [State.posRec_of_pos epos]
      rw [chain, same, State.kept_loses, keptM, hu, State.kept_setTrunk]
      rfl
    · rw [← State.enrolledCount_of_kept keptM]
      exact State.enrolledCount_loses (by rw [State.isEnrolled, enrolment]; rfl)
  have eclock : E.clock = s.clock := by
    have kept' : E.clock = u.clock := congrArg Kept.clock ekept
    rw [kept', hu]
    rfl
  refine ⟨_, run, fun hs ho => ?_, fun hs ho => ?_, fun ht ho => ?_, fun ht ho few => ?_⟩
  · have out' : M.ctl.master.isOut := by rw [ctl]; exact ho
    rw [State.handLoss_strict (by rw [ctl]; exact hs), State.fallbackUnlessOut_out out']
    exact ⟨pos, trunk, band, pre, ctl, keptKept, raises⟩
  · have within : ¬M.ctl.master.isOut := by rw [ctl]; exact ho
    have fall := rankedM.enterFallback within (.lost x.pos)
    rw [State.handLoss_strict (by rw [ctl]; exact hs), State.fallbackUnlessOut_in within]
    generalize M.enterFallback (.lost x.pos) = t at fall
    obtain ⟨fctl, positions, fband, raised, ftrunk, fkept⟩ := fall
    rw [ctl] at fctl positions fband raised
    rw [band] at fband
    rw [trunk] at ftrunk
    have keptPre : M.pre = kept.pre := pre.trans (by rw [show kept.pre = u.pre from rfl, hu]; rfl)
    refine ⟨positions.congr pos (congrArg Trunk.orders trunk) keptPre rfl rfl rfl, fctl, fkept.trans keptKept, ftrunk, fband,
      (raises.trans raised (State.clock_of_kept keptM)).iff fun c => ?_⟩
    rw [MasterAlerts.congr pos keptPre rfl]
  · have rests : E.ctl.master.isOut ∨ 2 ≤ E.enrolledCount := by
      rw [ectl]
      exact ho.imp_right fun h => by omega
    rw [excludes ht, State.reportCount_rests rests]
    exact ⟨(State.trigger_pos E).trans epos, (State.trigger_trunk E).trans etrunk, (State.trigger_pre E).trans epre,
      (State.trigger_ctl E).trans ectl, (State.kept_trigger E).trans ekept,
      State.trigger_triggered (by rw [ectl]) eband eclock eraises⟩
  · have within : ¬E.ctl.master.isOut := by rw [ectl]; exact ho
    have fall := eranked.enterFallback within .membership
    rw [excludes ht, State.reportCount_falls within (by omega)]
    generalize E.enterFallback .membership = t at fall
    obtain ⟨fctl, positions, fband, raised, ftrunk, fkept⟩ := fall
    rw [ectl] at fctl positions fband raised
    rw [eband] at fband
    rw [etrunk] at ftrunk
    have busy : ¬t.MayStart := fun h => by
      have := h.1
      rw [fctl] at this
      cases this
    have exPre : E.pre = excluded.pre := epre.trans (by rw [show excluded.pre = u.pre from rfl, hu]; rfl)
    rw [State.trigger_of_busy busy]
    refine ⟨positions.congr epos (congrArg Trunk.orders etrunk) exPre rfl rfl rfl, fctl, (State.kept_setBand _ _).trans (fkept.trans ekept),
      ftrunk, ?_, ((eraises.trans raised eclock).quiet (u := t.setBand { t.band with recompute := true }) rfl).iff
        fun c => ?_⟩
    · show { t.band with recompute := true } = _
      rw [fband]
    · rw [MasterAlerts.congr epos exPre rfl]
      exact or_congr_right (MasterAlerts.congr rfl rfl rfl c)

end Sys2Proof.Machine

end

section
/-! Settlement of O43: the completion of a computation. -/

namespace Sys2Proof.Machine

/-! ### Seeks written for distinct positions -/

/-- Of seeks written one after another for distinct positions, each finds the record of its position as it was. -/
theorem State.posRec_foldl_putSeek {α : Type} {key : α → Pos} (g : Header → PosRec → α → PosRec) {l : List α} (hl : (l.map key).Nodup)
    {a : α} (ha : a ∈ l) (s : State) :
    (l.foldl (fun s a => s.putSeek (key a) (g s.plan (s.posRec (key a)) a)) s).posRec (key a) =
      (g s.plan (s.posRec (key a)) a).recorrect s.plan := by
  have apart : ∀ (s : State) (b : α) (o : Pos), key b ≠ o →
      (s.putSeek (key b) (g s.plan (s.posRec (key b)) b)).posRec o = s.posRec o := fun s b o hb => by
    rw [State.posRec_putSeek, if_neg hb]
  induction l generalizing s with
  | nil => cases ha
  | cons b l ih =>
    rw [List.map_cons, List.nodup_cons] at hl
    rw [List.foldl_cons]
    rcases List.mem_cons.1 ha with rfl | hin
    · rw [State.posRec_foldl_of_notMem (key := key) apart hl.1, State.posRec_putSeek, if_pos rfl]
    · have hne : key b ≠ key a := fun e => hl.1 (e ▸ List.mem_map_of_mem hin)
      rw [ih hl.2 hin, apart s b _ hne, State.plan_putSeek]

/-! ### The target events (R90, R100) -/

/-- The seek a target event leaves of a record. -/
def PosRec.aimed (h : Header) (r : PosRec) (e : BandEntry) : PosRec := ({ r with target := some e.target } : PosRec).reevaluate h

theorem State.targetEvents_eq (l : List BandEntry) (s : State) :
    s.targetEvents l = l.foldl (fun s e => s.putSeek e.pos ((s.posRec e.pos).aimed s.plan e)) s := rfl

theorem PosRec.aimed_recorrect (h : Header) (r : PosRec) (e : BandEntry) : ∃ k w, (r.aimed h e).recorrect h =
      { r with target := some e.target, seek := k, travel := w, correction := ((r.aimed h e).recorrect h).owed h } ∧
    (r.seek.isActive = true → w = ((r.aimed h e).recorrect h).seekTravel h ∧
      k = if r.running = some e.target then .inStep else .seeking) ∧
    (r.seek.isActive = false → k = r.seek ∧ w = r.travel) := by
  have owed : ((r.aimed h e).recorrect h).owed h = (r.aimed h e).owed h := PosRec.owed_congr _ rfl rfl rfl
  have travel : ((r.aimed h e).recorrect h).seekTravel h = (r.aimed h e).seekTravel h := rfl
  rw [owed, travel, PosRec.recorrect, PosRec.roundCorrection_eq_owed]
  cases hk : r.seek.isActive with
  | true =>
    have aimed : r.aimed h e = { r with
        target := some e.target, seek := if r.running = some e.target then .inStep else .seeking
        travel := ({ r with target := some e.target } : PosRec).seekTravel h } := by
      refine (PosRec.reevaluate_of_active (r := { r with target := some e.target }) hk).trans ?_
      rw [PosRec.evaluate_eq]
      simp only [Option.isSome_some, true_and, eq_comm (a := some e.target)]
    exact ⟨_, _, by rw [aimed], fun _ => ⟨by rw [aimed]; rfl, rfl⟩, nofun⟩
  | false =>
    have aimed : r.aimed h e = { r with target := some e.target } := PosRec.reevaluate_of_not_active hk
    exact ⟨_, _, by rw [aimed], nofun, fun _ => ⟨rfl, rfl⟩⟩

section
variable {s : State} {x : Computation}

theorem Computation.entries_nodup (hs : x.snap.positions.Pairwise fun a b => a.pos < b.pos) :
    (x.record.entries.map (·.pos)).Nodup := by
  rw [x.record_positions]
  exact List.pairwise_map.2 (hs.imp fun h => ne_of_lt h)

theorem State.targetEvents_frame (l : List BandEntry) (s : State) : s.SameBlocks (s.targetEvents l) := by
  have keeps : s.KeepsBand (s.targetEvents l) :=
    State.KeepsBand.foldl (f := fun s (e : BandEntry) => s.putSeek e.pos ((s.posRec e.pos).aimed s.plan e))
      (fun s _ => .putSeek _ _ s) l s
  exact ⟨foldl_keeps State.trunk _ (fun s _ => s.putSeek_trunk _ _) l s, foldl_keeps State.pre _ (fun s _ => s.putSeek_pre _ _) l s,
    keeps.band, keeps.ctl⟩

/-! ### The outcome (R88 to R90) -/

/-- The outcome of `x` in the words of the statement. -/
theorem State.judge_eq (s : State) (x : Computation) : s.judge x =
    if ¬(s.plans.active = x.snap.slot ∧ s.planTag.gen = x.snap.gen) then .stale .plan
    else if s.meas.dir ≠ x.snap.dir then .stale .direction
    else if s.memGen ≠ x.snap.memGen then .stale .membership
    else if ¬(s.ctl.master = .coordinating ∧ x.interrupted = false) then .stale .master
    else if x.snap.policy = .strict ∧ x.poisoned ≠ [] then .refused
    else .accepted := by
  have plan : s.planTag ≠ { slot := x.snap.slot, gen := x.snap.gen } ↔
      ¬(s.plans.active = x.snap.slot ∧ s.planTag.gen = x.snap.gen) := by
    simp [State.planTag]
  have master : s.ctl.master ≠ .coordinating ∨ x.interrupted = true ↔
      ¬(s.ctl.master = .coordinating ∧ x.interrupted = false) := by
    rw [not_and_or, Bool.not_eq_false]
  unfold State.judge
  simp only [plan, master]

/-- BAND_REFUSED for the first poisoned member, when the outcome is REFUSED (R89). -/
def Verdict.refusedFaults (v : Verdict) (x : Computation) : List FaultInfo :=
  match v, x.poisoned with
  | .refused, m :: _ => [.bandRefused m.1 m.2]
  | _, _ => []

/-- What a completion writes of the Band Computer's own state before the recompute-pending flag is read. -/
def State.bandConcluded (s : State) (v : Verdict) (x : Computation) : Band :=
  { s.band with
    inFlight := none, outcome := some { verdict := v, number := x.number }
    last := if v = .accepted then some x.record else s.band.last
    staleCount := match v with
      | .stale _ => if s.band.staleCount < 65535 then s.band.staleCount + 1 else s.band.staleCount
      | _ => s.band.staleCount }

/-- A completion with outcome `v`: the Band Computer, the positions, what is raised. -/
structure Concludes (v : Verdict) (x : Computation) (s w : State) : Prop where
  band : w.band = s.bandConcluded v x
  kept : w.kept = s.kept
  blocks : w.trunk = s.trunk ∧ w.pre = s.pre ∧ w.ctl = s.ctl
  raises : Raises (v.refusedFaults x) (fun c => v = .accepted ∧ (c = .band ∨ c = .seek ∧ EntersStep s w)) s w
  still : v ≠ .accepted → w.pos = s.pos
  apart : v = .accepted → ∀ o, (∀ e, e ∈ x.record.entries → e.pos ≠ o) → w.posRec o = s.posRec o
  aimed : v = .accepted → ∀ e, e ∈ x.record.entries → w.posRec e.pos = ((s.posRec e.pos).aimed s.plan e).recorrect s.plan

theorem Raises.nothing {s t : State} {P : AlertClass → Prop} (hf : t.faults = s.faults) (hP : ∀ c, ¬P c) : Raises [] P s t :=
  (Raises.of_faults_eq hf).iff fun c => iff_of_false id (hP c)

theorem Concludes.of_stale (k : StaleCause) (x : Computation) (s : State) : Concludes (.stale k) x s (s.concludeAs (.stale k) x) where
  band := rfl
  kept := State.kept_setBand _ _
  blocks := ⟨rfl, rfl, rfl⟩
  raises := Raises.nothing rfl fun _ h => nomatch h.1
  still _ := rfl
  apart := nofun
  aimed := nofun

theorem Concludes.of_refused (x : Computation) (s : State) : Concludes .refused x s (s.concludeAs .refused x) := by
  unfold State.concludeAs
  dsimp only
  cases hp : x.poisoned with
  | nil =>
    refine ⟨rfl, State.kept_setBand _ _, ⟨rfl, rfl, rfl⟩, ?_, fun _ => rfl, nofun, nofun⟩
    have none : Verdict.refused.refusedFaults x = [] := by simp only [Verdict.refusedFaults, hp]
    rw [none]
    exact Raises.nothing rfl fun _ h => nomatch h.1
  | cons m rest =>
    refine ⟨rfl, (State.kept_fault _ _).trans (State.kept_setBand _ _), ⟨rfl, rfl, rfl⟩, ?_, fun _ => rfl, nofun, nofun⟩
    have one : Verdict.refused.refusedFaults x = [.bandRefused m.1 m.2] := by simp only [Verdict.refusedFaults, hp]
    rw [one]
    have offered := Raises.fault (.bandRefused m.1 m.2) (s.setBand { s.band with
      inFlight := none, outcome := some { verdict := .refused, number := x.number } })
    exact (offered.congr (s' := s) rfl rfl rfl).iff fun c => iff_of_false id fun h => nomatch h.1

theorem Concludes.of_accepted (hs : x.snap.positions.Pairwise fun a b => a.pos < b.pos) (s : State) :
    Concludes .accepted x s (s.concludeAs .accepted x) := by
  show Concludes .accepted x s (((s.setBand (s.bandConcluded .accepted x)).targetEvents x.record.entries).alert .band)
  generalize hu : s.setBand (s.bandConcluded .accepted x) = u
  have distinct := Computation.entries_nodup hs
  have plan : u.plan = s.plan := by rw [← hu]; rfl
  have records (o : Pos) : u.posRec o = s.posRec o := by rw [← hu]; rfl
  obtain ⟨trunk, pre, band, ctl⟩ := State.targetEvents_frame x.record.entries u
  have kept : (u.targetEvents x.record.entries).kept = s.kept := by rw [State.kept_targetEvents, ← hu, State.kept_setBand]
  have raised := Raises.putSeeks (key := BandEntry.pos) (fun s e => (s.posRec e.pos).aimed s.plan e) distinct u
  rw [← State.targetEvents_eq] at raised
  have both := (raised.trans (.alert .band _) (State.clock_of_kept (by rw [kept, ← hu, State.kept_setBand]))).congr (s' := s)
    (t' := (u.targetEvents x.record.entries).alert .band) (by rw [← hu]; rfl) (by rw [← hu]; rfl) rfl
  refine ⟨band.trans (by rw [← hu]; rfl), (State.kept_alert _ _).trans kept,
    ⟨trunk.trans (by rw [← hu]; rfl), pre.trans (by rw [← hu]; rfl), ctl.trans (by rw [← hu]; rfl)⟩, both.iff fun c => ?_,
    fun h => absurd rfl h, fun _ o ho => ?_, fun _ e he => ?_⟩
  · have enters : EntersStep u (u.targetEvents x.record.entries) ↔ EntersStep s ((u.targetEvents x.record.entries).alert .band) :=
      EntersStep.congr (fun o => congrArg PosRec.seek (records o)) fun _ => rfl
    rw [enters, or_comm]
    exact (and_iff_right rfl).symm
  · rw [State.posRec_alert, State.targetEvents_eq, ← records o]
    refine State.posRec_foldl_of_notMem (key := BandEntry.pos) (fun s a q hq => ?_) (fun hm => ?_) u
    · rw [State.posRec_putSeek, if_neg hq]
    · obtain ⟨e, he, hp⟩ := List.mem_map.1 hm
      exact ho e he hp
  · rw [State.posRec_alert, State.targetEvents_eq,
      State.posRec_foldl_putSeek (key := BandEntry.pos) PosRec.aimed distinct he u, records, plan]

theorem State.concludes (v : Verdict) (hs : x.snap.positions.Pairwise fun a b => a.pos < b.pos) (s : State) :
    Concludes v x s (s.concludeAs v x) := by
  cases v with
  | accepted => exact .of_accepted hs s
  | refused => exact .of_refused x s
  | stale k => exact .of_stale k x s

end

/-! ### The recompute-pending flag (R91), and O43 -/

section
variable {s t w : State} {x : Computation} {v : Verdict}

/-- A state with the positions of `w` beside it concludes as `w` does. -/
theorem Concludes.alerts_iff (h : t.pos = w.pos) (c : AlertClass) :
    v = .accepted ∧ (c = .band ∨ c = .seek ∧ EntersStep s w) ↔ v = .accepted ∧ (c = .band ∨ c = .seek ∧ EntersStep s t) := by
  have enters : EntersStep s w ↔ EntersStep s t :=
    EntersStep.congr (fun _ => rfl) fun o => congrArg PosRec.seek (State.posRec_of_pos h.symm o)
  rw [enters]

theorem State.readRecompute_rests (h : ¬(s.band.recompute = true ∧ s.ctl.master = .coordinating)) : s.readRecompute = s := if_neg h

theorem State.readRecompute_starts (h : s.band.recompute = true ∧ s.ctl.master = .coordinating) (hn : s.band.inFlight = none) :
    s.readRecompute = s.trigger := (if_pos h).trans (if_pos ⟨h.2, hn⟩).symm

/-- The computation that the flag starts at a completion. -/
theorem State.trigger_starts (hm : s.ctl.master = .coordinating) (hn : s.band.inFlight = none) :
    ∃ y, s.trigger.band = { s.band with inFlight := some y, recompute := false, number := s.band.number + 1 } ∧
      y.StartsAt (s.band.number + 1) s.trigger ∧ Raises y.poisonUsed (fun _ => False) s s.trigger := by
  have triggered := State.trigger_triggered (s := s) hm rfl rfl (.refl s)
  unfold Triggered at triggered
  rw [if_pos ⟨rfl, hn⟩] at triggered
  exact triggered

end

/-- Settles O43: the completion of a computation. -/
theorem completionRule : Obligations.CompletionRule := by
  unfold Obligations.CompletionRule
  intro s hp
  have run : exec .computationCompletion s = .next s.completeComputation := by
    show powered State.completeComputation s = _
    rw [powered, if_pos hp]
  refine ⟨fun hn => by rw [run, State.completeComputation, hn], fun x hx hs => ?_⟩
  intro plan master v refused again alerts
  have verdict : s.judge x = v := s.judge_eq x
  have complete : s.completeComputation = (s.concludeAs v x).readRecompute := by
    rw [State.completeComputation, hx, ← verdict]
  have con := State.concludes v hs s
  rw [run, complete]
  generalize s.concludeAs v x = w at con
  obtain ⟨band, kept, ⟨trunk, pre, ctl⟩, raises, still, apart, aimed⟩ := con
  have reads : w.band.recompute = true ∧ w.ctl.master = .coordinating ↔ again := by
    rw [band, ctl]
    rfl
  have positions : (v ≠ .accepted → w.pos = s.pos) ∧ (v = .accepted →
      (∀ o, (∀ e, e ∈ x.record.entries → e.pos ≠ o) → w.posRec o = s.posRec o) ∧
      ∀ e, e ∈ x.record.entries →
        w.posRec e.pos = { s.posRec e.pos with
          target := some e.target, seek := (w.posRec e.pos).seek, travel := (w.posRec e.pos).travel
          correction := (w.posRec e.pos).owed s.plan } ∧
        ((s.posRec e.pos).seek.isActive = true → (w.posRec e.pos).travel = (w.posRec e.pos).seekTravel s.plan ∧
          (w.posRec e.pos).seek = if (s.posRec e.pos).running = some e.target then .inStep else .seeking) ∧
        ((s.posRec e.pos).seek.isActive = false → (w.posRec e.pos).seek = (s.posRec e.pos).seek ∧
          (w.posRec e.pos).travel = (s.posRec e.pos).travel)) := by
    refine ⟨still, fun ha => ⟨apart ha, fun e he => ?_⟩⟩
    obtain ⟨k, t, record, active, rests⟩ := PosRec.aimed_recorrect s.plan (s.posRec e.pos) e
    rw [← aimed ha e he] at record active
    have seek : (w.posRec e.pos).seek = k := congrArg PosRec.seek record
    have travel : (w.posRec e.pos).travel = t := congrArg PosRec.travel record
    rw [seek, travel]
    exact ⟨record, active, rests⟩
  by_cases ha : again
  · obtain ⟨y, tband, starts, offered⟩ := State.trigger_starts (s := w) (by rw [ctl]; exact ha.2) (by rw [band]; rfl)
    rw [State.readRecompute_starts (reads.2 ha) (by rw [band]; rfl)]
    have pos : w.trigger.pos = w.pos := State.trigger_pos w
    have records (o : Pos) : w.trigger.posRec o = w.posRec o := State.posRec_of_pos pos o
    rw [band] at tband starts
    refine ⟨w.trigger, rfl, ?_, ?_, ?_, fun hn => absurd ha hn, fun _ => ⟨?_, ?_, y, ?_, starts, ?_⟩, ?_, ?_,
      (State.trigger_trunk w).trans trunk, (State.trigger_pre w).trans pre, (State.trigger_ctl w).trans ctl,
      (State.kept_trigger w).trans kept⟩
    · rw [tband]
      rfl
    · rw [tband]
      rfl
    · rw [tband]
      rfl
    · rw [tband]
    · rw [tband]
      rfl
    · rw [tband]
    · exact (raises.trans offered (State.clock_of_kept kept)).iff fun c => by
        rw [or_false]
        exact Concludes.alerts_iff pos c
    · rw [pos]
      exact positions.1
    · simp only [records]
      exact positions.2
  · rw [State.readRecompute_rests fun h => ha (reads.1 h)]
    refine ⟨w, rfl, ?_, ?_, ?_, fun _ => ⟨?_, ?_, ?_, raises⟩, fun h => absurd h ha, positions.1, positions.2, trunk, pre, ctl, kept⟩
    all_goals
      rw [band]
      rfl

end Sys2Proof.Machine

end

section
/-! The end of a decisecond for the holds (R147): the holds that end, one after another, as a fold of single expiries; and the settlement
of O35. -/

namespace Sys2Proof.Machine

/-! ### The holds that end -/

/-- The holds of the vectors `vs` end one after another. -/
def State.expireAll (vs : List VecIx) (s : State) : State := vs.foldl (fun s v => s.expire v) s

theorem State.expireAll_nil (s : State) : s.expireAll [] = s := rfl

theorem State.expireAll_cons (v : VecIx) (vs : List VecIx) (s : State) :
    s.expireAll (v :: vs) = (s.expire v).expireAll vs := by
  unfold State.expireAll
  rw [List.foldl_cons]

section
variable {s t : State} {v w : VecIx} {vs : List VecIx}

theorem State.expires_expireAll (vs : List VecIx) (s : State) : Expires vs s (s.expireAll vs) := by
  induction vs generalizing s with
  | nil => exact rfl
  | cons v vs ih =>
    obtain ⟨ends, disarms, raises⟩ := State.expires v s
    rw [State.expireAll_cons]
    exact ⟨_, ends, disarms, raises, ih _⟩

theorem State.expire_causes (v w : VecIx) (s : State) :
    (s.expire v).pre.causes.get w = if v = w then none else s.pre.causes.get w := by
  rw [(State.expires v s).1.causes, get_set]

theorem State.expire_lastEnd (v w : VecIx) (s : State) :
    (s.expire v).pre.lastEnd.get w = if v = w then some .expiry else s.pre.lastEnd.get w := by
  rw [(State.expires v s).1.lastEnd, get_set]

theorem State.expireAll_causes (vs : List VecIx) (w : VecIx) (s : State) :
    (s.expireAll vs).pre.causes.get w = if w ∈ vs then none else s.pre.causes.get w := by
  induction vs generalizing s with
  | nil => simp [State.expireAll_nil]
  | cons v vs ih =>
    rw [State.expireAll_cons, ih, State.expire_causes]
    by_cases hv : v = w
    · simp [hv]
    · simp [hv, Ne.symm hv]

theorem State.expireAll_lastEnd (vs : List VecIx) (w : VecIx) (s : State) :
    (s.expireAll vs).pre.lastEnd.get w = if w ∈ vs then some .expiry else s.pre.lastEnd.get w := by
  induction vs generalizing s with
  | nil => simp [State.expireAll_nil]
  | cons v vs ih =>
    rw [State.expireAll_cons, ih, State.expire_lastEnd]
    by_cases hv : v = w
    · simp [hv]
    · simp [hv, Ne.symm hv]

/-- The hold of vector `v` is over: its cause is active with nothing remaining. -/
def Pre.holdOver (x : Pre) (v : VecIx) : Bool :=
  match x.causes.get v with
  | some c => decide (c.remaining = 0)
  | none => false

/-- One vector's turn at the end of a decisecond. -/
def State.expireIfOver (s : State) (v : VecIx) : State := if s.pre.holdOver v then s.expire v else s

theorem State.holdCountdown_eq_foldl (s : State) :
    s.holdCountdown = allVectors.foldl State.expireIfOver (s.setPre s.pre.counted) := by
  have turn : (fun (s : State) v => match s.pre.causes.get v with
      | some c => if c.remaining = 0 then s.expire v else s
      | none => s) = State.expireIfOver := funext fun s => funext fun v => by
    unfold State.expireIfOver Pre.holdOver
    cases s.pre.causes.get v <;> simp
  unfold State.holdCountdown
  rw [← turn]
  rfl

/-- The turns of distinct vectors are the expiries of those whose holds are over at the start. -/
theorem State.foldl_expireIfOver (l : List VecIx) (hl : l.Nodup) (s : State) :
    l.foldl State.expireIfOver s = s.expireAll (l.filter s.pre.holdOver) := by
  induction l generalizing s with
  | nil => rw [List.foldl_nil, List.filter_nil, State.expireAll_nil]
  | cons v l ih =>
    obtain ⟨hv, hl⟩ := List.nodup_cons.1 hl
    rw [List.foldl_cons, ih hl]
    by_cases ho : s.pre.holdOver v = true
    · have turn : s.expireIfOver v = s.expire v := by rw [State.expireIfOver, if_pos ho]
      have rest : l.filter (s.expire v).pre.holdOver = l.filter s.pre.holdOver := List.filter_congr fun w hw => by
        have hne : v ≠ w := fun e => hv (e ▸ hw)
        unfold Pre.holdOver
        rw [State.expire_causes, if_neg hne]
      rw [turn, rest, List.filter_cons, if_pos ho, State.expireAll_cons]
    · have turn : s.expireIfOver v = s := by rw [State.expireIfOver, if_neg ho]
      rw [turn, List.filter_cons, if_neg ho]

theorem Pre.counted_causes (x : Pre) (v : VecIx) :
    x.counted.causes.get v = (x.causes.get v).map fun c => { c with remaining := c.remaining - 1 } := get_ofFn _ v

theorem State.endingHolds_eq (s : State) : s.endingHolds = allVectors.filter s.pre.counted.holdOver := by
  refine List.filter_congr fun v _ => ?_
  unfold Pre.holdOver
  rw [Pre.counted_causes]
  cases s.pre.causes.get v with
  | none => rfl
  | some c => exact decide_eq_decide.2 (by show c.remaining ≤ 1 ↔ c.remaining - 1 = 0; omega)

/-- The end of a decisecond: every hold counted down, then the holds that end, one after another (R147). -/
theorem State.holdCountdown_eq (s : State) : s.holdCountdown = (s.setPre s.pre.counted).expireAll s.endingHolds := by
  rw [State.holdCountdown_eq_foldl, State.foldl_expireIfOver allVectors (List.nodup_finRange 8), State.endingHolds_eq]
  rfl

theorem State.mem_endingHolds : v ∈ s.endingHolds ↔ ∃ c, s.pre.causes.get v = some c ∧ c.remaining ≤ 1 := by
  unfold State.endingHolds
  rw [List.mem_filter]
  cases s.pre.causes.get v with
  | none => simp
  | some c => simp

/-- What the end of a decisecond makes of the causes (R147). -/
theorem State.countsDown (s : State) : CountsDown s s.holdCountdown := by
  intro v
  rw [State.holdCountdown_eq, State.expireAll_causes, State.expireAll_lastEnd]
  rw [show (s.setPre s.pre.counted).pre.causes.get v = _ from Pre.counted_causes s.pre v]
  refine ⟨fun hn => ?_, fun c hc => ?_⟩
  · have out : v ∉ s.endingHolds := fun hm => by
      obtain ⟨c, hc, -⟩ := State.mem_endingHolds.1 hm
      rw [hn] at hc
      cases hc
    rw [if_neg out, if_neg out, hn]
    exact ⟨rfl, rfl⟩
  · split
    next h2 =>
      have out : v ∉ s.endingHolds := fun hm => by
        obtain ⟨c', hc', hle⟩ := State.mem_endingHolds.1 hm
        obtain rfl := Option.some.inj (hc.symm.trans hc')
        omega
      rw [if_neg out, if_neg out, hc]
      exact ⟨rfl, rfl⟩
    next h2 =>
      have ended : v ∈ s.endingHolds := State.mem_endingHolds.2 ⟨c, hc, by omega⟩
      rw [if_pos ended, if_pos ended]
      exact ⟨rfl, rfl⟩

theorem CountsDown.congr {s' t' : State} (h : CountsDown s t) (hs : s'.pre = s.pre) (ht : t'.pre = t.pre) : CountsDown s' t' := by
  unfold CountsDown
  rw [hs, ht]
  exact h

/-- With no hold that ends the countdown is all there is. -/
theorem State.holdCountdown_of_none (h : s.endingHolds = []) : s.holdCountdown = s.setPre s.pre.counted := by
  rw [State.holdCountdown_eq, h]
  rfl

theorem State.OrdersOnly.expire (v : VecIx) (s : State) : s.OrdersOnly (s.expire v) := by
  unfold State.expire
  dsimp only
  have disarmed : s.OrdersOnly ((s.fault (.holdExpired v)).setPre ((s.fault (.holdExpired v)).pre.disarm v)) := .of_eq rfl
  generalize (s.fault (.holdExpired v)).setPre ((s.fault (.holdExpired v)).pre.disarm v) = t at disarmed ⊢
  exact disarmed.trans (.endCause v .expiry t)

theorem State.expireAll_induct {P : State → State → Prop} (refl : ∀ s, P s s) (trans : ∀ s t u, P s t → P t u → P s u)
    (one : ∀ v s, P s (s.expire v)) (vs : List VecIx) (s : State) : P s (s.expireAll vs) := by
  induction vs generalizing s with
  | nil => exact refl s
  | cons v vs ih =>
    rw [State.expireAll_cons]
    exact trans _ _ _ (one v s) (ih _)

theorem State.OrdersOnly.expireAll (vs : List VecIx) (s : State) : s.OrdersOnly (s.expireAll vs) :=
  State.expireAll_induct .refl (fun _ _ _ h k => h.trans k) .expire vs s

theorem State.KeepsBand.expireAll (vs : List VecIx) (s : State) : s.KeepsBand (s.expireAll vs) :=
  State.expireAll_induct .refl (fun _ _ _ h k => h.trans k) .expire vs s

theorem State.kept_expireAll (vs : List VecIx) (s : State) : (s.expireAll vs).kept = s.kept :=
  State.expireAll_induct (P := fun s t => t.kept = s.kept) (fun _ => rfl) (fun _ _ _ h k => k.trans h)
    (fun v s => s.kept_expire v) vs s

theorem State.OrdersOnly.holdCountdown (s : State) : s.OrdersOnly s.holdCountdown := by
  rw [State.holdCountdown_eq]
  exact State.OrdersOnly.trans (t := s.setPre s.pre.counted) rfl (.expireAll _ _)

end

end Sys2Proof.Machine

end

section
/-! Settlement of O35: a decisecond boundary below C − 1. -/

namespace Sys2Proof.Machine

/-- The clock and the waiting beacon of `s` replaced. -/
def State.ticks (k : Clock) (b : Option Bool) (s : State) : State :=
  { s with clock := k, trunk := { s.trunk with waitingBeacon := b } }

/-- The clock one decisecond on (R39, R46). -/
def Clock.advanced (k : Clock) : Clock := { k with dsRunning := k.dsLength, cyclePos := k.cyclePos + 1 }

/-- The beacon that waits one decisecond on (R49, R50). -/
def Clock.beaconAfter (k : Clock) (b : Option Bool) : Option Bool :=
  if (k.cyclePos + 1) % k.beaconInterval = 0 then some (b.getD false) else b

section
variable {s t : State}

theorem State.advance_eq (s : State) : s.advance = s.ticks s.clock.advanced (s.clock.beaconAfter s.trunk.waitingBeacon) := by
  unfold State.advance Clock.beaconAfter
  dsimp only
  split
  · exact congrArg (fun b => s.ticks s.clock.advanced (some b)) (Bool.false_or _)
  · rfl

theorem State.OrdersOnly.waitingBeacon (h : s.OrdersOnly t) : t.trunk.waitingBeacon = s.trunk.waitingBeacon := by
  rw [h.trunk_eq]

/-- The clock moves on alike before and after a change that touches neither it nor the waiting beacon. -/
theorem State.advance_of (hk : t.kept = s.kept) (ho : s.OrdersOnly t) :
    t.advance = t.ticks s.clock.advanced (s.clock.beaconAfter s.trunk.waitingBeacon) := by
  rw [State.advance_eq, State.clock_of_kept hk, ho.waitingBeacon]

theorem State.kept_ticks (k : Clock) (b : Option Bool) (s : State) : (s.ticks k b).kept = { s.kept with clock := k } := rfl

/-- A boundary below C − 1: the clock moves on, before or after the end of the decisecond for the holds. -/
theorem State.boundary_below (o : BoundaryOrder) (h : s.clock.cyclePos + 1 ≠ s.clock.c) :
    s.boundary o = if o.hold = .beforeClock then s.holdCountdown.advance else s.advance.holdCountdown := by
  have clock : (s.holdAt .beforeClock o).clock = s.clock := State.clock_of_kept (State.kept_holdAt ..)
  rw [State.boundary, State.tick, clock, if_neg h]
  unfold State.plainBoundary State.holdAt
  cases o.hold <;> simp

/-- The countdown after the clock moved on. -/
theorem State.holdCountdown_ticks (k : Clock) (b : Option Bool) (s : State) :
    (s.ticks k b).holdCountdown = ((s.setPre s.pre.counted).ticks k b).expireAll s.endingHolds := State.holdCountdown_eq _

end

/-- Settles O35: the clock moves on and the holds count down, in the order the command names. -/
theorem decisecondRule : Obligations.DecisecondRule := by
  unfold Obligations.DecisecondRule
  intro s o hp hc
  have run : exec (.decisecond o) s = .next (s.boundary o) := by
    show powered (State.boundary o) s = _
    rw [powered, if_pos hp]
  have countdown := s.holdCountdown_eq
  have keptH : s.holdCountdown.kept = s.kept := s.kept_holdCountdown
  have ordersH : s.OrdersOnly s.holdCountdown := .holdCountdown s
  rw [run, State.boundary_below o hc]
  by_cases ho : o.hold = .beforeClock
  · rw [if_pos ho, State.advance_of keptH ordersH]
    have none := State.holdCountdown_of_none (s := s)
    have keeps := State.KeepsBand.holdCountdown s
    have counts := s.countsDown
    have expires := State.expires_expireAll s.endingHolds (s.setPre s.pre.counted)
    rw [← countdown] at expires
    generalize s.holdCountdown = w at *
    refine ⟨w.ticks s.clock.advanced (s.clock.beaconAfter s.trunk.waitingBeacon), rfl, rfl, rfl, ?_, counts.congr rfl rfl, ?_,
      keeps.band, keeps.ctl, ?_⟩
    · exact congrArg (fun x : Trunk => ({ x with waitingBeacon := s.trunk.waitingBeacon } : Trunk)) ordersH
    · rw [State.kept_ticks, keptH]
      rfl
    · intro ticked u
      refine ⟨fun hn => ?_, fun _ => ⟨w, expires, rfl⟩, fun h => absurd ho h⟩
      rw [none hn]
      rfl
  · rw [if_neg ho, State.advance_eq]
    have after := State.holdCountdown_ticks s.clock.advanced (s.clock.beaconAfter s.trunk.waitingBeacon) s
    have kept := (s.ticks s.clock.advanced (s.clock.beaconAfter s.trunk.waitingBeacon)).kept_holdCountdown
    have orders := State.OrdersOnly.holdCountdown (s.ticks s.clock.advanced (s.clock.beaconAfter s.trunk.waitingBeacon))
    have keeps := State.KeepsBand.holdCountdown (s.ticks s.clock.advanced (s.clock.beaconAfter s.trunk.waitingBeacon))
    have counts := State.countsDown (s.ticks s.clock.advanced (s.clock.beaconAfter s.trunk.waitingBeacon))
    generalize (s.ticks s.clock.advanced (s.clock.beaconAfter s.trunk.waitingBeacon)).holdCountdown = t at *
    have clock : t.clock = s.clock.advanced := congrArg Kept.clock kept
    have beacon : t.trunk.waitingBeacon = s.clock.beaconAfter s.trunk.waitingBeacon := orders.waitingBeacon
    refine ⟨t, rfl, clock, beacon, ?_, counts.congr rfl rfl, ?_, keeps.band, keeps.ctl, ?_⟩
    · exact congrArg (fun x : Trunk => ({ x with waitingBeacon := s.trunk.waitingBeacon } : Trunk)) orders
    · rw [kept]
      rfl
    · intro ticked u
      have same : ticked u = (s.setPre s.pre.counted).ticks s.clock.advanced (s.clock.beaconAfter s.trunk.waitingBeacon) := by
        simp only [ticked, u, clock, beacon]
        rfl
      refine ⟨fun hn => ?_, fun h => absurd h ho, fun _ => ?_⟩
      · rw [same, after, hn, State.expireAll_nil]
      · rw [same, after]
        exact State.expires_expireAll _ _

end Sys2Proof.Machine

end

section
/-! The Measurement Unit and the Band Computer over a rollover, in whatever order they take it (R60 to R67, R73, R76): what they leave
alone, the triggers and the computation they start. -/

namespace Sys2Proof.Machine

/-! ### Changes of the measurements alone -/

/-- From `s` to `t` the links, the measurement records, the Band Computer and the Fault and Alert Unit change at most, and no queue
record does. -/
structure Measured (s t : State) : Prop where
  pos : t.pos = s.pos
  trunk : t.trunk = s.trunk
  pre : t.pre = s.pre
  ctl : t.ctl = s.ctl
  kept : t.kept = { s.kept with links := t.links, meas := t.meas }
  queues : ∀ p, (t.meas.pos.get p).queueIn = (s.meas.pos.get p).queueIn ∧ (t.meas.pos.get p).queueOut = (s.meas.pos.get p).queueOut

namespace Measured

variable {s t u : State}

theorem of_kept (hp : t.pos = s.pos) (ht : t.trunk = s.trunk) (hr : t.pre = s.pre) (hc : t.ctl = s.ctl) (hk : t.kept = s.kept) :
    Measured s t := by
  have meas : t.meas = s.meas := congrArg Kept.meas hk
  have links : t.links = s.links := congrArg Kept.links hk
  refine ⟨hp, ht, hr, hc, ?_, fun p => by rw [meas]; exact ⟨rfl, rfl⟩⟩
  rw [meas, links]
  exact hk

theorem refl (s : State) : Measured s s := of_kept rfl rfl rfl rfl rfl

theorem trans (h : Measured s t) (k : Measured t u) : Measured s u where
  pos := k.pos.trans h.pos
  trunk := k.trunk.trans h.trunk
  pre := k.pre.trans h.pre
  ctl := k.ctl.trans h.ctl
  kept := k.kept.trans (by rw [h.kept])
  queues p := ⟨(k.queues p).1.trans (h.queues p).1, (k.queues p).2.trans (h.queues p).2⟩

theorem symm (h : Measured s t) : Measured t s where
  pos := h.pos.symm
  trunk := h.trunk.symm
  pre := h.pre.symm
  ctl := h.ctl.symm
  kept := by
    rw [h.kept]
    rfl
  queues p := ⟨(h.queues p).1.symm, (h.queues p).2.symm⟩

theorem clock (h : Measured s t) : t.clock = s.clock := congrArg Kept.clock h.kept

theorem plan (h : Measured s t) : t.plan = s.plan := congrArg (fun k : Kept => k.plans.header k.plans.active) h.kept

theorem trigger (s : State) : Measured s s.trigger :=
  of_kept s.trigger_pos s.trigger_trunk s.trigger_pre s.trigger_ctl s.kept_trigger

theorem bandBoundary (a : Bool) (s : State) : Measured s (s.bandBoundary a) := by
  cases a with
  | false =>
    rw [State.bandBoundary_unactivated]
    split
    · exact trigger s
    · exact refl s
  | true =>
    show Measured s (if s.trigger.plan.adaptive then s.trigger.trigger else s.trigger)
    split
    · exact (trigger s).trans (trigger s.trigger)
    · exact trigger s

/-- A rewrite of the measures and of the volumes, the direction, the tide and the marks. -/
theorem of_writes {l : Vector LinkRec 23} {m : Meas}
    (hq : ∀ p, (m.pos.get p).queueIn = (s.meas.pos.get p).queueIn ∧ (m.pos.get p).queueOut = (s.meas.pos.get p).queueOut) :
    Measured s { s with links := l, meas := m } := ⟨rfl, rfl, rfl, rfl, rfl, hq⟩

theorem measureBoundary (a : Bool) (s : State) : Measured s (s.measureBoundary a) := by
  cases a
  · exact refl s
  · exact of_writes (l := s.links) fun p => ⟨rfl, rfl⟩

theorem smoothed (s : State) : Measured s s.smoothed := by
  have meas := s.smoothed_meas
  have whole : s.smoothed = { s with links := s.smoothed.links, meas := s.meas.updateVolumes s.enrolledCount } := by
    rw [← meas]
    unfold State.smoothed State.mapMeasure
    rfl
  rw [whole]
  exact of_writes fun p => by rw [Meas.updateVolumes_pos]; exact ⟨rfl, rfl⟩

theorem clearMarks (s : State) : Measured s s.clearMarks := by
  have whole : s.clearMarks = { s with links := s.clearMarks.links, meas := s.meas.clearMarks } := by
    rw [← s.clearMarks_meas]
    unfold State.clearMarks State.mapMeasure
    rfl
  rw [whole]
  refine of_writes fun p => ?_
  rw [Meas.clearMarks, get_ofFn]
  exact ⟨rfl, rfl⟩

theorem turnTide (s : State) : Measured s s.turnTide :=
  (of_writes (l := s.links) (m := { s.meas with dir := s.meas.dir.reverse, tide := 0 }) fun _ => ⟨rfl, rfl⟩).trans
    (of_kept rfl rfl rfl rfl (State.kept_alert .tide _))

theorem evaluateTide (s : State) : Measured s s.evaluateTide := by
  unfold State.evaluateTide
  dsimp only
  split
  · split
    · exact of_writes (l := s.links) fun p => ⟨rfl, rfl⟩
    · exact (turnTide s).trans (trigger s.turnTide)
  · exact of_writes (l := s.links) fun p => ⟨rfl, rfl⟩

theorem measureRollover (a : Bool) (s : State) : Measured s (s.measureRollover a) := by
  rw [State.measureRollover_eq]
  refine (smoothed s).trans (trans ?_ (clearMarks _))
  split
  · exact evaluateTide _
  · exact refl _

theorem followActivation (a : Bool) (s : State) : Measured s (s.followActivation a) := by
  unfold State.followActivation
  split
  · split
    · exact of_kept rfl rfl rfl rfl (State.kept_setBand _ _)
    · exact refl s
  · exact refl s

theorem measureInOrder (a : Bool) (m : BandMoment) (s : State) : Measured s (s.measureInOrder a m) := by
  cases m with
  | afterBoth => exact ((measureBoundary a s).trans (measureRollover a _)).trans (bandBoundary a _)
  | beforeBoth => exact ((bandBoundary a s).trans (measureBoundary a _)).trans (measureRollover a _)
  | betweenRolloverAndActivation => exact ((measureRollover a s).trans (bandBoundary a _)).trans (measureBoundary a _)
  | betweenActivationAndRollover => exact ((measureBoundary a s).trans (bandBoundary a _)).trans (measureRollover a _)

theorem measureAndTrigger (a : Bool) (m : BandMoment) (s : State) : Measured s (s.measureAndTrigger a m) :=
  (measureInOrder a m s).trans (followActivation a _)

end Measured

/-! ### The snapshot between those changes -/

/-- The link records have the lengths and the qualities of `k`, which is what a snapshot takes of them (R67). -/
def State.Reads (s : State) (k : Vector LinkRec 23) : Prop :=
  ∀ l, (s.linkRec l).length = (k.get l).length ∧ (s.linkRec l).inb.quality = (k.get l).inb.quality ∧
    (s.linkRec l).outb.quality = (k.get l).outb.quality

section
variable {s t : State} {k : Vector LinkRec 23}

theorem State.Reads.of_links (h : s.links = k) : s.Reads k := fun l => by
  rw [← h]
  exact ⟨rfl, rfl, rfl⟩

/-- A snapshot reads its own direction, the queues and the qualities; the rest is kept over a change of the measurements. -/
theorem Measured.snapshot (h : Measured s t) (hk : t.Reads k) :
    t.snapshot = ({ s with meas := { s.meas with dir := t.meas.dir }, links := k } : State).snapshot := by
  have whole : t.snapshot = ({ s with meas := t.meas, links := t.links } : State).snapshot :=
    State.snapshot_of_kept (by rw [h.kept]; rfl)
  have links : State.snapLink { s with meas := t.meas, links := t.links } =
      State.snapLink { s with meas := { s.meas with dir := t.meas.dir }, links := k } := funext fun l => by
    obtain ⟨length, inb, outb⟩ := hk l
    show SnapLink.mk l (t.linkRec l).length (t.linkRec l).inb.quality (t.linkRec l).outb.quality = _
    rw [length, inb, outb]
    rfl
  have positions : State.snapPos { s with meas := t.meas, links := t.links } =
      State.snapPos { s with meas := { s.meas with dir := t.meas.dir }, links := k } := funext fun p => by
    obtain ⟨queueIn, queueOut⟩ := h.queues p
    unfold State.snapPos
    dsimp only
    rw [queueIn, queueOut]
    rfl
  rw [whole]
  unfold State.snapshot
  dsimp only
  rw [links, positions]
  rfl

theorem State.reads_clearMarks (s : State) : s.Reads s.clearMarks.links := fun l => by
  have marks := State.linkRec_clearMarks s l
  rw [State.linkRec] at marks
  rw [marks]
  exact ⟨rfl, rfl, rfl⟩

end

end Sys2Proof.Machine

end

section
/-! The triggers of a rollover (R73, R76): what so many of them leave of the Band Computer, and the rollover of the Measurement Unit
and the Band Computer in every order. -/

namespace Sys2Proof.Machine

/-! ### So many triggers -/

/-- From `s` to `w` the Band Computer took `n` triggers: the first started a computation, whose snapshot meets `S`, when one could
start, every other one set the recompute-pending flag; the faults of the start and the classes of `A` were offered. -/
structure Turning (n : Nat) (S : Snapshot → Prop) (A : AlertClass → Prop) (s w : State) : Prop where
  rests : ¬(1 ≤ n ∧ s.MayStart) → w.band = { s.band with recompute := s.band.recompute || decide (1 ≤ n) }
  starts : 1 ≤ n ∧ s.MayStart → ∃ x, w.band = { s.band with
      inFlight := some x, number := s.band.number + 1, recompute := decide (2 ≤ n) } ∧
    x.Begun (s.band.number + 1) ∧ S x.snap
  raises : Raises (s.startFaults w) A s w
  ctl : w.ctl = s.ctl
  clock : w.clock = s.clock

section
variable {n : Nat} {S : Snapshot → Prop} {A : AlertClass → Prop} {s w t : State}

theorem State.startFaults_congr {s' t' : State} (hs : s'.band = s.band) (ht : t'.band = t.band) :
    s'.startFaults t' = s.startFaults t := by
  unfold State.startFaults
  rw [hs, ht]

theorem State.startFaults_of_inFlight (h : t.band.inFlight = s.band.inFlight) : s.startFaults t = [] := by
  unfold State.startFaults
  rw [h]
  cases s.band.inFlight <;> rfl

theorem State.startFaults_of_start {x : Computation} (hs : s.band.inFlight = none) (ht : t.band.inFlight = some x) :
    s.startFaults t = x.poisonUsed := by
  unfold State.startFaults
  rw [hs, ht]

/-- With an activation the Band Computer is triggered by it, and by an ADAPTIVE plan again (R72, R76). -/
theorem State.bandBoundary_activated (s : State) :
    s.bandBoundary true = if s.plan.adaptive then s.trigger.trigger else s.trigger := by
  have plan : s.trigger.plan = s.plan := State.plan_of_kept s.kept_trigger
  unfold State.bandBoundary
  simp only [if_true, plan]

namespace Turning

theorem zero (S : Snapshot → Prop) (s : State) : Turning 0 S (fun _ => False) s s where
  rests _ := by simp
  starts h := absurd h.1 (by decide)
  raises := by
    rw [State.startFaults_of_inFlight rfl]
    exact .refl s
  ctl := rfl
  clock := rfl

/-- A change between the triggers that leaves the Band Computer and the Fault and Alert Unit alone. -/
theorem quiet (h : Turning n S A s w) (hb : t.band = w.band) (hf : t.faults = w.faults) (hc : t.ctl = w.ctl)
    (hk : t.clock = w.clock) : Turning n S A s t where
  rests hn := hb.trans (h.rests hn)
  starts hn := by
    obtain ⟨x, band, rest⟩ := h.starts hn
    exact ⟨x, hb.trans band, rest⟩
  raises := by
    rw [State.startFaults_congr rfl hb]
    exact h.raises.quiet hf
  ctl := hc.trans h.ctl
  clock := hk.trans h.clock

theorem iff {B : AlertClass → Prop} (h : Turning n S A s w) (hAB : ∀ c, A c ↔ B c) : Turning n S B s w :=
  ⟨h.rests, h.starts, h.raises.iff hAB, h.ctl, h.clock⟩

/-- An alert event between the triggers. -/
theorem alert (h : Turning n S A s w) (c : AlertClass) : Turning n S (fun d => A d ∨ d = c) s (w.alert c) where
  rests := h.rests
  starts := h.starts
  raises := by
    have both := h.raises.trans (.alert c w) h.clock
    rw [List.append_nil] at both
    exact both
  ctl := h.ctl
  clock := h.clock

/-- After `n` triggers one more starts a computation only as the first. -/
theorem mayStart_iff (h : Turning n S A s w) : w.MayStart ↔ n = 0 ∧ s.MayStart := by
  unfold State.MayStart
  rw [h.ctl]
  by_cases hs : s.MayStart
  · by_cases hn : 1 ≤ n
    · obtain ⟨x, band, -⟩ := h.starts ⟨hn, hs⟩
      rw [band]
      exact iff_of_false (fun e => nomatch e.2) fun e => by omega
    · rw [h.rests fun e => hn e.1]
      exact iff_of_true hs ⟨by omega, hs⟩
  · rw [h.rests fun e => hs e.2]
    exact iff_of_false hs fun e => hs e.2

/-- One more trigger. -/
theorem trigger (h : Turning n S A s w) (hS : n = 0 → S w.snapshot) : Turning (n + 1) S A s w.trigger := by
  have clock : w.trigger.clock = s.clock := (State.clock_of_kept w.kept_trigger).trans h.clock
  have ctl : w.trigger.ctl = s.ctl := (State.trigger_ctl w).trans h.ctl
  by_cases hw : w.MayStart
  · obtain ⟨rfl, hs⟩ := h.mayStart_iff.1 hw
    have same : w.band = s.band := (h.rests fun e => absurd e.1 (by decide)).trans (by simp)
    have none : s.startFaults w = [] := State.startFaults_of_inFlight (by rw [same])
    have quiet := h.raises
    rw [none] at quiet
    have triggered := State.trigger_triggered (s := s) rfl same h.clock quiet
    unfold Triggered at triggered
    rw [if_pos ⟨hw.1, hs.2⟩] at triggered
    obtain ⟨x, band, ⟨snap, begun⟩, raises⟩ := triggered
    refine ⟨fun hn => absurd ⟨Nat.le_add_left 1 0, hs⟩ hn, fun _ => ⟨x, band.trans (by simp), begun, ?_⟩, ?_, ctl, clock⟩
    · rw [snap, State.snapshot_of_kept w.kept_trigger]
      exact hS rfl
    · rw [State.startFaults_of_start hs.2 (by rw [band])]
      exact raises
  · have flagged : w.trigger = w.setBand { w.band with recompute := true } := State.trigger_of_busy hw
    rw [flagged]
    refine ⟨fun hn => ?_, fun hn => ?_, ?_, h.ctl, h.clock⟩
    · have idle : ¬s.MayStart := fun hs => hn ⟨Nat.le_add_left 1 n, hs⟩
      show { w.band with recompute := true } = _
      rw [h.rests fun e => idle e.2]
      simp
    · have first : 1 ≤ n := Nat.one_le_iff_ne_zero.2 fun e => hw (h.mayStart_iff.2 ⟨e, hn.2⟩)
      obtain ⟨x, band, begun, hx⟩ := h.starts ⟨first, hn.2⟩
      refine ⟨x, ?_, begun, hx⟩
      show { w.band with recompute := true } = _
      rw [band]
      simp [first]
    · have same : s.startFaults (w.setBand { w.band with recompute := true }) = s.startFaults w := rfl
      rw [same]
      exact h.raises.quiet rfl

/-! ### The two blocks (R66, R72, R76) -/

/-- How many triggers the Band Computer has of its own at a rollover. -/
def ofBand (a adaptive : Bool) : Nat := (if adaptive then 1 else 0) + (if a then 1 else 0)

theorem bandBoundary (a : Bool) (h : Turning n S A s w) (hS : n = 0 → 1 ≤ ofBand a w.plan.adaptive → S w.snapshot) :
    Turning (n + ofBand a w.plan.adaptive) S A s (w.bandBoundary a) := by
  cases a with
  | false =>
    rw [State.bandBoundary_unactivated]
    by_cases hp : w.plan.adaptive = true
    · rw [if_pos hp, hp]
      exact h.trigger fun hn => hS hn (by rw [hp]; exact Nat.le_refl 1)
    · rw [if_neg hp, Bool.eq_false_iff.2 hp]
      exact h
  | true =>
    have one : 1 ≤ ofBand true w.plan.adaptive := Nat.le_add_left 1 _
    have first := h.trigger fun hn => hS hn one
    rw [State.bandBoundary_activated]
    by_cases hp : w.plan.adaptive = true
    · rw [if_pos hp, hp]
      exact first.trigger fun hn => absurd hn (Nat.succ_ne_zero n)
    · rw [if_neg hp, Bool.eq_false_iff.2 hp]
      exact first

theorem measureBoundary (a : Bool) (h : Turning n S A s w) : Turning n S A s (w.measureBoundary a) := by
  cases a
  · exact h
  · exact h.quiet rfl rfl rfl rfl

theorem smoothed (h : Turning n S A s w) : Turning n S A s w.smoothed :=
  h.quiet w.smoothed_band (by simp [State.smoothed]) w.smoothed_ctl (Measured.smoothed w).clock

theorem clearMarks (h : Turning n S A s w) : Turning n S A s w.clearMarks :=
  h.quiet w.clearMarks_band w.clearMarks_faults w.clearMarks_ctl (Measured.clearMarks w).clock

end Turning

/-- The direction in force before the tide is evaluated. -/
theorem State.smoothed_dir (s : State) : s.smoothed.meas.dir = s.meas.dir := by
  rw [State.smoothed_meas, Meas.updateVolumes_dir]

theorem Dir.reverse_ne (d : Dir) : d.reverse ≠ d := by
  cases d <;> decide

/-- A tide that does not turn touches neither the Band Computer nor the Fault and Alert Unit (R64). -/
theorem State.evaluateTide_quiet (v : State) (h : ¬(v.meas.turnCondition = true ∧ ¬v.meas.tide + 1 < 3)) :
    v.evaluateTide.band = v.band ∧ v.evaluateTide.faults = v.faults ∧ v.evaluateTide.ctl = v.ctl ∧
      v.evaluateTide.clock = v.clock := by
  unfold State.evaluateTide
  dsimp only
  split
  next hc =>
    split
    · exact ⟨rfl, rfl, rfl, rfl⟩
    next h3 => exact absurd ⟨hc, h3⟩ h
  · exact ⟨rfl, rfl, rfl, rfl⟩

theorem Turning.turnTide {v : State} (h : Turning n S A s v) : Turning n S (fun c => A c ∨ c = .tide) s v.turnTide :=
  (h.quiet (t := v.setMeas { v.meas with dir := v.meas.dir.reverse, tide := 0 }) rfl rfl rfl rfl).alert .tide

/-- A rollover of the Measurement Unit turns the tide, or raises nothing and keeps the direction in force (R64, R65). -/
theorem State.measureRollover_turns_or (a : Bool) (w : State) :
    (a = false ∧ w.measureRollover a = w.smoothed.turnTide.trigger.clearMarks) ∨
      (w.measureRollover a).meas.dir = w.meas.dir ∧
        ∃ u : State, w.measureRollover a = u.clearMarks ∧ u.band = w.smoothed.band ∧ u.faults = w.smoothed.faults ∧
          u.ctl = w.smoothed.ctl ∧ u.clock = w.smoothed.clock := by
  by_cases he : a = false ∧ w.plan.mode = .tidal
  · obtain ⟨rfl, tidal⟩ := he
    rw [State.measureRollover_of_tidal tidal]
    by_cases hc : w.smoothed.meas.turnCondition = true
    · by_cases h3 : w.smoothed.meas.tide + 1 < 3
      · refine .inr ⟨?_, w.smoothed.evaluateTide, rfl, ?_⟩
        · rw [State.clearMarks_meas, Meas.clearMarks_dir, State.evaluateTide_meas, Meas.countTide_of_turns hc h3]
          exact w.smoothed_dir
        · exact w.smoothed.evaluateTide_quiet fun h => h.2 h3
      · exact .inl ⟨rfl, by rw [State.evaluateTide_of_third hc h3]⟩
    · refine .inr ⟨?_, w.smoothed.evaluateTide, rfl, ?_⟩
      · rw [State.clearMarks_meas, Meas.clearMarks_dir, State.evaluateTide_meas, Meas.countTide_of_fails hc]
        exact w.smoothed_dir
      · exact w.smoothed.evaluateTide_quiet fun h => hc h.1
  · rw [State.measureRollover_of_not_evaluated he]
    refine .inr ⟨?_, w.smoothed, rfl, rfl, rfl, rfl, rfl⟩
    rw [State.clearMarks_meas, Meas.clearMarks_dir, w.smoothed_dir]

/-- The tide turns at a rollover of the Measurement Unit. -/
def State.tideTurns (a : Bool) (w : State) : Bool := !a && decide ((w.measureRollover a).meas.dir ≠ w.meas.dir)

theorem Turning.measureRollover (a : Bool) (h : Turning n S A s w)
    (hS : n = 0 → w.tideTurns a = true → S w.smoothed.turnTide.snapshot) :
    Turning (n + if w.tideTurns a then 1 else 0) S (fun c => A c ∨ c = .tide ∧ w.tideTurns a = true) s (w.measureRollover a) := by
  rcases State.measureRollover_turns_or a w with ⟨rfl, turned⟩ | ⟨dir, u, closed, band, faults, ctl, clock⟩
  · have turns : w.tideTurns false = true := by
      have reversed : (w.measureRollover false).meas.dir = w.meas.dir.reverse := by
        rw [turned, State.clearMarks_meas, Meas.clearMarks_dir, State.meas_of_kept (State.kept_trigger _)]
        exact congrArg Dir.reverse w.smoothed_dir
      simp [State.tideTurns, reversed, Dir.reverse_ne]
    rw [turned, turns, if_pos rfl]
    exact ((h.smoothed.turnTide.trigger fun hn => hS hn turns).clearMarks).iff fun c => by simp
  · have stays : w.tideTurns a = false := by simp [State.tideTurns, dir]
    rw [stays, closed, if_neg Bool.false_ne_true]
    exact ((h.smoothed.quiet band faults ctl clock).clearMarks).iff fun c => by simp

end

end Sys2Proof.Machine

end

section
/-! The Measurement Unit and the Band Computer over a rollover, in every order: the triggers, and the snapshot of the computation they
start (R67, R73, R76). -/

namespace Sys2Proof.Machine

section
variable {n N : Nat} {S : Snapshot → Prop} {A : AlertClass → Prop} {u v w t : State} {a : Bool} {m : BandMoment}

/-! ### The snapshot taken between the two blocks -/

/-- A snapshot taken on the way from `u` to `t`: that of `t` with the links of either, its own direction; that of `t` itself once both
blocks took the rollover; and on the direction of `t` unless an activation or a second trigger follows it (R67, R76). -/
structure SnapFits (u t : State) (m : BandMoment) (N : Nat) (a : Bool) (n : Snapshot) : Prop where
  reads : ∃ links, (links = u.links ∨ links = t.links) ∧
    n = ({ t with meas := { t.meas with dir := n.dir }, links } : State).snapshot
  last : m = .afterBoth → n = t.snapshot
  follows : a = false → N ≤ 1 → n.dir = t.meas.dir

theorem SnapFits.of_links (hw : Measured w t) (hk : w.Reads u.links) (hm : m ≠ .afterBoth)
    (hd : a = false → N ≤ 1 → w.meas.dir = t.meas.dir) : SnapFits u t m N a w.snapshot where
  reads := ⟨u.links, .inl rfl, hw.symm.snapshot hk⟩
  last h := absurd h hm
  follows := hd

theorem SnapFits.of_turned (hw : Measured w t) (hk : w.Reads t.links) (hd : m = .afterBoth ∨ a = false → w.meas.dir = t.meas.dir) :
    SnapFits u t m N a w.snapshot where
  reads := ⟨t.links, .inr rfl, hw.symm.snapshot hk⟩
  last h := by
    rw [hw.symm.snapshot hk, hd (.inl h)]
  follows ha _ := hd (.inr ha)

theorem SnapFits.congr {t' : State} {x : Snapshot} (h : SnapFits u t m N a x) (hk : t'.kept = t.kept) : SnapFits u t' m N a x where
  reads := by
    obtain ⟨links, hl, hn⟩ := h.reads
    have same : t'.links = t.links := State.links_of_kept hk
    have meas : t'.meas = t.meas := State.meas_of_kept hk
    refine ⟨links, by rw [same]; exact hl, hn.trans (State.snapshot_of_kept ?_).symm⟩
    have kept := congrArg (fun k : Kept => ({ k with meas := { t.meas with dir := x.dir }, links := links } : Kept)) hk
    rw [← meas] at kept
    rw [← meas]
    exact kept
  last hm := (h.last hm).trans (State.snapshot_of_kept hk).symm
  follows ha hn := by
    rw [State.meas_of_kept hk]
    exact h.follows ha hn

/-! ### The turn of the tide -/

theorem State.measureRollover_of_turns (h : v.tideTurns a = true) :
    a = false ∧ v.measureRollover a = v.smoothed.turnTide.trigger.clearMarks := by
  rcases State.measureRollover_turns_or a v with turned | ⟨dir, -⟩
  · exact turned
  · simp [State.tideTurns, dir] at h

/-- The state in which the turn of the tide triggers the Band Computer reads the links, and has the direction, that the rollover
leaves. -/
theorem State.turnTide_reads (h : v.tideTurns a = true) : Measured v.smoothed.turnTide (v.measureRollover a) ∧
    v.smoothed.turnTide.Reads (v.measureRollover a).links ∧ v.smoothed.turnTide.meas.dir = (v.measureRollover a).meas.dir := by
  rw [(State.measureRollover_of_turns h).2]
  generalize v.smoothed.turnTide = w
  have meas : w.trigger.meas = w.meas := State.meas_of_kept w.kept_trigger
  have links (l : LinkIx) : w.linkRec l = w.trigger.linkRec l :=
    State.linkRec_of_links (State.links_of_kept w.kept_trigger).symm l
  refine ⟨(Measured.trigger w).trans (Measured.clearMarks _), fun l => ?_, ?_⟩
  · rw [links]
    exact State.reads_clearMarks w.trigger l
  · rw [State.clearMarks_meas, Meas.clearMarks_dir, meas]

/-! ### The two blocks in either order -/

theorem rolloverTriggers_eq (adaptive a turned : Bool) :
    rolloverTriggers adaptive a turned = Turning.ofBand a adaptive + if turned then 1 else 0 := rfl

/-- The Measurement Unit's rollover first. -/
theorem Turning.rollThenBand (h : Turning 0 S (fun _ => False) u v) (hT : v.tideTurns a = true → S v.smoothed.turnTide.snapshot)
    (hB : S (v.measureRollover a).snapshot) :
    Turning (rolloverTriggers v.plan.adaptive a (v.tideTurns a)) S (fun c => c = .tide ∧ v.tideTurns a = true) u
      ((v.measureRollover a).bandBoundary a) := by
  have rolled := h.measureRollover a fun _ => hT
  have both := rolled.bandBoundary a fun _ _ => hB
  rw [(Measured.measureRollover a v).plan, Nat.zero_add, Nat.add_comm, ← rolloverTriggers_eq] at both
  exact both.iff fun c => by rw [false_or]

/-- The Band Computer's own triggers first. -/
theorem Turning.bandThenRoll (h : Turning 0 S (fun _ => False) u v) (hB : 1 ≤ Turning.ofBand a v.plan.adaptive → S v.snapshot)
    (hw : ∀ k, Turning k S (fun _ => False) u (v.bandBoundary a) → Turning k S (fun _ => False) u w)
    (hT : w.tideTurns a = true → S w.smoothed.turnTide.snapshot) :
    Turning (rolloverTriggers v.plan.adaptive a (w.tideTurns a)) S (fun c => c = .tide ∧ w.tideTurns a = true) u
      (w.measureRollover a) := by
  have banded := h.bandBoundary a fun _ => hB
  rw [Nat.zero_add] at banded
  have both := (hw _ banded).measureRollover a fun _ => hT
  rw [← rolloverTriggers_eq] at both
  exact both.iff fun c => by rw [false_or]

/-- The turn of the tide read off the state before the blocks take the rollover and the state they leave. -/
theorem State.tideTurns_eq {x y : State} (hx : a = false → x.meas.dir = u.meas.dir)
    (hy : a = false → y.meas.dir = (x.measureRollover a).meas.dir) :
    x.tideTurns a = (!a && decide (y.meas.dir ≠ u.meas.dir)) := by
  unfold State.tideTurns
  generalize (x.measureRollover a).meas.dir = d at hy ⊢
  cases a with
  | false => rw [hx rfl, hy rfl]
  | true => rw [Bool.not_true, Bool.false_and, Bool.false_and]

/-- The Band Computer's own triggers leave room for no other trigger when the sum is one. -/
theorem dir_kept_of_one {adaptive turned : Bool} (h1 : 1 ≤ Turning.ofBand a adaptive) (hN : rolloverTriggers adaptive a turned ≤ 1) :
    turned = false := by
  rw [rolloverTriggers_eq] at hN
  cases turned with
  | false => rfl
  | true =>
    rw [if_pos rfl] at hN
    omega

/-- Without an activation the direction stays when the tide does not turn. -/
theorem dir_eq_of_not_turned {d d' : Dir} (h : (!a && decide (d ≠ d')) = false) (ha : a = false) : d = d' := by
  rw [ha] at h
  simpa using h

/-- The direction in force is written at an activation only. -/
theorem State.measureBoundary_dir (u : State) (ha : a = false) : (u.measureBoundary a).meas.dir = u.meas.dir := by
  rw [ha]
  rfl

theorem State.measureBoundary_links (a : Bool) (u : State) : (u.measureBoundary a).links = u.links := by
  cases a <;> rfl

/-- The rollover of the Measurement Unit first: either snapshot is one that fits what is left. -/
theorem Turning.rollFirst {turned : Bool} (h : Turning 0 (SnapFits u t m N a) (fun _ => False) u v) (plan : v.plan = u.plan)
    (dir : a = false → v.meas.dir = u.meas.dir) (rest : Measured (v.measureRollover a) t)
    (links : t.links = (v.measureRollover a).links)
    (kept : m = .afterBoth ∨ a = false → (v.measureRollover a).meas.dir = t.meas.dir)
    (hturned : turned = (!a && decide (t.meas.dir ≠ u.meas.dir))) (hN : N = rolloverTriggers u.plan.adaptive a turned) :
    Turning N (SnapFits u t m N a) (fun c => c = .tide ∧ turned = true) u ((v.measureRollover a).bandBoundary a) := by
  have turns : v.tideTurns a = turned := hturned ▸ State.tideTurns_eq dir fun ha => (kept (.inr ha)).symm
  have rolled := h.rollThenBand (a := a)
    (fun ht => by
      obtain ⟨measured, reads, turnedDir⟩ := State.turnTide_reads ht
      exact .of_turned (measured.trans rest) (by rw [links]; exact reads) fun hm => turnedDir.trans (kept hm))
    (.of_turned rest (.of_links links.symm) kept)
  rwa [plan, turns, ← hN] at rolled

/-- The Band Computer's triggers first: either snapshot is one that fits what is left. -/
theorem Turning.bandFirst {turned : Bool} (h : Turning 0 (SnapFits u (w.measureRollover a) m N a) (fun _ => False) u v)
    (plan : v.plan = u.plan) (links : v.links = u.links) (dir : a = false → v.meas.dir = u.meas.dir)
    (rest : Measured (v.bandBoundary a) w)
    (hw : ∀ k S, Turning k S (fun _ => False) u (v.bandBoundary a) → Turning k S (fun _ => False) u w)
    (dirW : a = false → w.meas.dir = u.meas.dir) (hm : m ≠ .afterBoth)
    (hturned : turned = (!a && decide ((w.measureRollover a).meas.dir ≠ u.meas.dir)))
    (hN : N = rolloverTriggers u.plan.adaptive a turned) :
    Turning N (SnapFits u (w.measureRollover a) m N a) (fun c => c = .tide ∧ turned = true) u (w.measureRollover a) := by
  have turns : w.tideTurns a = turned := hturned ▸ State.tideTurns_eq dirW fun _ => rfl
  have banded := h.bandThenRoll (a := a) (w := w)
    (fun h1 => .of_links (((Measured.bandBoundary a v).trans rest).trans (Measured.measureRollover a w)) (.of_links links) hm
      fun ha h2 => by
        have still : turned = false := dir_kept_of_one (plan ▸ h1) (hN ▸ h2)
        exact (dir ha).trans (dir_eq_of_not_turned (hturned ▸ still) ha).symm)
    (fun k => hw k _)
    (fun ht => by
      obtain ⟨measured, reads, turnedDir⟩ := State.turnTide_reads ht
      exact .of_turned measured reads fun _ => turnedDir)
  rwa [plan, turns, ← hN] at banded

/-- The two blocks over a rollover, in every order (R73, R76). -/
theorem State.turning_measureInOrder (a : Bool) (m : BandMoment) (u t : State) (ht : t = u.measureInOrder a m) {turned : Bool}
    (hturned : turned = (!a && decide (t.meas.dir ≠ u.meas.dir))) {N : Nat} (hN : N = rolloverTriggers u.plan.adaptive a turned) :
    Turning N (SnapFits u t m N a) (fun c => c = .tide ∧ turned = true) u t := by
  have zero := Turning.zero (SnapFits u t m N a) u
  cases m with
  | afterBoth =>
    have banded : t.kept = ((u.measureBoundary a).measureRollover a).kept := by rw [ht]; exact State.kept_bandBoundary _ _
    have rolled := (zero.measureBoundary a).rollFirst (Measured.measureBoundary a u).plan (u.measureBoundary_dir (a := a))
      (by rw [ht]; exact Measured.bandBoundary a _) (State.links_of_kept banded) (fun _ => by rw [State.meas_of_kept banded])
      hturned hN
    rwa [show ((u.measureBoundary a).measureRollover a).bandBoundary a = t from ht.symm] at rolled
  | beforeBoth =>
    have whole : t = ((u.bandBoundary a).measureBoundary a).measureRollover a := ht
    rw [whole] at zero hturned ⊢
    have banded := State.kept_bandBoundary a u
    exact zero.bandFirst rfl rfl (fun _ => rfl) (.measureBoundary a _) (fun _ _ k => k.measureBoundary a)
      (fun ha => (State.measureBoundary_dir _ ha).trans (by rw [State.meas_of_kept banded])) (by decide) hturned hN
  | betweenRolloverAndActivation =>
    have banded := State.kept_bandBoundary a (u.measureRollover a)
    have whole : t = ((u.measureRollover a).bandBoundary a).measureBoundary a := ht
    have dir (ha : a = false) : t.meas.dir = (u.measureRollover a).meas.dir := by
      rw [whole, State.measureBoundary_dir _ ha, State.meas_of_kept banded]
    have rolled := zero.rollFirst rfl (fun _ => rfl)
      (by rw [whole]; exact (Measured.bandBoundary a _).trans (.measureBoundary a _))
      (by rw [whole, State.measureBoundary_links, State.links_of_kept banded])
      (fun hm => (dir (hm.resolve_left (by decide))).symm) hturned hN
    have done := rolled.measureBoundary a
    rwa [← whole] at done
  | betweenActivationAndRollover =>
    have whole : t = ((u.measureBoundary a).bandBoundary a).measureRollover a := ht
    rw [whole] at zero hturned ⊢
    have banded := State.kept_bandBoundary a (u.measureBoundary a)
    exact (zero.measureBoundary a).bandFirst (Measured.measureBoundary a u).plan (State.measureBoundary_links a u)
      (u.measureBoundary_dir (a := a)) (.refl _) (fun _ _ k => k)
      (fun ha => by rw [State.meas_of_kept banded, State.measureBoundary_dir _ ha]) (by decide) hturned hN

end

end Sys2Proof.Machine

end

section
/-! What the Measurement Unit and the Band Computer leave of a rollover (R66, R67, R73, R76). -/

namespace Sys2Proof.Machine

section
variable {s t u : State} {a : Bool} {m : BandMoment}

/-! ### The measurements after an activation (R66) -/

/-- The tide's count is zero and the direction in force is the start direction of the active plan. -/
def State.TideStarts (s : State) : Prop := s.meas.tide = 0 ∧ s.meas.dir = s.plan.startDir

theorem State.TideStarts.congr (h : s.TideStarts) (hk : t.kept = s.kept) : t.TideStarts := by
  unfold State.TideStarts
  rw [State.meas_of_kept hk, State.plan_of_kept hk]
  exact h

theorem State.TideStarts.measureBoundary (s : State) : (s.measureBoundary true).TideStarts := ⟨rfl, rfl⟩

/-- A rollover with an activation evaluates no tide. -/
theorem State.TideStarts.measureRollover (h : s.TideStarts) : (s.measureRollover true).TideStarts := by
  have plan := (Measured.measureRollover true s).plan
  have quiet : s.measureRollover true = s.smoothed.clearMarks := State.measureRollover_of_not_evaluated fun h => nomatch h.1
  unfold State.TideStarts
  rw [plan, quiet, State.clearMarks_meas, Meas.clearMarks_tide, Meas.clearMarks_dir, State.smoothed_dir, State.smoothed_meas,
    Meas.updateVolumes_tide]
  exact h

theorem State.TideStarts.bandBoundary (h : s.TideStarts) : (s.bandBoundary true).TideStarts :=
  h.congr (State.kept_bandBoundary _ _)

theorem State.TideStarts.measureAndTrigger (m : BandMoment) (u : State) : (u.measureAndTrigger true m).TideStarts := by
  refine congr (s := u.measureInOrder true m) ?_ (State.kept_followActivation _ _)
  cases m with
  | afterBoth => exact (measureBoundary u).measureRollover.bandBoundary
  | beforeBoth => exact (measureBoundary _).measureRollover
  | betweenRolloverAndActivation => exact measureBoundary _
  | betweenActivationAndRollover => exact (measureBoundary u).bandBoundary.measureRollover

/-! ### The computation that follows (R73, R76) -/

/-- The recompute-pending flag follows an activation that sets another direction than that of the snapshot. -/
theorem State.followActivation_inFlight {x : Computation} (h : s.band.inFlight = some x) :
    (s.followActivation a).band =
      { s.band with recompute := s.band.recompute || decide (a = true ∧ x.snap.dir ≠ s.meas.dir) } := by
  unfold State.followActivation
  rw [h]
  dsimp only
  split
  next hf =>
    rw [decide_eq_true hf, Bool.or_true]
    rfl
  next hf => rw [decide_eq_false hf, Bool.or_false]

theorem State.followActivation_idle (h : s.band.inFlight = none) : s.followActivation a = s := by
  unfold State.followActivation
  rw [h]

theorem State.followActivation_faults (s : State) (a : Bool) : (s.followActivation a).faults = s.faults := by
  unfold State.followActivation
  split
  · split <;> rfl
  · rfl

/-- After a trigger of an activation the flag of a computation that was in flight already is set. -/
theorem State.followActivation_of_flagged (h : a = true → s.band.recompute = true) : (s.followActivation a).band = s.band := by
  cases hx : s.band.inFlight with
  | none => rw [State.followActivation_idle hx]
  | some x =>
    have flag : (s.band.recompute || decide (a = true ∧ x.snap.dir ≠ s.meas.dir)) = s.band.recompute := by
      cases a with
      | false => rw [decide_eq_false fun h => Bool.false_ne_true h.1, Bool.or_false]
      | true => rw [h rfl, Bool.true_or]
    rw [State.followActivation_inFlight hx, flag]

theorem one_le_rolloverTriggers {adaptive turned : Bool} : 1 ≤ rolloverTriggers adaptive true turned := by
  rw [rolloverTriggers, if_pos rfl]
  omega

/-- The Band Computer over a rollover, and what it and the Measurement Unit raise. -/
theorem State.measureAndTrigger_turns (a : Bool) (m : BandMoment) (u t : State) (ht : t = u.measureAndTrigger a m) {turned : Bool}
    (hturned : turned = (!a && decide (t.meas.dir ≠ u.meas.dir))) :
    BandTurns (rolloverTriggers u.plan.adaptive a turned) m u t ∧
      Raises (u.startFaults t) (fun c => c = .tide ∧ turned = true) u t := by
  have follows : t = (u.measureInOrder a m).followActivation a := ht
  have turns := State.turning_measureInOrder a m u _ rfl (turned := turned) (N := rolloverTriggers u.plan.adaptive a turned)
  generalize u.measureInOrder a m = w at follows turns
  generalize hN : rolloverTriggers u.plan.adaptive a turned = N at turns ⊢
  have kept : t.kept = w.kept := follows ▸ State.kept_followActivation a w
  have meas : t.meas = w.meas := State.meas_of_kept kept
  have turning := turns (by rw [← meas]; exact hturned) rfl
  have triggered (ha : a = true) : 1 ≤ N := hN ▸ ha ▸ one_le_rolloverTriggers
  have faults : t.faults = w.faults := follows ▸ State.followActivation_faults w a
  unfold BandTurns
  by_cases hs : 1 ≤ N ∧ u.MayStart
  · obtain ⟨x, band, begun, snap⟩ := turning.starts hs
    have inFlight : w.band.inFlight = some x := by rw [band]
    have fits := snap.congr kept
    have flag : (decide (2 ≤ N) || decide (a = true ∧ x.snap.dir ≠ w.meas.dir)) =
        decide (2 ≤ N ∨ x.snap.dir ≠ t.meas.dir) := by
      rw [← Bool.decide_or, meas]
      refine decide_eq_decide.2 (or_congr_right' fun h2 => and_iff_right_of_imp fun hd => ?_)
      by_contra ha
      exact hd ((snap.follows (Bool.eq_false_iff.2 ha) (by omega)))
    have whole : t.band = { u.band with
        inFlight := some x, number := u.band.number + 1, recompute := decide (2 ≤ N ∨ x.snap.dir ≠ t.meas.dir) } := by
      rw [follows, State.followActivation_inFlight inFlight, ← follows, ← flag, band]
    refine ⟨?_, ?_⟩
    · rw [if_pos (show 1 ≤ N ∧ u.ctl.master = .coordinating ∧ u.band.inFlight = none from hs)]
      exact ⟨x, whole, begun, fits.reads, fits.last⟩
    · have started : u.startFaults w = u.startFaults t := by
        rw [State.startFaults_of_start hs.2.2 inFlight, State.startFaults_of_start hs.2.2 (by rw [whole])]
      rw [← started]
      exact turning.raises.quiet faults
  · have band := turning.rests hs
    have same : t.band = w.band := follows ▸ State.followActivation_of_flagged fun ha => by
      rw [band, decide_eq_true (triggered ha), Bool.or_true]
    refine ⟨?_, ?_⟩
    · rw [if_neg (show ¬(1 ≤ N ∧ u.ctl.master = .coordinating ∧ u.band.inFlight = none) from hs), same]
      exact band
    · rw [State.startFaults_congr rfl same]
      exact turning.raises.quiet faults

/-- What `BandTurns` reads of the two states. -/
theorem BandTurns.congr {n : Nat} {s' t' : State} (h : BandTurns n m s t) (hb : s'.band = s.band) (hc : s'.ctl = s.ctl)
    (hl : s'.links = s.links) (ht : t'.band = t.band) (hk : t'.kept = t.kept) : BandTurns n m s' t' := by
  have meas : t'.meas = t.meas := State.meas_of_kept hk
  have links : t'.links = t.links := State.links_of_kept hk
  unfold BandTurns at h ⊢
  rw [hb, hc, hl, ht, meas, links, State.snapshot_of_kept hk]
  split
  next hs =>
    rw [if_pos hs] at h
    obtain ⟨x, band, begun, ⟨k, hk', reads⟩, last⟩ := h
    refine ⟨x, band, begun, ⟨k, hk', reads.trans (State.snapshot_of_kept ?_)⟩, last⟩
    have whole := congrArg (fun y : Kept => ({ y with meas := { t.meas with dir := x.snap.dir }, links := k } : Kept)) hk
    exact whole.symm
  next hs =>
    rw [if_neg hs] at h
    exact h

end

end Sys2Proof.Machine

end

section
/-! The holds that end at a rollover, from two states that differ in what those holds do not read (R111, R147, R148), and the difference
of what two runs raise. -/

namespace Sys2Proof.Machine

section
variable {s s' t w : State} {h h' : Header} {r r' : PosRec} {x : Pre} {off : Bool} {v : VecIx} {p : Pos} {y y' : Holding}

/-! ### Records without their travel -/

/-- The record without the fields that follow the active plan: direction and remaining, and the round correction. -/
def PosRec.blind (r : PosRec) : PosRec := { r with travel := none, correction := 0 }

theorem PosRec.blind_seek (e : r'.blind = r.blind) : r'.seek = r.seek := (congrArg PosRec.seek e :)

theorem PosRec.blind_recorrect (h : Header) (r : PosRec) : (r.recorrect h).blind = r.blind := rfl

theorem PosRec.blind_evaluate (h h' : Header) (r : PosRec) : (r.evaluate h).blind = (r.blind.evaluate h').blind := by
  obtain ⟨_, _, _, _, target, running, _⟩ := r
  cases target with
  | none => rfl
  | some t =>
    cases running with
    | none => rfl
    | some q =>
      show PosRec.blind (if t = q then _ else _) = PosRec.blind (if t = q then _ else _)
      split <;> rfl

theorem PosRec.blind_released (h h' : Header) (off : Bool) (r : PosRec) :
    (r.released h off).blind = (r.blind.released h' off).blind := by
  have seek : r.blind.seek = r.seek := rfl
  unfold PosRec.released PosRec.endSuspension
  dsimp only
  rw [seek]
  cases r.seek with
  | suspended ret =>
    dsimp only
    split
    · rfl
    · exact PosRec.blind_evaluate h h' { r with mode := .coordinated }
  | idle => rfl
  | seeking => rfl
  | inStep => rfl

/-- The end of a cause does not read the direction, the remaining and the correction, and reads the plan for those alone. -/
theorem Holding.ended_blind (h h' : Header) (y : Holding) :
    (y.ended x h off v p).1.blind = (Holding.ended x h' off v p (y.1.blind, y.2)).1.blind ∧
      (y.ended x h off v p).2 = (Holding.ended x h' off v p (y.1.blind, y.2)).2 := by
  by_cases ho : y.1.owner = some v
  · cases hc : y.1.claims with
    | nil =>
      rw [Holding.ended_released ho hc, Holding.ended_released (y := (y.1.blind, y.2)) ho hc]
      refine ⟨?_, rfl⟩
      exact congrArg (fun r : PosRec => { r with claims := r.claims.filter fun w => w != v })
        (PosRec.blind_released h h' off { y.1 with owner := none })
    | cons w rest =>
      rw [Holding.ended_handed ho hc, Holding.ended_handed (y := (y.1.blind, y.2)) ho hc]
      exact ⟨rfl, rfl⟩
  · rw [Holding.ended_notOwned ho, Holding.ended_notOwned (y := (y.1.blind, y.2)) ho]
    exact ⟨rfl, rfl⟩

theorem Holding.ended_blind_congr (hr : y'.1.blind = y.1.blind) (ho : y'.2 = y.2) :
    (y'.ended x h' off v p).1.blind = (y.ended x h off v p).1.blind ∧ (y'.ended x h' off v p).2 = (y.ended x h off v p).2 := by
  obtain ⟨record, order⟩ := Holding.ended_blind h' h (x := x) (off := off) (v := v) (p := p) y'
  obtain ⟨record', order'⟩ := Holding.ended_blind h h (x := x) (off := off) (v := v) (p := p) y
  rw [record, order, record', order', hr, ho]
  exact ⟨rfl, rfl⟩

/-! ### States alike for the causes -/

/-- Two states alike for the causes: the same preemption, master, orders and records, but for the travel when their plans differ. -/
structure State.Alike (s s' : State) : Prop where
  pre : s'.pre = s.pre
  ctl : s'.ctl = s.ctl
  orders : ∀ p, s'.trunk.orders.get p = s.trunk.orders.get p
  blind : ∀ p, (s'.posRec p).blind = (s.posRec p).blind
  exact : s'.plan = s.plan → ∀ p, s'.posRec p = s.posRec p

theorem State.holding_expire (v : VecIx) (s : State) (p : Pos) :
    (s.expire v).holding p = (s.holding p).ended (s.pre.disarm v) s.plan (!s.ctl.master.runs) v p :=
  State.holding_endCause v .expiry p

theorem State.expire_pre (v : VecIx) (s : State) :
    (s.expire v).pre = { s.pre.disarm v with
      causes := (s.pre.disarm v).causes.set v.val none v.isLt
      lastEnd := (s.pre.disarm v).lastEnd.set v.val (some .expiry) v.isLt } := by
  rw [State.expire_eq, State.endCause_pre]
  rfl

theorem State.expire_plan (v : VecIx) (s : State) : (s.expire v).plan = s.plan := State.plan_of_kept (s.kept_expire v)

namespace State.Alike

theorem expire (k : s.Alike s') (v : VecIx) : (s.expire v).Alike (s'.expire v) := by
  have blind (p : Pos) := Holding.ended_blind_congr (h := s.plan) (h' := s'.plan) (x := s.pre.disarm v) (off := !s.ctl.master.runs)
    (v := v) (p := p) (y := s.holding p) (y' := s'.holding p) (k.blind p) (k.orders p)
  have holding (p : Pos) : (s'.expire v).holding p = (s'.holding p).ended (s.pre.disarm v) s'.plan (!s.ctl.master.runs) v p := by
    rw [State.holding_expire, k.pre, k.ctl]
  refine ⟨by rw [State.expire_pre, State.expire_pre, k.pre], ?_, fun p => ?_, fun p => ?_, fun hp p => ?_⟩
  · rw [(State.KeepsBand.expire v s').ctl, (State.KeepsBand.expire v s).ctl, k.ctl]
  · rw [← State.holding_snd, ← State.holding_snd, holding, State.holding_expire]
    exact (blind p).2
  · rw [← State.holding_fst, ← State.holding_fst, holding, State.holding_expire]
    exact (blind p).1
  · rw [State.expire_plan, State.expire_plan] at hp
    have same : s'.holding p = s.holding p := Prod.ext (k.exact hp p) (k.orders p)
    rw [← State.holding_fst, ← State.holding_fst, holding, State.holding_expire, same, hp]

theorem entersStep (k : s.Alike s') (l : t.Alike w) : EntersStep s' w ↔ EntersStep s t :=
  exists_congr fun p => by rw [PosRec.blind_seek (k.blind p), PosRec.blind_seek (l.blind p)]

/-- The holds that end do the same in both, and raise the same. -/
theorem expireAll (vs : List VecIx) (k : s.Alike s') : (s.expireAll vs).Alike (s'.expireAll vs) ∧
    ∃ fs P, Raises fs P s (s.expireAll vs) ∧ Raises fs P s' (s'.expireAll vs) := by
  induction vs generalizing s s' with
  | nil => exact ⟨k, [], fun _ => False, .refl s, .refl s'⟩
  | cons v vs ih =>
    have one := k.expire v
    obtain ⟨all, fs, P, raises, raises'⟩ := ih one
    have first := (State.expires v s).2.2
    have first' := (State.expires v s').2.2.iff (Q := EndAlerts s (s.expire v)) fun c =>
      or_congr_right (and_congr_right fun _ => k.entersStep one)
    rw [State.expireAll_cons, State.expireAll_cons]
    exact ⟨all, _, _, first.trans raises (State.clock_of_kept (s.kept_expire v)),
      first'.trans raises' (State.clock_of_kept (s'.kept_expire v))⟩

end State.Alike

/-! ### What a later part of a run raises -/

/-- What is raised from `w` on when `fs` and `P` were raised up to it and all of it from a state with the same Fault and Alert Unit and
clock. -/
theorem Raises.difference {fs gs : List FaultInfo} {P A : AlertClass → Prop} (k : Raises fs P s w)
    (l : Raises (fs ++ gs) (fun c => P c ∨ A c) s' t) (hf : s'.faults = s.faults) (hc : w.clock = s.clock) (hc' : s'.clock = s.clock) :
    Raises gs A w t := by
  have l := l.congr (s' := s) (t' := t) hf.symm hc'.symm rfl
  have mono (c : AlertClass) (hp : w.faults.pending.get c.ix = true) : t.faults.pending.get c.ix = true := by
    rw [l.pending]
    rw [k.pending] at hp
    rcases hp with h | h | ⟨h, hne⟩
    · exact .inl h
    · exact .inr (.inl (.inl h))
    · exact .inr (.inr ⟨h, fun e => hne (List.append_eq_nil_iff.1 e).1⟩)
  have grown (c : AlertClass) (hp : s.faults.pending.get c.ix = true) : w.faults.pending.get c.ix = true :=
    (k.pending c).2 (.inl hp)
  refine ⟨?_, fun i => ?_, fun c => ?_, ?_, ?_⟩
  · rw [l.first, k.first, hc]
    cases s.faults.first with
    | some r => rfl
    | none => cases fs <;> rfl
  · rw [l.next, k.next, k.first]
    cases s.faults.first with
    | some r => simp [or_assoc, or_and_right, exists_or]
    | none => cases fs <;> simp [or_assoc, or_and_right, exists_or]
  · rw [l.pending, k.pending]
    constructor
    · rintro (h | (h | h) | ⟨rfl, h⟩)
      · exact .inl (.inl h)
      · exact .inl (.inr (.inl h))
      · exact .inr (.inl h)
      · by_cases hfs : fs = []
        · exact .inr (.inr ⟨rfl, fun e => h (by rw [hfs, e]; rfl)⟩)
        · exact .inl (.inr (.inr ⟨rfl, hfs⟩))
    · rintro ((h | h | ⟨rfl, h⟩) | h | ⟨rfl, h⟩)
      · exact .inl h
      · exact .inr (.inl (.inl h))
      · exact .inr (.inr ⟨rfl, fun e => h (List.append_eq_nil_iff.1 e).1⟩)
      · exact .inr (.inl (.inr h))
      · exact .inr (.inr ⟨rfl, fun e => h (List.append_eq_nil_iff.1 e).2⟩)
  · rw [l.waiting, k.waiting, k.kept.1]
    constructor
    · rintro (h | ⟨c, h0, h1, he⟩)
      · exact .inl (.inl h)
      · cases hw : w.faults.pending.get c.ix with
        | true => exact .inl (.inr ⟨c, h0, hw, he⟩)
        | false => exact .inr ⟨c, hw, h1, he⟩
    · rintro ((h | ⟨c, h0, h1, he⟩) | ⟨c, h0, h1, he⟩)
      · exact .inl h
      · exact .inr ⟨c, h0, mono c h1, he⟩
      · exact .inr ⟨c, Bool.eq_false_iff.2 fun e => Bool.false_ne_true (h0.symm.trans (grown c e)), h1, he⟩
  · rw [l.kept.1, l.kept.2.1, l.kept.2.2, k.kept.1, k.kept.2.1, k.kept.2.2]
    exact ⟨rfl, rfl, rfl⟩

end

end Sys2Proof.Machine

end

section
/-! The blocks that take a rollover before the Measurement Unit (R31, R32, R47, R50, R101, R126): the clock, the Plan Store and the store,
the Trunk Controller, the position records. -/

namespace Sys2Proof.Machine

section
variable {s t u : State} {h : Header} {a off : Bool} {r : PosRec} {x : Pre} {v : VecIx} {p : Pos} {y : Holding}

/-! ### The clock, the Plan Store and the store -/

/-- The Plan Store over a rollover (R31). -/
def PlanStore.turned (x : PlanStore) : PlanStore := { x with active := x.pendingSlot.getD x.active, pendingSlot := none }

/-- The clock over a rollover into cycles of length `c` (R47). -/
def Clock.turned (k : Clock) (c : Nat) : Clock :=
  { k with dsRunning := k.dsLength, cyclePos := 0, cycleNo := k.cycleNo + 1, c := c }

/-- What a state keeps over the clock's part of a rollover, and what it does not (R31, R47). -/
def State.turned (s : State) : State :=
  { s with
    plans := s.plans.turned
    clock := s.clock.turned (s.plans.turned.header s.plans.turned.active).c
    store := match s.plans.pendingSlot with
      | some i => { s.store with active := i }
      | none => s.store
    unfinished := match s.plans.pendingSlot with
      | some _ => some { before := s.store, port := none }
      | none => s.unfinished }

theorem State.turnCycle_eq_turned (s : State) : s.turnCycle = s.turned := by
  obtain ⟨_, _, _, ⟨_, _, pendingSlot⟩, _⟩ := s
  cases pendingSlot <;> rfl

/-- What the clock's part of a rollover makes of the kept part reads that part alone. -/
theorem State.kept_turned (hk : t.kept = s.kept) : t.turned.kept = s.turned.kept := by
  have plans : t.plans = s.plans := congrArg Kept.plans hk
  have clock : t.clock = s.clock := congrArg Kept.clock hk
  have store : t.store = s.store := congrArg Kept.store hk
  have unfinished : t.unfinished = s.unfinished := congrArg Kept.unfinished hk
  have whole (w : State) : w.turned.kept = { w.kept with
    plans := w.turned.plans, clock := w.turned.clock, store := w.turned.store, unfinished := w.turned.unfinished } := rfl
  rw [whole, whole, hk]
  unfold State.turned
  dsimp only
  rw [plans, clock, store, unfinished]

/-! ### The blocks after the clock -/

theorem PosRec.activates_eq (r : PosRec) : r.activates = { r with
    target := none, running := none, travel := none, reload := true, seek := r.seek.afterActivation } := by
  unfold PosRec.activates SeekState.afterActivation
  cases r.seek <;> rfl

theorem PosRec.afterRollover_unactivated (h : Header) (r : PosRec) :
    r.afterRollover h false = ({ r with spent := false } : PosRec).recorrect h := by
  unfold PosRec.afterRollover
  rw [PosRec.recorrect, PosRec.roundCorrection_eq_owed]
  rfl

theorem PosRec.afterRollover_activated (h : Header) (r : PosRec) :
    r.afterRollover h true = ({ r.activates.recorrect h with spent := false } : PosRec).recorrect h := by
  unfold PosRec.afterRollover
  rw [PosRec.activates_eq, PosRec.recorrect, PosRec.roundCorrection_eq_owed]
  rfl

theorem State.seekActivation_plan (s : State) : s.seekActivation.plan = s.plan := by
  rw [State.seekActivation, State.plan, State.mapPosRec_plans]
  rfl

theorem State.posRec_seekBoundary (a : Bool) (s : State) (p : Pos) :
    (s.seekBoundary a).posRec p = (s.posRec p).afterRollover s.plan a := by
  unfold State.seekBoundary
  cases a with
  | false =>
    rw [PosRec.afterRollover_unactivated, if_neg Bool.false_ne_true, State.seekRollover, State.posRec_mapPosRec]
  | true =>
    rw [PosRec.afterRollover_activated, if_pos rfl, State.seekRollover, State.posRec_mapPosRec, State.seekActivation_plan,
      State.seekActivation, State.posRec_mapPosRec]

theorem State.seekBoundary_trunk (a : Bool) (s : State) : (s.seekBoundary a).trunk = s.trunk := by
  cases a <;> simp [State.seekBoundary, State.seekRollover, State.seekActivation]
theorem State.seekBoundary_pre (a : Bool) (s : State) : (s.seekBoundary a).pre = s.pre := by
  cases a <;> simp [State.seekBoundary, State.seekRollover, State.seekActivation]
theorem State.seekBoundary_faults (a : Bool) (s : State) : (s.seekBoundary a).faults = s.faults := by
  cases a <;> simp [State.seekBoundary, State.seekRollover, State.seekActivation]

theorem State.trunkRollover_trunk (s : State) :
    s.trunkRollover.trunk = { s.trunk with roundOpen := false, waitingBeacon := some true } := rfl

theorem State.posRec_activationAlert (a : Bool) (s : State) (p : Pos) : (s.activationAlert a).posRec p = s.posRec p := by
  cases a <;> rfl
theorem State.activationAlert_trunk (a : Bool) (s : State) : (s.activationAlert a).trunk = s.trunk := by cases a <;> rfl
theorem State.activationAlert_pre (a : Bool) (s : State) : (s.activationAlert a).pre = s.pre := by cases a <;> rfl

theorem State.posRec_fanOut (a : Bool) (s : State) (p : Pos) : (s.fanOut a).posRec p = (s.posRec p).afterRollover s.plan a := by
  rw [State.fanOut, State.posRec_activationAlert, State.posRec_seekBoundary]
  rfl

theorem State.fanOut_trunk (a : Bool) (s : State) :
    (s.fanOut a).trunk = { s.trunk with roundOpen := false, waitingBeacon := some true } := by
  rw [State.fanOut, State.activationAlert_trunk, State.seekBoundary_trunk, State.trunkRollover_trunk]

theorem State.fanOut_pre (a : Bool) (s : State) : (s.fanOut a).pre = s.pre := by
  rw [State.fanOut, State.activationAlert_pre, State.seekBoundary_pre]
  rfl

theorem Raises.fanOut (a : Bool) (s : State) : Raises [] (fun c => c = .plan ∧ a = true) s (s.fanOut a) := by
  have faults : (s.trunkRollover.seekBoundary a).faults = s.faults := State.seekBoundary_faults a _
  unfold State.fanOut
  cases a with
  | false => exact (Raises.of_faults_eq faults).iff fun c => by simp
  | true =>
    have alerted : (s.trunkRollover.seekBoundary true).alert .plan = (s.trunkRollover.seekBoundary true).activationAlert true := rfl
    rw [← alerted]
    exact (Raises.of_alert .plan (congrArg (fun f : FaultUnit => f.alert .plan) faults)).iff fun c => by simp

/-! ### The records after a rollover (R32, R101) -/

/-- The round of a position is over and its correction is the one owed; after an activation it has no target, no offset and no travel
either, is to be reloaded, and is not IN_STEP. -/
structure PosRec.Settled (h : Header) (a : Bool) (r : PosRec) : Prop where
  spent : r.spent = false
  correction : r.correction = r.owed h
  activated : a = true → r.target = none ∧ r.running = none ∧ r.travel = none ∧ r.reload = true ∧ r.seek ≠ .inStep

theorem SeekState.afterActivation_ne (k : SeekState) : k.afterActivation ≠ .inStep := by
  cases k <;> nofun

theorem PosRec.settled_recorrect (hs : r.spent = false)
    (ha : a = true → r.target = none ∧ r.running = none ∧ r.travel = none ∧ r.reload = true ∧ r.seek ≠ .inStep) :
    (r.recorrect h).Settled h a where
  spent := hs
  correction := PosRec.roundCorrection_eq_owed h r
  activated := ha

theorem PosRec.settled_afterRollover (h : Header) (a : Bool) (r : PosRec) : (r.afterRollover h a).Settled h a := by
  cases a with
  | false =>
    rw [PosRec.afterRollover_unactivated]
    exact PosRec.settled_recorrect rfl fun ha => nomatch ha
  | true =>
    rw [PosRec.afterRollover_activated, PosRec.activates_eq]
    exact PosRec.settled_recorrect rfl fun _ => ⟨rfl, rfl, rfl, rfl, SeekState.afterActivation_ne _⟩

/-- An activation does not read what follows the active plan. -/
theorem PosRec.afterRollover_blind {r' : PosRec} (e : r'.blind = r.blind) : r'.afterRollover h true = r.afterRollover h true := by
  have same (r : PosRec) : r.afterRollover h true = r.blind.afterRollover h true := by
    rw [PosRec.afterRollover_activated, PosRec.afterRollover_activated, PosRec.activates_eq, PosRec.activates_eq]
    rfl
  rw [same, e, ← same]

/-- The end of a suspension leaves a record without target and offset so, and not IN_STEP. -/
theorem PosRec.endSuspension_of_bare (ht : r.target = none) (hs : r.seek ≠ .inStep) (hv : r.travel = none) :
    ∃ k : SeekState, k ≠ .inStep ∧ r.endSuspension h off = { r with seek := k } := by
  unfold PosRec.endSuspension
  split
  · split
    · exact ⟨.idle, nofun, by rw [← hv]⟩
    · exact ⟨.seeking, nofun, by rw [PosRec.evaluate, ht, ← hv]⟩
  · exact ⟨r.seek, hs, rfl⟩

/-- The end of a cause leaves a record settled. -/
theorem PosRec.Settled.ended (hy : y.1.Settled h a) : (y.ended x h off v p).1.Settled h a := by
  have unclaimed {r : PosRec} (k : r.Settled h a) : (r.unclaimed v).Settled h a :=
    ⟨k.spent, k.correction.trans (PosRec.owed_congr h rfl rfl rfl).symm, k.activated⟩
  refine unclaimed ?_
  unfold Holding.givenUp
  split
  · split
    · refine PosRec.settled_recorrect (by rw [PosRec.released_eq]; exact hy.spent) fun ha => ?_
      obtain ⟨target, running, travel, reload, seek⟩ := hy.activated ha
      obtain ⟨k, hk, bare⟩ := PosRec.endSuspension_of_bare (h := h) (off := off)
        (r := { ({ y.1 with owner := none } : PosRec) with mode := .coordinated }) target seek travel
      rw [PosRec.released, bare]
      exact ⟨target, running, travel, reload, hk⟩
    · exact PosRec.settled_recorrect hy.spent hy.activated
  · exact hy

/-- The holds that end leave the records settled. -/
theorem State.settled_expireAll (vs : List VecIx) (hs : ∀ p, (s.posRec p).Settled s.plan a) (p : Pos) :
    ((s.expireAll vs).posRec p).Settled s.plan a := by
  induction vs generalizing s with
  | nil => exact hs p
  | cons v vs ih =>
    have plan := State.expire_plan v s
    rw [State.expireAll_cons]
    have rest := ih (s := s.expire v) fun p => by
      rw [plan, ← State.holding_fst, State.holding_expire]
      exact (hs p).ended
    rwa [plan] at rest

end

end Sys2Proof.Machine

end

section
/-! The rollover in every order of the blocks: the state that each order leaves, and what all of them leave alike. -/

namespace Sys2Proof.Machine

section
variable {s t u w y : State} {o : BoundaryOrder} {a : Bool} {m : BandMoment} {n : HoldMoment}

/-! ### The end of the decisecond for the holds -/

theorem State.expireAll_pre (vs : List VecIx) (h : t.pre = s.pre) : (t.expireAll vs).pre = (s.expireAll vs).pre := by
  induction vs generalizing s t with
  | nil => exact h
  | cons v vs ih =>
    rw [State.expireAll_cons, State.expireAll_cons]
    exact ih (by rw [State.expire_pre, State.expire_pre, h])

theorem State.endingHolds_congr (h : t.pre = s.pre) : t.endingHolds = s.endingHolds := by
  unfold State.endingHolds
  rw [h]

/-- The end of the decisecond of a state with the causes of `s`. -/
theorem State.holdCountdown_of_pre (h : t.pre = s.pre) : t.holdCountdown = (t.setPre s.pre.counted).expireAll s.endingHolds := by
  rw [State.holdCountdown_eq, State.endingHolds_congr h, h]

theorem State.holdCountdown_pre (h : t.pre = s.pre) : t.holdCountdown.pre = s.holdCountdown.pre := by
  rw [State.holdCountdown_of_pre h, State.holdCountdown_eq]
  exact State.expireAll_pre _ rfl

/-! ### The state of each order -/

/-- The rollover of the Measurement Unit and the Band Computer in the order named, after that of the other blocks. -/
def State.rollsAll (a : Bool) (m : BandMoment) (s : State) : State := (s.fanOut a).measureAndTrigger a m

section
variable (h : s.clock.cyclePos + 1 = s.clock.c)
include h

theorem State.boundary_beforeClock (ho : o.hold = .beforeClock) :
    s.boundary o = s.holdCountdown.turned.rollsAll s.plans.pendingSlot.isSome o.band := by
  rw [State.boundary_eq_beforeMeasure h, State.beforeMeasure]
  simp only [State.holdAt, ho, reduceCtorEq, if_false, if_true, State.turnCycle_eq_turned, State.rollsAll]

theorem State.boundary_beforeSeeks (ho : o.hold = .beforeSeeks) :
    s.boundary o = s.turned.holdCountdown.rollsAll s.plans.pendingSlot.isSome o.band := by
  rw [State.boundary_eq_beforeMeasure h, State.beforeMeasure]
  simp only [State.holdAt, ho, reduceCtorEq, if_false, if_true, State.turnCycle_eq_turned, State.rollsAll]

theorem State.boundary_beforeBand (ho : o.hold = .beforeBand) : s.boundary o =
    (s.turned.fanOut s.plans.pendingSlot.isSome).holdCountdown.measureAndTrigger s.plans.pendingSlot.isSome o.band := by
  rw [State.boundary_eq_beforeMeasure h, State.beforeMeasure]
  simp only [State.holdAt, ho, reduceCtorEq, if_false, if_true, State.turnCycle_eq_turned]

theorem State.boundary_afterAll (ho : o.hold = .afterAll) :
    s.boundary o = (s.turned.rollsAll s.plans.pendingSlot.isSome o.band).holdCountdown := by
  rw [State.boundary_eq_beforeMeasure h, State.beforeMeasure]
  simp only [State.holdAt, ho, reduceCtorEq, if_false, if_true, State.turnCycle_eq_turned, State.rollsAll]

end

/-! ### What every order leaves alike -/

theorem State.rollsAll_pre (a : Bool) (m : BandMoment) (s : State) : (s.rollsAll a m).pre = s.pre :=
  (Measured.measureAndTrigger a m _).pre.trans (State.fanOut_pre a s)

theorem State.boundary_pre (h : s.clock.cyclePos + 1 = s.clock.c) (o : BoundaryOrder) : (s.boundary o).pre = s.holdCountdown.pre := by
  have turned (w : State) : w.turned.pre = w.pre := rfl
  cases ho : o.hold with
  | beforeClock =>
    rw [State.boundary_beforeClock h ho, State.rollsAll_pre]
    exact turned s.holdCountdown
  | beforeSeeks =>
    rw [State.boundary_beforeSeeks h ho, State.rollsAll_pre]
    exact State.holdCountdown_pre (turned s)
  | beforeBand =>
    rw [State.boundary_beforeBand h ho, (Measured.measureAndTrigger ..).pre]
    exact State.holdCountdown_pre ((State.fanOut_pre _ _).trans (turned s))
  | afterAll =>
    rw [State.boundary_afterAll h ho]
    exact State.holdCountdown_pre ((State.rollsAll_pre ..).trans (turned s))

theorem State.OrdersOnly.holdAt (n : HoldMoment) (o : BoundaryOrder) (s : State) : s.OrdersOnly (s.holdAt n o) := by
  unfold State.holdAt
  split
  · exact .holdCountdown s
  · exact .refl s

/-- The round closes and the rollover beacon waits; of the rest of the Trunk Controller only the orders change. -/
theorem State.beforeMeasure_trunk (o : BoundaryOrder) (s : State) :
    { (s.beforeMeasure o).trunk with orders := s.trunk.orders } = { s.trunk with roundOpen := false, waitingBeacon := some true } := by
  unfold State.beforeMeasure
  rw [State.turnCycle_eq_turned]
  have clock := (State.OrdersOnly.holdAt .beforeClock o s).trunk_eq
  generalize s.holdAt .beforeClock o = b at clock ⊢
  have seeks := (State.OrdersOnly.holdAt .beforeSeeks o b.turned).trunk_eq
  generalize b.turned.holdAt .beforeSeeks o = c at seeks ⊢
  have fanned := State.fanOut_trunk s.plans.pendingSlot.isSome c
  generalize c.fanOut s.plans.pendingSlot.isSome = d at fanned ⊢
  rw [(State.OrdersOnly.holdAt .beforeBand o d).trunk_eq, fanned, seeks, show b.turned.trunk = b.trunk from rfl, clock]

/-- What a rollover leaves of the parts that the end of the decisecond for the holds does not write, and of the causes. -/
structure RollsOver (o : BoundaryOrder) (s t : State) : Prop where
  kept : t.kept = { s.turned.kept with links := t.links, meas := t.meas }
  trunk : { t.trunk with orders := s.trunk.orders } = { s.trunk with roundOpen := false, waitingBeacon := some true }
  ctl : t.ctl = s.ctl
  turns : BandTurns (rolloverTriggers t.plan.adaptive s.plans.pendingSlot.isSome
    (!s.plans.pendingSlot.isSome && decide (t.meas.dir ≠ s.meas.dir))) o.band s t
  starts : s.plans.pendingSlot.isSome = true → t.TideStarts
  pre : t.pre = s.holdCountdown.pre

theorem State.rollsOver (h : s.clock.cyclePos + 1 = s.clock.c) (o : BoundaryOrder) : RollsOver o s (s.boundary o) := by
  have pre := State.boundary_pre h o
  rw [State.boundary_eq_beforeMeasure h] at pre ⊢
  have keptU : (s.beforeMeasure o).kept = s.turned.kept := by
    rw [State.beforeMeasure_kept, State.turnCycle_eq_turned, State.kept_turned (State.kept_holdAt ..)]
  have trunkU := State.beforeMeasure_trunk o s
  have bandU := State.beforeMeasure_keepsBand (s := s) (o := o)
  have linksU := State.beforeMeasure_links (s := s) (o := o)
  have measU := State.beforeMeasure_meas (s := s) (o := o)
  generalize s.beforeMeasure o = u at *
  generalize hact : s.plans.pendingSlot.isSome = a at *
  have measured := Measured.measureAndTrigger a o.band u
  have turns := (State.measureAndTrigger_turns a o.band u _ rfl rfl).1
  have starts (ha : a = true) : (u.measureAndTrigger a o.band).TideStarts := ha ▸ State.TideStarts.measureAndTrigger o.band u
  generalize u.measureAndTrigger a o.band = m at *
  have keptT : (m.holdAt .afterAll o).kept = m.kept := State.kept_holdAt ..
  have bandT := State.KeepsBand.holdAt .afterAll o m
  have trunkT := State.OrdersOnly.holdAt .afterAll o m
  generalize m.holdAt .afterAll o = t at *
  have links := State.links_of_kept keptT
  have meas := State.meas_of_kept keptT
  have plan := State.plan_of_kept keptT
  refine ⟨?_, ?_, ?_, ?_, fun ha => ?_, pre⟩
  · rw [keptT, measured.kept, links, meas, keptU]
  · rw [trunkT.trunk_eq, measured.trunk]
    exact trunkU
  · rw [bandT.ctl, measured.ctl, bandU.ctl]
  · rw [hact, plan, measured.plan, meas, ← measU]
    exact turns.congr bandU.band.symm bandU.ctl.symm linksU.symm bandT.band keptT
  · exact (starts (hact ▸ ha)).congr keptT

end

end Sys2Proof.Machine

end

section
/-! Settlement of O36: the rollover, with the holds that end before or after the change of the position records. -/

namespace Sys2Proof.Machine

section
variable {s t u w y : State} {o : BoundaryOrder} {a : Bool} {m : BandMoment}

/-! ### The states named by the rule -/

/-- The start of the holds that end before the position records change. -/
def State.earlyRollover (o : BoundaryOrder) (s t : State) : State :=
  { s with pre := s.pre.counted, clock := if o.hold = .beforeClock then s.clock else t.clock }

/-- `t` without what the holds that end change and without what is raised: the rollover of `s`. -/
def State.quietRollover (s t : State) : State :=
  { t with
    pos := Vector.ofFn fun p => (s.posRec p).afterRollover t.plan s.plans.pendingSlot.isSome
    pre := s.pre.counted, trunk := { t.trunk with orders := s.trunk.orders }, faults := s.faults }

/-- The alert classes of a rollover: PLAN at an activation, TIDE when the tide turns. -/
def RolloverAlerts (a : Bool) (s t : State) (c : AlertClass) : Prop :=
  c = .plan ∧ a = true ∨ c = .tide ∧ (!a && decide (t.meas.dir ≠ s.meas.dir)) = true

/-- From `s` to `t` the holds end before the position records change. -/
def EndsEarly (o : BoundaryOrder) (s t : State) : Prop :=
  ∃ w, Expires s.endingHolds (s.earlyRollover o t) w ∧
    (∀ p, t.posRec p = (w.posRec p).afterRollover t.plan s.plans.pendingSlot.isSome) ∧ t.trunk.orders = w.trunk.orders ∧
    t.pre = w.pre ∧ Raises (s.startFaults t) (RolloverAlerts s.plans.pendingSlot.isSome s t) { w with clock := t.clock } t

theorem State.quietRollover_posRec (s t : State) (p : Pos) :
    (s.quietRollover t).posRec p = (s.posRec p).afterRollover t.plan s.plans.pendingSlot.isSome := get_ofFn _ p

section
variable (s t : State)

theorem State.quietRollover_band : (s.quietRollover t).band = t.band := by simp only [State.quietRollover]
theorem State.quietRollover_ctl : (s.quietRollover t).ctl = t.ctl := by simp only [State.quietRollover]
theorem State.quietRollover_plan : (s.quietRollover t).plan = t.plan := by simp only [State.plan, State.quietRollover]
theorem State.quietRollover_clock : (s.quietRollover t).clock = t.clock := by simp only [State.quietRollover]
theorem State.quietRollover_pre : (s.quietRollover t).pre = s.pre.counted := by simp only [State.quietRollover]
theorem State.quietRollover_faults : (s.quietRollover t).faults = s.faults := by simp only [State.quietRollover]
theorem State.quietRollover_trunk : (s.quietRollover t).trunk = { t.trunk with orders := s.trunk.orders } := by
  simp only [State.quietRollover]

end

theorem State.pos_ext (h : ∀ p, t.posRec p = s.posRec p) : t.pos = s.pos :=
  Vector.ext fun i hi => h ⟨i, hi⟩

/-- A state is another one but for what the causes and the faults write, when it has its band, master and kept part. -/
theorem State.eq_of_rest {P : Vector PosRec 24} {T : Trunk} {C : Pre} (hb : w.band = u.band) (hc : w.ctl = u.ctl)
    (hk : w.kept = u.kept) (hp : w.pos = P) (ht : w.trunk = T) (hr : w.pre = C) :
    w = { u with pos := P, trunk := T, pre := C, faults := w.faults } := by
  subst hp ht hr
  cases w
  cases u
  cases hb
  cases hc
  injection hk with links memGen plans clock meas centre field store unfinished powered now pending
  cases links
  cases memGen
  cases plans
  cases clock
  cases meas
  cases centre
  cases field
  cases store
  cases unfinished
  cases powered
  cases now
  cases pending
  rfl

/-- Putting its own values back into a state in which they were replaced gives that state. -/
theorem State.eq_of_replaced {P : Vector PosRec 24} {T : Trunk} {C : Pre} {F : FaultUnit}
    (hu : u = { t with pos := P, trunk := T, pre := C, faults := F }) :
    { u with pos := t.pos, trunk := t.trunk, pre := t.pre, faults := t.faults } = t := by
  subst hu
  rfl

/-- A state before or without the holds that end is the quiet rollover but for what was raised. -/
theorem State.eq_quietRollover (hb : w.band = t.band) (hc : w.ctl = t.ctl) (hk : w.kept = t.kept)
    (hp : ∀ p, w.posRec p = (s.posRec p).afterRollover t.plan s.plans.pendingSlot.isSome) (ht : w.OrdersOnly t)
    (ho : w.trunk.orders = s.trunk.orders) (hr : w.pre = s.pre.counted) : w = { s.quietRollover t with faults := w.faults } := by
  have trunk : w.trunk = { t.trunk with orders := s.trunk.orders } := by
    rw [← ho]
    exact Eq.symm ht
  have pos : w.pos = Vector.ofFn fun p => (s.posRec p).afterRollover t.plan s.plans.pendingSlot.isSome :=
    Vector.ext fun i hi => by
      rw [Vector.getElem_ofFn]
      exact hp ⟨i, hi⟩
  have rest := State.eq_of_rest (u := t) hb hc hk pos trunk hr
  unfold State.quietRollover
  dsimp only
  exact rest

/-- A rollover whose quiet part went through the holds that end to `w` is `w` but for what was raised. -/
theorem State.eq_of_quietRollover (hb : w.band = t.band) (hc : w.ctl = t.ctl) (hk : w.kept = (s.quietRollover t).kept)
    (hp : ∀ p, t.posRec p = w.posRec p) (ho : (s.quietRollover t).OrdersOnly w) (ht : t.trunk.orders = w.trunk.orders)
    (hr : t.pre = w.pre) : t = { w with faults := t.faults } := by
  have trunk : w.trunk = t.trunk := by
    rw [ho.trunk_eq, ← ht, State.quietRollover_trunk]
  have rest := State.eq_of_rest (u := s.quietRollover t) (hb.trans (s.quietRollover_band t).symm)
    (hc.trans (s.quietRollover_ctl t).symm) hk (State.pos_ext hp).symm trunk hr.symm
  unfold State.quietRollover at rest
  dsimp only at rest
  rw [rest]

/-! ### The order of the blocks after the clock -/

/-- What the position records, the orders and the faults are after the blocks that follow the holds that end. -/
theorem State.rollsAll_outcome (ht : t = y.rollsAll a m) :
    (∀ p, t.posRec p = (y.posRec p).afterRollover t.plan a) ∧ t.trunk.orders = y.trunk.orders ∧ t.plan = y.plan ∧
      t.clock = y.clock ∧ Raises (y.startFaults t) (RolloverAlerts a y t) y t := by
  have keptF : (y.fanOut a).kept = y.kept := State.kept_fanOut a y
  have measured : Measured (y.fanOut a) t := ht ▸ Measured.measureAndTrigger a m _
  have raised := (State.measureAndTrigger_turns a m (y.fanOut a) t ht rfl).2
  have clockF : (y.fanOut a).clock = y.clock := State.clock_of_kept keptF
  have plan : t.plan = y.plan := measured.plan.trans (State.plan_of_kept keptF)
  have all := (Raises.fanOut a y).trans raised clockF
  rw [State.meas_of_kept keptF, State.startFaults_congr (State.KeepsBand.fanOut a y).band rfl] at all
  refine ⟨fun p => ?_, ?_, plan, measured.clock.trans clockF, all⟩
  · rw [State.posRec_of_pos measured.pos, State.posRec_fanOut, plan]
  · rw [measured.trunk, State.fanOut_trunk]

/-! ### The orders of the holds that end -/

section
variable (h : s.clock.cyclePos + 1 = s.clock.c)
include h

theorem State.rollover_beforeClock (ho : o.hold = .beforeClock) (ht : t = s.boundary o) : EndsEarly o s t := by
  refine ⟨(s.earlyRollover o t).expireAll s.endingHolds, State.expires_expireAll _ _, ?_⟩
  have early : s.earlyRollover o t = s.setPre s.pre.counted := by
    rw [State.earlyRollover, if_pos ho]
    rfl
  rw [early, ← State.holdCountdown_eq]
  have kept := s.kept_holdCountdown
  have band := (State.KeepsBand.holdCountdown s).band
  have whole := ht.trans (State.boundary_beforeClock h ho)
  generalize s.holdCountdown = w at *
  obtain ⟨posRec, orders, plan, clock, raised⟩ := State.rollsAll_outcome whole
  have pre : t.pre = w.pre := whole ▸ State.rollsAll_pre _ _ _
  have meas : w.turned.meas = s.meas := (State.meas_of_kept kept : w.meas = s.meas)
  refine ⟨posRec, orders, pre, ?_⟩
  unfold RolloverAlerts at raised ⊢
  rw [State.startFaults_congr (s := s) (t := t) (show w.turned.band = s.band from band) rfl, meas] at raised
  exact raised.congr rfl clock rfl

theorem State.rollover_beforeSeeks (ho : o.hold = .beforeSeeks) (ht : t = s.boundary o) : EndsEarly o s t := by
  refine ⟨(s.earlyRollover o t).expireAll s.endingHolds, State.expires_expireAll _ _, ?_⟩
  have whole := ht.trans (State.boundary_beforeSeeks h ho)
  rw [State.holdCountdown_of_pre (s := s) (t := s.turned) rfl] at whole
  obtain ⟨posRec, orders, plan, clock, raised⟩ := State.rollsAll_outcome whole
  have pre := whole ▸ State.rollsAll_pre s.plans.pendingSlot.isSome o.band
    ((s.turned.setPre s.pre.counted).expireAll s.endingHolds)
  have keptY := State.kept_expireAll s.endingHolds (s.turned.setPre s.pre.counted)
  have bandY := (State.KeepsBand.expireAll s.endingHolds (s.turned.setPre s.pre.counted)).band
  have early : (s.earlyRollover o t).clock = t.clock := by
    rw [State.earlyRollover, if_neg (by rw [ho]; nofun)]
  have alike : (s.earlyRollover o t).Alike (s.turned.setPre s.pre.counted) :=
    ⟨rfl, rfl, fun _ => rfl, fun _ => rfl, fun _ _ => rfl⟩
  have clocks : s.turned.clock = t.clock := (clock.trans (State.clock_of_kept keptY)).symm
  have plans : s.plans.pendingSlot.isSome = false → s.turned.plan = s.plan := fun ha => by
    have hn : s.plans.pendingSlot = none := Option.isSome_eq_false_iff.1 ha |> Option.isNone_iff_eq_none.1
    show s.plans.header (s.plans.pendingSlot.getD s.plans.active) = _
    rw [hn]
    rfl
  obtain ⟨⟨pre', -, orders', blind, exact'⟩, fs, P, raisedW, raisedY⟩ := alike.expireAll s.endingHolds
  have keptW := State.kept_expireAll s.endingHolds (s.earlyRollover o t)
  generalize (s.turned.setPre s.pre.counted).expireAll s.endingHolds = y at *
  generalize (s.earlyRollover o t).expireAll s.endingHolds = w at *
  have planW : w.plan = s.plan := (State.plan_of_kept keptW : w.plan = (s.earlyRollover o t).plan)
  have planY : y.plan = s.turned.plan := State.plan_of_kept keptY
  have measY : y.meas = s.meas := (State.meas_of_kept keptY : y.meas = (s.turned.setPre s.pre.counted).meas)
  have bandY' : y.band = s.band := bandY
  have clockY : y.clock = s.turned.clock := State.clock_of_kept keptY
  refine ⟨fun p => (posRec p).trans ?_, ?_, ?_, ?_⟩
  · cases ha : s.plans.pendingSlot.isSome with
    | true => exact PosRec.afterRollover_blind (blind p)
    | false => rw [exact' (by rw [planY, plans ha, planW]) p]
  · exact orders.trans (Vector.ext fun i hi => orders' ⟨i, hi⟩)
  · exact pre.trans pre'
  · have all := raisedY.trans raised clockY
    unfold RolloverAlerts at all ⊢
    rw [State.startFaults_congr (s := s) (t := t) bandY' rfl, measY] at all
    have clockW : w.clock = (s.earlyRollover o t).clock := State.clock_of_kept keptW
    exact (raisedW.difference all rfl clockW (clocks.trans early.symm)).congr rfl (clockW.trans early).symm rfl

theorem State.rollover_early (ho : o.hold = .beforeClock ∨ o.hold = .beforeSeeks) (ht : t = s.boundary o) : EndsEarly o s t :=
  ho.elim (fun ho => State.rollover_beforeClock h ho ht) fun ho => State.rollover_beforeSeeks h ho ht

/-- The holds end between the change of the position records and the Measurement Unit. -/
theorem State.rollover_beforeBand (ho : o.hold = .beforeBand) (ht : t = s.boundary o) :
    ∃ w, Expires s.endingHolds (s.quietRollover t) w ∧ t = { w with faults := t.faults } ∧
      Raises (s.startFaults t) (RolloverAlerts s.plans.pendingSlot.isSome s t) w t := by
  refine ⟨(s.quietRollover t).expireAll s.endingHolds, State.expires_expireAll _ _, ?_⟩
  have whole := ht.trans (State.boundary_beforeBand h ho)
  have preF : (s.turned.fanOut s.plans.pendingSlot.isSome).pre = s.pre := State.fanOut_pre _ _
  have posF := State.posRec_fanOut s.plans.pendingSlot.isSome s.turned
  have trunkF := State.fanOut_trunk s.plans.pendingSlot.isSome s.turned
  have keptF : (s.turned.fanOut s.plans.pendingSlot.isSome).kept = s.turned.kept := State.kept_fanOut _ _
  have keepsF := State.KeepsBand.fanOut s.plans.pendingSlot.isSome s.turned
  have raisedF := Raises.fanOut s.plans.pendingSlot.isSome s.turned
  rw [State.holdCountdown_of_pre preF] at whole
  generalize s.turned.fanOut s.plans.pendingSlot.isSome = f at *
  have measured : Measured ((f.setPre s.pre.counted).expireAll s.endingHolds) t :=
    whole ▸ Measured.measureAndTrigger s.plans.pendingSlot.isSome o.band _
  have raisedM := (State.measureAndTrigger_turns s.plans.pendingSlot.isSome o.band _ t whole rfl).2
  have keptU := State.kept_expireAll s.endingHolds (f.setPre s.pre.counted)
  have keepsU := State.KeepsBand.expireAll s.endingHolds (f.setPre s.pre.counted)
  have planT : t.plan = s.turned.plan :=
    measured.plan.trans ((State.plan_of_kept keptU).trans (State.plan_of_kept keptF : f.plan = _))
  have ctlT : t.ctl = s.ctl := measured.ctl.trans (keepsU.ctl.trans keepsF.ctl)
  have records (p : Pos) : (f.setPre s.pre.counted).posRec p = (s.quietRollover t).posRec p := by
    rw [State.quietRollover_posRec, planT]
    exact posF p
  have ordersF : f.trunk.orders = s.trunk.orders := (congrArg Trunk.orders trunkF).trans rfl
  have alike : (s.quietRollover t).Alike (f.setPre s.pre.counted) := by
    refine ⟨(s.quietRollover_pre t).symm, ?_, fun p => ?_, fun p => by rw [records], fun _ => records⟩
    · rw [State.quietRollover_ctl, ctlT]
      exact keepsF.ctl
    · rw [State.quietRollover_trunk]
      exact congrArg (fun x : Vector (Option OrderEntry) 24 => x.get p) ordersF
  obtain ⟨⟨pre', -, orders', -, exact'⟩, fs, P, raisedW, raisedU⟩ := alike.expireAll s.endingHolds
  have keptW := State.kept_expireAll s.endingHolds (s.quietRollover t)
  have keepsW := State.KeepsBand.expireAll s.endingHolds (s.quietRollover t)
  have only := State.OrdersOnly.expireAll s.endingHolds (s.quietRollover t)
  generalize (f.setPre s.pre.counted).expireAll s.endingHolds = u at *
  generalize (s.quietRollover t).expireAll s.endingHolds = w at *
  have planU : u.plan = w.plan := by
    rw [State.plan_of_kept keptW, State.quietRollover_plan, measured.plan]
  refine ⟨State.eq_of_quietRollover (keepsW.band.trans (s.quietRollover_band t)) (keepsW.ctl.trans (s.quietRollover_ctl t)) keptW
    (fun p => ?_) only ?_ (by rw [measured.pre, pre']), ?_⟩
  · rw [State.posRec_of_pos measured.pos, exact' planU p]
  · rw [measured.trunk]
    exact Vector.ext fun i hi => orders' ⟨i, hi⟩
  · have clockF : f.clock = s.turned.clock := State.clock_of_kept keptF
    have clockU : u.clock = f.clock := (State.clock_of_kept keptU : _ = (f.setPre s.pre.counted).clock)
    have measU : u.meas = s.meas :=
      (State.meas_of_kept keptU).trans (State.meas_of_kept keptF : f.meas = s.turned.meas)
    have bandU : u.band = s.band := keepsU.band.trans keepsF.band
    have all := ((raisedF.congr (t' := f.setPre s.pre.counted) rfl rfl rfl).trans raisedU clockF).trans raisedM (clockU.trans clockF)
    have clockQ : s.turned.clock = (s.quietRollover t).clock := by
      rw [State.quietRollover_clock, measured.clock, clockU, clockF]
    have classes := all.iff (Q := fun c => P c ∨ RolloverAlerts s.plans.pendingSlot.isSome s t c) fun c => by
      unfold RolloverAlerts
      rw [measU, or_comm (a := c = .plan ∧ _), or_assoc]
    rw [List.nil_append, State.startFaults_congr (s := s) (t := t) bandU rfl] at classes
    exact raisedW.difference classes (s.quietRollover_faults t).symm (State.clock_of_kept keptW) clockQ

/-- The holds end after all the blocks took the rollover. -/
theorem State.rollover_afterAll (ho : o.hold = .afterAll) (ht : t = s.boundary o) :
    ∃ w, w = { s.quietRollover t with faults := w.faults } ∧
      Raises (s.startFaults t) (RolloverAlerts s.plans.pendingSlot.isSome s t) (s.quietRollover t) w ∧ Expires s.endingHolds w t := by
  have whole := ht.trans (State.boundary_afterAll h ho)
  have preM : (s.turned.rollsAll s.plans.pendingSlot.isSome o.band).pre = s.pre := State.rollsAll_pre _ _ _
  rw [State.holdCountdown_of_pre preM] at whole
  obtain ⟨posRec, orders, plan, clock, raised⟩ := State.rollsAll_outcome (y := s.turned) (a := s.plans.pendingSlot.isSome)
    (m := o.band) rfl
  generalize s.turned.rollsAll s.plans.pendingSlot.isSome o.band = r at *
  have expires := State.expires_expireAll s.endingHolds (r.setPre s.pre.counted)
  have kept := State.kept_expireAll s.endingHolds (r.setPre s.pre.counted)
  have keeps := State.KeepsBand.expireAll s.endingHolds (r.setPre s.pre.counted)
  have only := State.OrdersOnly.expireAll s.endingHolds (r.setPre s.pre.counted)
  rw [← whole] at expires kept keeps only
  have planT : t.plan = r.plan := (State.plan_of_kept kept : t.plan = (r.setPre s.pre.counted).plan)
  have measT : t.meas = r.meas := (State.meas_of_kept kept : t.meas = (r.setPre s.pre.counted).meas)
  have clockT : t.clock = r.clock := (State.clock_of_kept kept : t.clock = (r.setPre s.pre.counted).clock)
  have bandT : t.band = r.band := keeps.band
  have posW (p : Pos) : (r.setPre s.pre.counted).posRec p = (s.posRec p).afterRollover t.plan s.plans.pendingSlot.isSome := by
    rw [planT]
    exact posRec p
  have ordersW : (r.setPre s.pre.counted).trunk.orders = s.trunk.orders := orders
  refine ⟨r.setPre s.pre.counted, ?_, ?_, expires⟩
  · generalize hw : r.setPre s.pre.counted = w at kept keeps only posW ordersW
    exact State.eq_quietRollover keeps.band.symm keeps.ctl.symm kept.symm posW only ordersW (hw ▸ rfl)
  · unfold RolloverAlerts at raised ⊢
    rw [measT, State.startFaults_congr (s := s.turned) (s' := s) (t := r) (t' := t) rfl bandT]
    exact raised.congr (s.quietRollover_faults t) ((s.quietRollover_clock t).trans (clockT.trans clock)) rfl

end

end

end Sys2Proof.Machine

end

section
/-! Settlement of O36: the rollover, by either of its two names. -/

namespace Sys2Proof.Machine

section
variable {s t : State} {o : BoundaryOrder} (h : s.clock.cyclePos + 1 = s.clock.c)
include h

/-- Every order leaves every position record settled (R32, R101). -/
theorem State.boundary_settled (o : BoundaryOrder) (p : Pos) :
    ((s.boundary o).posRec p).Settled (s.boundary o).plan s.plans.pendingSlot.isSome := by
  generalize ht : s.boundary o = t
  have early (ho : o.hold = .beforeClock ∨ o.hold = .beforeSeeks) : (t.posRec p).Settled t.plan s.plans.pendingSlot.isSome := by
    obtain ⟨w, -, posRec, -⟩ := State.rollover_early h ho ht.symm
    rw [posRec]
    exact PosRec.settled_afterRollover _ _ _
  cases ho : o.hold with
  | beforeClock => exact early (.inl ho)
  | beforeSeeks => exact early (.inr ho)
  | beforeBand =>
    have whole := ht.symm.trans (State.boundary_beforeBand h ho)
    rw [State.holdCountdown_eq] at whole
    have fanned (p : Pos) := State.posRec_fanOut s.plans.pendingSlot.isSome s.turned p
    have plan : (s.turned.fanOut s.plans.pendingSlot.isSome).plan = s.turned.plan := State.plan_of_kept (State.kept_fanOut _ _)
    generalize s.turned.fanOut s.plans.pendingSlot.isSome = f at *
    have settled := State.settled_expireAll (s := f.setPre f.pre.counted) (a := s.plans.pendingSlot.isSome) f.endingHolds
      (fun p => by
        rw [show (f.setPre f.pre.counted).posRec p = _ from fanned p, show (f.setPre f.pre.counted).plan = _ from plan]
        exact PosRec.settled_afterRollover _ _ _) p
    have planU : ((f.setPre f.pre.counted).expireAll f.endingHolds).plan = (f.setPre f.pre.counted).plan :=
      State.plan_of_kept (State.kept_expireAll _ _)
    have measured := whole ▸ Measured.measureAndTrigger s.plans.pendingSlot.isSome o.band
      ((f.setPre f.pre.counted).expireAll f.endingHolds)
    rw [State.posRec_of_pos measured.pos, measured.plan, planU]
    exact settled
  | afterAll =>
    have whole := ht.symm.trans (State.boundary_afterAll h ho)
    rw [State.holdCountdown_eq] at whole
    have rolled := (State.rollsAll_outcome (y := s.turned) (a := s.plans.pendingSlot.isSome) (m := o.band) rfl).1
    generalize s.turned.rollsAll s.plans.pendingSlot.isSome o.band = r at *
    have settled := State.settled_expireAll (s := r.setPre r.pre.counted) (a := s.plans.pendingSlot.isSome) r.endingHolds
      (fun p => by
        rw [show (r.setPre r.pre.counted).posRec p = _ from rolled p]
        exact PosRec.settled_afterRollover _ _ _) p
    have planT : ((r.setPre r.pre.counted).expireAll r.endingHolds).plan = (r.setPre r.pre.counted).plan :=
      State.plan_of_kept (State.kept_expireAll _ _)
    rw [whole, planT]
    exact settled

/-- Without a hold that ends the rollover is the quiet one, in every order. -/
theorem State.rollover_quiet (hn : s.endingHolds = []) (ht : t = s.boundary o) :
    t = { s.quietRollover t with faults := t.faults } ∧
      Raises (s.startFaults t) (RolloverAlerts s.plans.pendingSlot.isSome s t) (s.quietRollover t) t := by
  have early (ho : o.hold = .beforeClock ∨ o.hold = .beforeSeeks) : t = { s.quietRollover t with faults := t.faults } ∧
      Raises (s.startFaults t) (RolloverAlerts s.plans.pendingSlot.isSome s t) (s.quietRollover t) t := by
    obtain ⟨w, expires, posRec, orders, pre, raised⟩ := State.rollover_early h ho ht
    rw [hn] at expires
    obtain rfl : w = s.earlyRollover o t := expires
    exact ⟨State.eq_quietRollover rfl rfl rfl posRec (.refl t) orders pre,
      raised.congr (s.quietRollover_faults t) (s.quietRollover_clock t) rfl⟩
  cases ho : o.hold with
  | beforeClock => exact early (.inl ho)
  | beforeSeeks => exact early (.inr ho)
  | beforeBand =>
    obtain ⟨w, expires, same, raised⟩ := State.rollover_beforeBand h ho ht
    rw [hn] at expires
    obtain rfl : w = s.quietRollover t := expires
    exact ⟨same, raised⟩
  | afterAll =>
    obtain ⟨w, same, raised, expires⟩ := State.rollover_afterAll h ho ht
    rw [hn] at expires
    obtain rfl : t = w := expires
    exact ⟨same, raised⟩

end

/-- Settles O36: the rollover, in every order of the blocks. -/
theorem rolloverRule : Obligations.RolloverRule := by
  unfold Obligations.RolloverRule
  intro s o hp
  refine ⟨fun hc => ?_, fun hc => ?_⟩
  · show powered _ s = _
    rw [powered, if_pos hp, if_neg hc]
  · intro activated
    have runR := exec_rollover (o := o) hp hc
    have runD : exec (.decisecond o) s = .next (s.boundary o) := by
      show powered (State.boundary o) s = _
      rw [powered, if_pos hp]
    obtain ⟨kept, trunk, ctl, turns, starts, pre⟩ := State.rollsOver hc o
    have settled := State.boundary_settled hc o
    have quiet := State.rollover_quiet (o := o) (t := s.boundary o) hc
    have early := State.rollover_early (o := o) (t := s.boundary o) hc
    have beforeBand := State.rollover_beforeBand (o := o) (t := s.boundary o) hc
    have afterAll := State.rollover_afterAll (o := o) (t := s.boundary o) hc
    generalize s.boundary o = t at *
    have plans : t.plans = s.turned.plans := congrArg Kept.plans kept
    have plan : t.plan = s.turned.plan := congrArg (fun x : PlanStore => x.header x.active) plans
    have clock : t.clock = s.turned.clock := congrArg Kept.clock kept
    have store : t.store = s.turned.store := congrArg Kept.store kept
    have unfinished : t.unfinished = s.turned.unfinished := congrArg Kept.unfinished kept
    refine ⟨t, runR, runD, plans, ?_, fun hn => ?_, fun i hi => ?_, fun p => ⟨(settled p).spent, (settled p).correction⟩,
      s.countsDown.congr rfl pre, ?_, ?_, ?_, ctl, ?_⟩
    · rw [plan]
      exact clock
    · rw [store, unfinished]
      unfold State.turned
      dsimp only
      rw [hn]
      exact ⟨rfl, rfl⟩
    · have ha : s.plans.pendingSlot.isSome = true := by rw [hi]; rfl
      obtain ⟨tide, dir⟩ := starts ha
      refine ⟨?_, ?_, tide, dir, fun p => (settled p).activated ha⟩
      · rw [store]
        unfold State.turned
        dsimp only
        rw [hi]
      · rw [unfinished]
        unfold State.turned
        dsimp only
        rw [hi]
    · exact (congrArg Trunk.waitingBeacon trunk :)
    · exact congrArg (fun x : Trunk => ({ x with waitingBeacon := s.trunk.waitingBeacon } : Trunk)) trunk
    · exact ⟨turns, fun hn => quiet hn rfl, fun ho => early ho rfl, fun ho => beforeBand ho rfl, fun ho => afterAll ho rfl⟩
    · rw [kept]
      rfl

end Sys2Proof.Machine

end
